-- ==== Sys2Proof/Word.lean ====
section
/-! DEFINITION. The word types of the model and their plainest arithmetic. -/
namespace Sys2Proof

/-- One byte of host memory or of a buffer (R9: host structures are little-endian). -/
abbrev Byte := BitVec 8

/-- One 32-bit register word. -/
abbrev Word := BitVec 32

/-- A run of bytes, lowest address first. -/
abbrev Bytes := List (BitVec 8)

/-- A sparse array: rising keys, no entry equal to the array's default (see Machine/Map.lean). -/
abbrev SMap (α : Type) := List (Nat × α)

end Sys2Proof
end

