-- ==== Sys2Proof/Machine/Names.lean ====
section
/-! DEFINITION. Names that commands and state share: the switchable units and the kinds of line failure. -/
namespace Sys2Proof.Machine

/-- The switchable units of 01 and the Mooring cluster of R645. Queue 64 of a domain is its admin queue. `logbook` and
`flash` are the NV controllers, which only fault (R15, R500). -/
inductive UnitId where
  | dom (d : Fin 256)
  | queue (d : Fin 256) (q : Fin 65)
  | lane (i : Fin 16)
  | pair (i : Fin 12)
  | pipe (i : Fin 8)
  | legacy
  | rng
  | card
  | rf
  | core (c : Fin 4)
  | mooring
  | logbook
  deriving DecidableEq, Repr, Inhabited

/-- How one line of a mooring read (R218 to R220). -/
inductive LineRes where
  | ok
  | corrected
  | mac
  | ecc
  deriving DecidableEq, Repr, Inhabited

/-- What a health-test window of a noise pair shows (R324): its longest run of equal samples, and how often its first sample
recurs in it. -/
structure PairWindow where
  run : Nat
  recurs : Nat
  deriving DecidableEq, Repr, Inhabited

/-- What the comparator and the validity checks find when the engines finish an operation (R283 to R285). -/
inductive PkEnd where
  | agree
  | compare
  | validity
  deriving DecidableEq, Repr, Inhabited

/-- A write to the whole of an 8 B register, or to one 4 B half of it (R82). -/
inductive Half where
  | whole
  | lo
  | hi
  deriving DecidableEq, Repr, Inhabited

/-- The setup registers of a queue pair (R156, R157); `sizes` are SQ_LOG2 and CQ_LOG2 of QP_CONFIG. -/
inductive QpSetup where
  | sqBase
  | cqBase
  | dbAddr
  | sizes
  deriving DecidableEq, Repr, Inhabited

/-- A polling read: a port line, a domain beacon block, or a doorbell record (R143). -/
inductive PollRead where
  | line (p : Fin 4)
  | block (d : Fin 256)
  | doorbell (d : Fin 256) (q : Fin 65)
  deriving DecidableEq, Repr, Inhabited

/-- What a configuration read asks for (R74, R79 to R81). `bar` and `vfBar` name BAR0, or BAR2 where `second`. -/
inductive CfgReg where
  | ids
  | classCode
  | capabilities
  | bar (second : Bool)
  | vfBar (second : Bool)
  | sriov
  | deviceControl
  | timeout
  | ecrc
  | power
  | margin (lane : Fin 16)
  deriving DecidableEq, Repr, Inhabited

/-- What a configuration request asks for: a plain access that reads or changes nothing that the spec gives, a read, or a
write of a function's BARs and settings and of a port's (R74, R75, R79 to R81, R83, R147). -/
inductive CfgReq where
  | plain
  | read (f : Fin 64) (r : CfgReg)
  | bar (f : Fin 64) (second : Bool) (v : BitVec 64)
  | vfBar (second : Bool) (v : BitVec 64)
  | payload (f : Fin 64) (log2 : Fin 8)
  | relaxed (f : Fin 64) (on : Bool)
  | timeout (f : Fin 64) (range : Fin 16) (off : Bool)
  | ecrc (f : Fin 64) (gen check : Bool)
  | power (f : Fin 64) (d3hot : Bool)
  | margin (lane : Fin 16) (v : BitVec 16)
  | msix (f : Fin 64) (en mask : Bool)
  | readSize (log2 : Fin 6)
  | vfs (num : Fin 64) (en : Bool)
  | aspm (l1 : Bool)
  deriving DecidableEq, Repr, Inhabited

/-- How a flash read decodes (R371): at once, at one of the four retries, or not at all. -/
inductive FlashRead where
  | clean
  | retry (n : Fin 4)
  | lost
  deriving DecidableEq, Repr, Inhabited

/-- A clock whose loss is reported (R61): a crystal, a PLL, or a port's reference. -/
inductive ClockId where
  | xtal25
  | xtal32k
  | xtal27m
  | pllDp
  | pllDram
  | pllKpr
  | port (n : Fin 4)
  deriving DecidableEq, Repr, Inhabited

/-- A land that the device drives. -/
inductive Pin where
  | lockupN
  | fieldDet
  | smbAlertN
  deriving DecidableEq, Repr, Inhabited

/-- The register of a plain write: of a core at an offset from 0x4000_0000 (R397), or of a host at an offset of a
function's BAR0 or BAR2 (R81). `hi` is the upper word of an 8 B write (R82). -/
inductive RegTarget where
  | keeper (c : Fin 4) (off : BitVec 24)
  | host (d : Fin 256) (off : BitVec 16) (hi : Option (BitVec 32))
  | msix (d : Fin 256) (off : BitVec 14) (hi : Option (BitVec 32))
  deriving DecidableEq, Repr, Inhabited

/-- The register of a read: of a core, the low word of an 8 B register (R398), or of a host in a function's BAR0 or BAR2
(R82). -/
inductive RegSource where
  | keeper (c : Fin 4) (off : BitVec 24)
  | host (d : Fin 256) (off : BitVec 16)
  | msix (d : Fin 256) (off : BitVec 14)
  deriving DecidableEq, Repr, Inhabited

/-- An operand of a keeper instruction: a register, an immediate, or a memory operand in a mode of R431 or R436. `scale` is
the index's shift, `v` a displacement. -/
inductive Opnd where
  | d (i : Fin 16)
  | a (i : Fin 8)
  | q (i : Fin 4)
  | imm (v : BitVec 32)
  | ind (a : Fin 8)
  | post (a : Fin 8)
  | pre (a : Fin 8)
  | disp (a : Fin 8) (v : BitVec 32)
  | idx (a : Fin 8) (i : Fin 16) (scale : Fin 4) (v : BitVec 32)
  | abs (v : BitVec 32)
  | pcrel (v : BitVec 32)
  | memInd (a : Fin 8) (inner outer : BitVec 32)
  deriving DecidableEq, Repr, Inhabited

/-- A register of a core, as a debug master names it: of the main bank or, where `sh`, of the shadow bank; a 32-bit part of
an accumulator; or a system register. -/
inductive CoreReg where
  | d (sh : Bool) (i : Fin 16)
  | a (sh : Bool) (i : Fin 8)
  | q (i : Fin 4) (part : Fin 3)
  | sys (n : Fin 16)
  deriving DecidableEq, Repr, Inhabited

/-- Where a debug transfer goes: from an address on, or to one register of a core (R621). -/
inductive DbgTarget where
  | mem (a : BitVec 32)
  | core (c : Fin 4) (r : CoreReg)
  deriving DecidableEq, Repr, Inhabited

/-- A debug transfer: a read of `n` + 1 words, or a write. -/
inductive DbgXfer where
  | read (n : Fin 64)
  | write (ws : List (BitVec 32))
  deriving DecidableEq, Repr, Inhabited

end Sys2Proof.Machine
end

