-- ==== Sys2Proof/Syntax.lean ====
section
/-! DEFINITION. The commands the block takes: one constructor per row of the spec's table of operations and events, with
the operands that come from outside the block (an address, a value, a length, what a read returned). -/
namespace Sys2Proof
open Machine

/-- The commands the block takes: one constructor per row of the spec's table of operations and events. -/
inductive Instr where
  /-- POWER_START (R32): VIN has stayed between 4.5 V and 18 V for 10 ms, so the device closes its input switch and begins the power-up sequence. -/
  | powerStart
  /-- VIN_SAMPLE (R31): VIN is measured every 10 µs, which decides the supply band, VIN_LOW, OV_WARN and the clamp behaviour. -/
  | vinSample (mv : BitVec 16) (ma : BitVec 16) (low : Bool)
  /-- CLAMP_MS_DECAY (R33): After each 10 ms in which the clamp is not active, CLAMP_MS falls by 1. -/
  | clampMsDecay
  /-- OVERVOLTAGE_STOP (R31): Clamping has accumulated 100 ms, so the input switch opens and the device stops from step 2 of R43. -/
  | overvoltageStop
  /-- BROWNOUT_STOP (R43): VIN has stayed below 4.2 V for 50 µs, so the stop is declared, admission closes and the logic-die rails switch off. -/
  | brownoutStop
  /-- STOP_FLUSH_COMPLETE (R43): The logbook staging flush of a stop ends, the backup-only state is entered and the hold-up bank is disconnected. -/
  | stopFlushComplete
  /-- HOLDUP_LOW_DETECT (R46): CAP_UF is below 1,300 or VHU_MV falls below 4,700, so HOLDUP_LOW is set, POWER_EVENT pends and the logbook can no longer record. -/
  | holdupLowDetect (vhu : BitVec 16)
  /-- GOVERNOR_BAND_FALL (R36): VIN has stayed below the band's falling edge for 100 µs, so the band falls, the allotment shrinks and POWER_EVENT pends. -/
  | governorBandFall
  /-- GOVERNOR_BAND_RISE (R36): VIN has stayed 0.2 V above the next band's edge for 10 ms, so the band rises by one step. -/
  | governorBandRise
  /-- CLOCK_STRETCH (R39): Input current above 8.5 A in the reduced band makes the cipher and PK clocks stretch by cycle skipping, and STRETCH is set. -/
  | clockStretch
  /-- STRETCH_RELEASE (R39): Input current has stayed at or below 8.0 A for 10 µs, so the clock returns to 1.0 GHz. -/
  | stretchRelease
  /-- THERMAL_THROTTLE_STEP (R40): Every 10 ms at 105 °C or more the thermal allotment falls by one row, and every 100 ms after cooling it rises by one row. -/
  | thermalThrottleStep (tj : BitVec 16) (cl : Fin 10)
  /-- THERMAL_SHUTDOWN (R41): Two samples 1 ms apart read 120 °C or more, so the device stops as on loss of input and records THERMAL_SHUTDOWN. -/
  | thermalShutdown (tj : BitVec 16) (cl : Fin 10)
  /-- CLOCK_LOSS (R61): A PLL loses lock or a crystal stops, so the affected domain's clock is held low and CLOCK_MONITOR pends. -/
  | clockLoss (k : ClockId)
  /-- DRAM_SELF_REFRESH_ENTRY (R64): No domain has been ON and no request has reached the stack for 10 ms, so the DRAM enters self-refresh. -/
  | dramSelfRefreshEntry
  /-- DRAM_WAKE_COMPLETE (R65): The DRAM leaves self-refresh and becomes available, and the requests waiting on it proceed. -/
  | dramWakeComplete
  /-- PLL_LOCK (R68): The PLLs lock at power-up, the port PLLs start and the boot counter advances. -/
  | pllLock
  /-- BOOT_ROM (R609): Core 0 ROM selects the candidate bank, verifies the image and either jumps to ENTRY or ends the boot with a cause. -/
  | bootRom
  /-- FIRMWARE_START (R68): Firmware loads the KEK, trains the DRAM, sets the memory key, restores curves, starts the key image and opens the host ports. -/
  | firmwareStart (bad : List (Fin 64))
  /-- READY_REPORT (R68): Host ports are open and VHU_MV has reached 4,700, so READY is reported in the capability block. -/
  | readyReport (cap : BitVec 16) (vhu : BitVec 16)
  /-- MANAGEMENT_TICK (R21): At each management tick edge every counter is latched into a snapshot and each core's tick latch is set. -/
  | managementTick (edges : Nat)
  /-- UNIT_EN_WRITE (R24): A write to the EN field of a unit control word moves the unit by the state table. -/
  | unitEnWrite (u : UnitId) (v : Bool)
  /-- UNIT_QUIESCE (R24): Writing QUIESCE clears EN and aborts the unit's admitted work. -/
  | unitQuiesce (u : UnitId) (en : Bool)
  /-- UNIT_RESET (R24): Writing RESET to a FAULTED unit scrubs it and moves it to OFF, and on to STARTING when EN is 1. -/
  | unitReset (u : UnitId) (en fw : Bool)
  /-- UNIT_INIT_COMPLETE (R24): A unit finishes initialisation, or fails it, and moves from STARTING to ON, or to FAULTED. -/
  | unitInitComplete (u : UnitId) (fail : Fin 256)
  /-- UNIT_DRAIN_COMPLETE (R24): A draining unit holds no more work and moves to OFF, or on to STARTING when an enable was latched. -/
  | unitDrainComplete (u : UnitId)
  /-- UNIT_FAULT (R24): A unit detects a fault and enters FAULTED, aborting its admitted work. -/
  | unitFault (u : UnitId) (cause : Fin 256)
  /-- POLICY_COMMIT (R19): Writing QE_POLICY_CTRL.COMMIT makes the inactive policy bank active at the next admission boundary, unless COMMIT_BUSY refuses it. -/
  | policyCommit
  /-- REGISTER_WRITE (R10): A write to a register that has no row of its own takes effect by its access code, or is discarded and logged. -/
  | registerWrite (t : RegTarget) (v : BitVec 32)
  /-- REGISTER_WIDE_READ (R398): A keeper read of the low word of an 8 B register latches the high word for the next read. -/
  | registerWideRead (t : RegSource) (wide : Bool)
  /-- HPT_STRAP_WRITE (R73): A write to the strap word is stored to flash, logged and applied at the next power-on or brown-out reset. -/
  | hptStrapWrite (v : BitVec 32)
  /-- PERST_ASSERT (R91): An observed assertion of PERST#_N loses the port and quiesces its domains. -/
  | perstAssert (n : Fin 4)
  /-- PERST_RELEASE (R76): Release of PERST#_N starts link training of the port. -/
  | perstRelease (n : Fin 4)
  /-- LINK_DOWN (R91): The port's link leaves L0, L0p and L1, so the port is lost. -/
  | linkDown (n : Fin 4)
  /-- FUNCTION_LEVEL_RESET (R98): An FLR applies port-loss treatment to one function, or to a PF and its VFs, and resets its registers. -/
  | functionLevelReset (d : Fin 256)
  /-- VF_ENABLE_CLEAR (R96): Clearing VF Enable or lowering NumVFs loses the VFs concerned and keeps their moorings and keys. -/
  | vfEnableClear (n : Fin 4) (num : Option (Fin 64))
  /-- LINK_TRAINING_COMPLETE (R76): A port reaches L0, with RATE_DOWN set if it trained below what the strap permits. -/
  | linkTrainingComplete (n : Fin 4) (rate : Fin 7) (width : Fin 17) (flit : Bool)
  /-- L0P_REQUEST (R75): The link partner requests an L0p width change, and the device grants it. -/
  | l0pRequest (n : Fin 4) (width : Fin 17)
  /-- ASPM_L1_ENTRY (R75): With L1 enabled, no work in flight and no poll due within 32 µs, the port enters ASPM L1. -/
  | aspmL1Entry (n : Fin 4) (pollDue : Bool)
  /-- PARTNER_RATE_CHANGE (R77): The link partner requests a rate change, and the device accepts it. -/
  | partnerRateChange (n : Fin 4) (rate : Fin 7)
  /-- CONFIG_REQUEST (R67): A configuration request is completed normally, or with Request Retry Status before step 9 of R68. -/
  | configRequest (n : Fin 4) (r : CfgReq)
  /-- CORRECTABLE_ERROR (R90): A correctable PCIe error is reported through AER and counted. -/
  | correctableError (d : Fin 256)
  /-- UNCORRECTABLE_ERROR (R90): A fatal uncorrectable error is treated as loss of the port. -/
  | uncorrectableError (n : Fin 4)
  /-- DMA_READ_ERROR (R89): A device-issued request ends in UR, CA, completion timeout or poisoned data, so the operation ends with DMA_ERROR. -/
  | dmaReadError (tag : Fin 4096)
  /-- HOST_BAR_ACCESS_BAD (R82): A BAR access that is not a naturally aligned 4 B or 8 B access gets Unsupported Request, or its write is discarded, with an advisory error. -/
  | hostBarAccessBad (d : Fin 256) (read : Bool)
  /-- MSIX_UNMASK (R153): Unmasking a vector whose PBA bit is pending sends its message. -/
  | msixUnmask (d : Fin 256) (v : Option (Fin 65))
  /-- PORT_BEACON_WRITE (R144): A write to PORT_BEACON that changes EN or ADDR discards earlier poll results and restarts polling of the port. -/
  | portBeaconWrite (n : Fin 4) (h : Half) (v : Nat)
  /-- QP_SETUP_WRITE (R158): A write to a queue pair's address or size fields is applied only while the queue is OFF, and otherwise discarded and logged. -/
  | qpSetupWrite (d : Fin 256) (q : Fin 65) (f : QpSetup) (h : Half) (v : Nat)
  /-- QP_CONFIG_WRITE (R158): A QP_CONFIG write updates the poll class, IRQ_EN and the coalescing fields, and keeps the old POLL_CLASS when 3 is written. -/
  | qpConfigWrite (d : Fin 256) (q : Fin 65) (v : BitVec 32)
  /-- QP_DOM_BEACON_WRITE (R162): A write to QP_DOM_BEACON is applied while the domain is OFF, and otherwise discarded and logged. -/
  | qpDomBeaconWrite (d : Fin 256) (h : Half) (v : Nat)
  /-- PORT_LINE_READ (R140): The port interval expires, so the port beacon line is read. -/
  | portLineRead (n : Fin 4)
  /-- PORT_LINE_RESULT (R142): A port-line read returns, and domain block reads are issued for the functions whose byte changed, with W updated. -/
  | portLineResult (n : Fin 4) (line : Bytes) (rtt : Nat)
  /-- DOMAIN_BLOCK_RESULT (R142): A domain beacon block read returns, and doorbell reads are issued for the admin queue and the changed queues. -/
  | domainBlockResult (d : Fin 256) (blk : Bytes) (rtt : Nat)
  /-- DOORBELL_RESULT (R142): A doorbell record read returns and check_doorbell starts a fetch, faults the queue or schedules a recheck. -/
  | doorbellResult (d : Fin 256) (q : Fin 65) (rec : Bytes) (rtt : Nat)
  /-- DOORBELL_RECHECK (R142): 250 ns after a stale doorbell read, the doorbell record is read again. -/
  | doorbellRecheck (d : Fin 256) (q : Fin 65)
  /-- QUEUE_SWEEP (R143): Each 1,024 µs sweep reads every ON queue's doorbell record, spread evenly over the period. -/
  | queueSweep (n : Fin 4)
  /-- BEACON_READ_FAILURE (R143): A failed beacon or doorbell read restores the SEEN values, counts READ_ERR and faults the queue after 16 failures. -/
  | beaconReadFailure (r : PollRead)
  /-- DESCRIPTOR_FETCH_RESULT (R147): Descriptors returned by a fetch are held for admission, or completed with DMA_ERROR when the fetch failed. -/
  | descriptorFetchResult (d : Fin 256) (q : Fin 65) (data : Option Bytes) (rtt : Nat)
  /-- DESCRIPTOR_ADMISSION (R107): The head descriptor of a queue is checked, then admitted with a tag and a policy epoch, or held, or rejected. -/
  | descriptorAdmission (d : Fin 256) (q : Fin 64)
  /-- MOORING_CACHE_FILL (R215): A mooring cache fill returns its lines, which are checked, and the waiting operation continues. -/
  | mooringCacheFill (ix : Fin 4194304) (lines : List LineRes)
  /-- PARAMETER_BLOCK_RESULT (R171): The parameter block of an admitted operation returns and its header and body are checked. -/
  | parameterBlockResult (tag : Fin 4096) (pb : Bytes) (rtt : Nat)
  /-- INPUT_READ_RESULT (R234): Input or auxiliary data of a dispatched operation arrives, and its pass can begin. -/
  | inputReadResult (tag : Fin 4096) (input aux : Bytes) (rtt : Nat)
  /-- ADMIN_COMPLETION_WRITE (R18): Firmware places an admin completion in the hand-off ring, and the completion writer delivers it. -/
  | adminCompletionWrite (d : Fin 256)
  /-- COALESCE_TIMER (R153): COAL_TIME + 1 µs after the first pending entry, the queue's MSI-X message is sent. -/
  | coalesceTimer (d : Fin 256) (q : Fin 64)
  /-- SEAL (R236): The SEAL opcode encrypts and authenticates plaintext under an outbound mooring with a device-assigned nonce. -/
  | opSeal (tag : Fin 4096)
  /-- OPEN (R237): The OPEN opcode decrypts and verifies a message under an inbound mooring. -/
  | opOpen (tag : Fin 4096)
  /-- RESEAL (R240): The RESEAL opcode opens under an inbound mooring and seals under an outbound mooring without releasing plaintext. -/
  | opReseal (tag : Fin 4096)
  /-- CIPHER (R242): The CIPHER opcode runs an AES mode under a stored key. -/
  | opCipher (tag : Fin 4096)
  /-- HASH (R256): The HASH opcode computes a SHA-2, SHA-3 or SHAKE digest. -/
  | opHash (tag : Fin 4096)
  /-- MAC (R257): The MAC opcode generates or verifies an HMAC under a stored key. -/
  | opMac (tag : Fin 4096)
  /-- KDF (R258): The KDF opcode derives bytes with HKDF or SP 800-108 counter mode. -/
  | opKdf (tag : Fin 4096)
  /-- PIN_TRANSLATE (R245): The PIN_TRANSLATE opcode re-enciphers an ISO 9564-1 PIN block from one key and format to another. -/
  | opPinTranslate (tag : Fin 4096)
  /-- MOOR (R203): The MOOR opcode allocates a mooring slot with a new key and returns its handle. -/
  | opMoor (tag : Fin 4096)
  /-- REKEY (R209): The REKEY opcode replaces a mooring's key and keeps its handle. -/
  | opRekey (tag : Fin 4096)
  /-- UNMOOR (R210): The UNMOOR opcode advances a mooring's generation at admission and releases the slot. -/
  | opUnmoor (tag : Fin 4096)
  /-- UNMOOR_RELEASE (R210): Once every earlier operation on the mooring has completed, the slot is zeroed and becomes FREE or RETIRED. -/
  | unmoorRelease (ix : Fin 4194304) (readBackOk : Bool)
  /-- MOOR_QUERY (R213): MOOR_QUERY with ALG 0 writes a mooring's header, statistics and window. -/
  | opMoorQuery (tag : Fin 4096)
  /-- MOOR_QUERY_SWEEP (R211): MOOR_QUERY with ALG 1 reclaims the domain's RETIRED slots that no operation names. -/
  | moorQuerySweep (tag : Fin 4096)
  /-- PK_SIGN (R281): The PK_SIGN opcode signs with a stored key or a blob. -/
  | opPkSign (tag : Fin 4096)
  /-- PK_VERIFY (R282): The PK_VERIFY opcode verifies a signature and writes no output. -/
  | opPkVerify (tag : Fin 4096)
  /-- PK_AGREE (R281): The PK_AGREE opcode computes an ECDH or X25519 shared secret. -/
  | opPkAgree (tag : Fin 4096)
  /-- KEM_ENCAPS (R281): The KEM_ENCAPS opcode runs an ML-KEM encapsulation. -/
  | opKemEncaps (tag : Fin 4096)
  /-- KEM_DECAPS (R281): The KEM_DECAPS opcode runs an ML-KEM decapsulation with implicit rejection. -/
  | opKemDecaps (tag : Fin 4096)
  /-- RSA_PRIVATE (R281): The RSA_PRIVATE opcode runs an RSA private operation by CRT. -/
  | opRsaPrivate (tag : Fin 4096)
  /-- RSA_PUBLIC (R281): The RSA_PUBLIC opcode runs an RSA public operation. -/
  | opRsaPublic (tag : Fin 4096)
  /-- PK_KEYGEN (R281): The PK_KEYGEN opcode generates an ephemeral key pair and returns the public key and a blob. -/
  | opPkKeygen (tag : Fin 4096)
  /-- RNG_FILL (R333): The RNG_FILL opcode writes OUT_LEN bytes of DRBG output. -/
  | opRngFill (tag : Fin 4096)
  /-- RNG_FILL_CHUNK (R333): One chunk of up to 4 KiB of an RNG_FILL is generated and written once arbitration selects it. -/
  | rngFillChunk
  /-- FENCE (R176): The FENCE opcode orders its queue pair and, with ABORT_PRIOR, ends earlier operations. -/
  | opFence (tag : Fin 4096)
  /-- FENCE_COMPLETE (R176): The FENCE completes in the cycle after every earlier operation of its queue pair has had its completion issued. -/
  | fenceComplete (tag : Fin 4096)
  /-- LANE_DISPATCH (R109): When a lane can take a message, deficit round robin selects a domain's message and dispatches it to a lane. -/
  | laneDispatch
  /-- LANE_PASS_COMPLETE (R229): A pass of a message ends on its lane and its tag is compared, releasing buffered output or completing the message. -/
  | lanePassComplete (tag : Fin 4096)
  /-- LANE_FULL_RESEED (R231): After 2^20 blocks the lane's mask generator state is replaced from its full seed. -/
  | laneFullReseed (n : Fin 17)
  /-- LANE_SEED_TIMEOUT (R232): A seed has been due for 10 µs without the buffer holding it, so the lane faults with MASK_RESEED. -/
  | laneSeedTimeout (n : Fin 17)
  /-- LANE_SCRUB_COMPLETE (R235): An ended message's lane state and release buffer have been overwritten, and its completion is written. -/
  | laneScrubComplete (tag : Fin 4096)
  /-- HASH_DISPATCH (R262): A HASH, MAC or KDF message is selected by the hash unit's deficits and goes to a pipe context. -/
  | hashDispatch
  /-- HASH_MESSAGE_COMPLETE (R255): A pipe finishes a message, writes the result and zeroes the context. -/
  | hashMessageComplete (tag : Fin 4096)
  /-- PK_DISPATCH (R274): An arbitrated PK operation is dispatched to a pair or an engine, or reserves a pair. -/
  | pkDispatch
  /-- PK_OPERATION_COMPLETE (R283): The engines finish an operation and the comparator or validity check releases or withholds the result. -/
  | pkOperationComplete (tag : Fin 4096) (found : PkEnd)
  /-- PK_RAND_TIMEOUT (R289): The pair's randomness buffer cannot supply an operation's draws within 10 µs, so it completes with NO_ENTROPY. -/
  | pkRandTimeout (tag : Fin 4096)
  /-- PK_SCRUB_COMPLETE (R291): Both engines have scrubbed after an early ending, and the completion is written. -/
  | pkScrubComplete (tag : Fin 4096) (zero : Bool)
  /-- LEGACY_UNIT_TRANSLATION (R266): A format 0 or 3 translation is dispatched when the legacy unit is ON, or ends ABORTED when it is OFF, DRAINING or FAULTED. -/
  | legacyUnitTranslation
  /-- ADMIN_DESCRIPTOR_SERVE (R124): Firmware takes the next admin descriptor and checks its session, MAC and SEQ before running it. -/
  | adminDescriptorServe (d : Fin 256) (data : Option (Bytes × Nat))
  /-- ADMIN_OPEN_PHASE0 (R118): ADMIN_OPEN phase 0 issues a signed challenge and the device's ephemeral key. -/
  | adminOpenPhase0 (d : Fin 256)
  /-- ADMIN_OPEN_PHASE1 (R118): ADMIN_OPEN phase 1 verifies the key or password proof and opens the session, or counts a failure. -/
  | adminOpenPhase1 (d : Fin 256)
  /-- ADMIN_OPEN_IDENTITY (R121): ADMIN_OPEN with SUBOP 2 returns the vendor-signed identity record. -/
  | adminOpenIdentity (d : Fin 256)
  /-- ADMIN_CLOSE (R126): ADMIN_CLOSE closes the domain's session. -/
  | adminClose (d : Fin 256)
  /-- CHALLENGE_EXPIRY (R118): An outstanding ADMIN_OPEN challenge expires 30 s after issue. -/
  | challengeExpiry (d : Fin 256)
  /-- SESSION_IDLE_TIMEOUT (R126): A session closes after 15 minutes without a descriptor that passes R124. -/
  | sessionIdleTimeout (d : Fin 256)
  /-- LOCKOUT_EXPIRY (R122): An admin lock-out period ends. -/
  | lockoutExpiry (d : Fin 256)
  /-- DATA_PLANE_ENABLE (R129): POLICY_SET DATA_PLANE_ENABLE moves the lifecycle state from COMMISSIONED to OPERATIONAL. -/
  | dataPlaneEnable (d : Fin 256)
  /-- PERMISSIONS (R130): POLICY_SET PERMISSIONS sets a domain's permission bits. -/
  | permissions (d : Fin 256)
  /-- RELEASE (R128): POLICY_SET RELEASE starts releasing an OFF domain's moorings, keys and settings. -/
  | release (d : Fin 256)
  /-- RELEASE_COMPLETE (R128): A release has unmoored, destroyed and reset everything of the domain, and its completion is written. -/
  | releaseComplete (d : Fin 256) (bad : List (Fin 4194304))
  /-- QUERY (R132): POLICY_SET QUERY returns a domain's or the device's state. -/
  | query (d : Fin 256)
  /-- RETENTION (R129): POLICY_SET RETENTION selects the WRAP or RETAIN logbook mode. -/
  | retention (d : Fin 256)
  /-- WATCH_SET (R527): POLICY_SET WATCH_SET sets a watch source's response. -/
  | watchSet (d : Fin 256)
  /-- FUSE_BLOW (R527): POLICY_SET FUSE_BLOW blows a watch source's fuse after approval. -/
  | fuseBlow (d : Fin 256)
  /-- WATCH_CLEAR (R527): POLICY_SET WATCH_CLEAR clears the RESTRICT latch. -/
  | watchClear (d : Fin 256)
  /-- BATTERY_SET (R548): POLICY_SET BATTERY_SET records the coin cell capacity and clears the VBAT history. -/
  | batterySet (d : Fin 256)
  /-- DAYMARK_PASSWORD (R592): POLICY_SET DAYMARK_PASSWORD sets the Daymark write password. -/
  | daymarkPassword (d : Fin 256)
  /-- DAYMARK_UNLOCK (R592): POLICY_SET DAYMARK_UNLOCK clears the Daymark write lock and AUTH_FAILS. -/
  | daymarkUnlock (d : Fin 256)
  /-- ROOTS (R615): POLICY_SET ROOTS stages the owner root keys during commissioning. -/
  | roots (d : Fin 256)
  /-- CUSTODY (R615): POLICY_SET CUSTODY stages or replaces the custody record. -/
  | custody (d : Fin 256)
  /-- STRAP (R615): POLICY_SET STRAP stages the strap word during commissioning. -/
  | strap (d : Fin 256)
  /-- COMPLETE (R615): POLICY_SET COMPLETE writes the records, blows the root fuses, writes a KEK and moves FACTORY to COMMISSIONED. -/
  | complete (d : Fin 256)
  /-- PASSWORD_SET (R120): POLICY_SET PASSWORD_SET sets or clears a custodian role's password verifier. -/
  | passwordSet (d : Fin 256)
  /-- DOMAIN_SHARE_SET (R131): DOMAIN_SHARE_SET changes a domain's weight, quota, reserve and allowances in one commit. -/
  | domainShareSet (d : Fin 256)
  /-- CURVE_LOAD (R308): CURVE_LOAD LOAD checks a Weierstrass curve and commits it into a slot's inactive copy. -/
  | curveLoad (d : Fin 256)
  /-- CURVE_CLEAR (R303): CURVE_LOAD CLEAR returns a slot to its built-in curve or empties it. -/
  | curveClear (d : Fin 256)
  /-- CURVE_READ (R303): CURVE_LOAD READ returns a slot's current body and fingerprint. -/
  | curveRead (d : Fin 256)
  /-- PKE_CURVE_SEL_WRITE (R318): A PKE_CURVE_SEL write selects a slot and copy, refusing the live copy and resetting INDEX. -/
  | pkeCurveSelWrite (v : BitVec 32)
  /-- PKE_CURVE_DATA_WRITE (R319): A PKE_CURVE_DATA write stores one body word and advances INDEX, taking the parameters at 118. -/
  | pkeCurveDataWrite (v : BitVec 32)
  /-- KEY_GENERATE (R353): KEY_GENERATE draws a secret, computes its public part twice and stores a new key record. -/
  | keyGenerate (d : Fin 256) (agree : Bool)
  /-- KEY_IMPORT_PUBLIC (R354): KEY_IMPORT PUBLIC validates and stores a public key. -/
  | keyImportPublic (d : Fin 256)
  /-- KEY_IMPORT_CLEAR (R354): KEY_IMPORT CLEAR validates and stores a secret given in the clear. -/
  | keyImportClear (d : Fin 256)
  /-- KEY_IMPORT_KEY_BLOCK (R354): KEY_IMPORT KEY_BLOCK unwraps an X9.143 key block under a KBPK and stores the key. -/
  | keyImportKeyBlock (d : Fin 256)
  /-- KEY_EXPORT_PUBLIC (R355): KEY_EXPORT PUBLIC writes a key's public part. -/
  | keyExportPublic (d : Fin 256)
  /-- KEY_EXPORT_KEY_BLOCK (R355): KEY_EXPORT KEY_BLOCK exports a key as an X9.143 key block under a KBPK. -/
  | keyExportKeyBlock (d : Fin 256)
  /-- KEY_DESTROY (R356): KEY_DESTROY appends a tombstone and zeroes every copy of the slot's record. -/
  | keyDestroy (d : Fin 256)
  /-- KEY_IMAGE_SCRUB (R356): Once no admitted operation holds a destroyed key, its image entry is scrubbed. -/
  | keyImageScrub (n : Fin 65536)
  /-- APPROVAL_REQUEST (R357): A command with SUBOP bit 7 set is checked and returns an APPROVAL_ID, opening a pending approval. -/
  | approvalRequest (d : Fin 256)
  /-- APPROVAL_EXPIRY (R357): A pending approval lapses 600 s after its request. -/
  | approvalExpiry
  /-- KEY_IMAGE_BUILD (R350): The key store controller images the next ACTIVE slot into DRAM, or rebuilds a failed entry. -/
  | keyImageBuild
  /-- LOG_READ (R502): LOG_READ returns the scoped logbook entries with a signed header. -/
  | logRead (d : Fin 256)
  /-- LOG_EXPORT_ACK (R503): LOG_EXPORT_ACK advances CLG_ACK_NEXT. -/
  | logExportAck (d : Fin 256)
  /-- EVR_READ (R509): EVR_READ SUBOP 0 freezes a recorder and returns its entries. -/
  | evrRead (d : Fin 256)
  /-- EVR_CLEAR (R507): EVR_READ SUBOP 1 clears a recorder and logs the clear. -/
  | evrClear (d : Fin 256)
  /-- HEALTH_READ (R551): HEALTH_READ returns the last health publication. -/
  | healthRead (d : Fin 256)
  /-- UNLOCK_BEGIN (R530): UNLOCK_BEGIN opens an unlock or recommissioning ceremony and returns its CEREMONY_ID. -/
  | unlockBegin (d : Fin 256)
  /-- UNLOCK_CUSTODIAN (R531): UNLOCK_CUSTODIAN SUBOP 0 takes one custodian presentation against the open ceremony. -/
  | unlockCustodian (d : Fin 256) (sig : Option Bytes)
  /-- UNLOCK_CUSTODIAN_APPROVAL (R531): UNLOCK_CUSTODIAN SUBOP 1 takes one custodian presentation against the pending approval. -/
  | unlockCustodianApproval (d : Fin 256) (sig : Option Bytes)
  /-- CREDENTIAL_WAIT_TIMEOUT (R531): No credential is presented within 30 s, so the presentation completes with BAD_PARAMETER. -/
  | credentialWaitTimeout (d : Fin 256)
  /-- CEREMONY_EXPIRY (R530): A ceremony ends 900 s after it opens. -/
  | ceremonyExpiry
  /-- TIME_SET (R538): TIME_SET loads the RTC at its next edge and sets RTC_VALID. -/
  | timeSet (d : Fin 256)
  /-- APPLET_LOAD (R617): APPLET_LOAD SUBOP 0 verifies an owner-signed applet and places it in a slot. -/
  | appletLoad (d : Fin 256)
  /-- APPLET_EMPTY (R617): APPLET_LOAD SUBOP 1 empties an applet slot. -/
  | appletEmpty (d : Fin 256)
  /-- FW_UPDATE_BEGIN (R611): FW_UPDATE BEGIN erases the inactive bank for a new image. -/
  | fwUpdateBegin (d : Fin 256)
  /-- FW_UPDATE_DATA (R611): FW_UPDATE DATA programs whole pages of the new image. -/
  | fwUpdateData (d : Fin 256)
  /-- FW_UPDATE_FINISH (R611): FW_UPDATE FINISH checks the new image and programs its ACTIVATE page. -/
  | fwUpdateFinish (d : Fin 256)
  /-- FW_UPDATE_ABORT (R611): FW_UPDATE ABORT ends the update and leaves the bank ineligible. -/
  | fwUpdateAbort (d : Fin 256)
  /-- RNG_PAIR_FAIL (R325): A noise pair fails a health test, is isolated and pends RNG_HEALTH. -/
  | rngPairFail (n : Fin 64) (w : PairWindow) (inSeed : Bool)
  /-- RNG_RETEST (R325): Once per second each isolated pair is retested and readmitted if it passes. -/
  | rngRetest (windows : List PairWindow)
  /-- SEED_READY (R323): The conditioner completes a 512-bit seed from 8 conditioned words. -/
  | seedReady (raw : List (BitVec 64))
  /-- DRBG_RESEED (R328): At a tick edge, or after 4,096 generate requests, the DRBG reseeds from the ready seed. -/
  | drbgReseed
  /-- RNG_STARTUP_TESTS_PASS (R330): The start-up tests and known-answer tests pass, the DRBG is instantiated and the source reaches ON. -/
  | rngStartupTestsPass (windows : List PairWindow × List PairWindow)
  /-- SEED_TIMEOUT (R330): SEEDING has not ended 2.5 ms after its start, so the source faults with SEED_TIMEOUT. -/
  | seedTimeout
  /-- RNG_SOURCE_FAULT (R334): A source fault zeroes the DRBG state, releases stalled reads and ends waiting fills. -/
  | rngSourceFault (cause : Fin 5)
  /-- RNG_DATA_READ (R332): A keeper read of RNG_DATA returns 32 SECRET bits, stalls during SEEDING, or returns ERR. -/
  | rngDataRead (c : Fin 4) (dst : Fin 16)
  /-- RNG_DATA_STALL_TIMEOUT (R332): A read stalled for 10 ms completes with value 0 tagged ERR. -/
  | rngDataStallTimeout (c : Fin 4)
  /-- FLC_UNLOCK_WRITE (R372): A write of an unlock word advances or discards the direct-command sequence. -/
  | flcUnlockWrite (v : BitVec 32)
  /-- FLC_ADDR_WRITE (R372): A write of FLC_ADDR supplies the command address in the sequence. -/
  | flcAddrWrite (v : BitVec 32)
  /-- FLASH_SEQUENCE_TIMEOUT (R372): A command sequence not completed within 1 ms is discarded with SEQ_ERR. -/
  | flashSequenceTimeout
  /-- PROGRAM_PAGE (R373): The PROGRAM_PAGE command programs one firmware-partition page. -/
  | programPage (v : BitVec 32)
  /-- ERASE_SECTOR (R373): The ERASE_SECTOR command journals and erases one firmware-partition sector. -/
  | eraseSector (v : BitVec 32)
  /-- ERASE_SUSPEND (R373): The ERASE_SUSPEND command holds a running direct erase. -/
  | eraseSuspend (v : BitVec 32)
  /-- ERASE_RESUME (R373): The ERASE_RESUME command resumes a suspended direct erase. -/
  | eraseResume (v : BitVec 32)
  /-- READ_MARGIN (R373): The READ_MARGIN command reads a page at a shifted threshold and counts the differing bits. -/
  | readMargin (v : BitVec 32)
  /-- BLANK_CHECK (R373): The BLANK_CHECK command checks whether a sector is erased. -/
  | blankCheck (v : BitVec 32)
  /-- FLASH_COMMAND_DONE (R374): A direct command ends with DONE, PROG_FAIL or ERASE_FAIL, and FLASH_DONE pends. -/
  | flashCommandDone (ok : Bool) (errs : Nat)
  /-- FLASH_WINDOW_READ (R371): A flash read decodes its word, retrying at shifted thresholds, and returns ERR when it cannot correct it. -/
  | flashWindowRead (a : Fin 134217728) (k : FlashRead)
  /-- ERASE_AUTO_RESUME (R375): An automatically suspended erase resumes once no read or program has been pending in its plane for 2 µs. -/
  | eraseAutoResume
  /-- RECLAIM (R379): With fewer than 64 free sectors, the tail sector's live records are relocated and the sector is erased. -/
  | reclaim
  /-- RECLAIM_ERASE_COMPLETE (R379): A reclaim erase ends, the sector is blank-checked and freed or retired, and the tail advances. -/
  | reclaimEraseComplete (first second : Bool)
  /-- LENS_MARGIN_READ (R376): A background margin read of a lens page rewrites its record at the frontier if it fails. -/
  | lensMarginRead (page : Fin 262144) (fails : Bool)
  /-- FLASH_START_SCAN (R381): At each start the engine finds the frontier, reads the checkpoint and completes unfinished erases. -/
  | flashStartScan
  /-- FLC_XO_LOCK_WRITE (R392): A write of 1 to FLC_XO_LOCK locks every execute-only region register. -/
  | flcXoLockWrite (v : BitVec 32)
  /-- ALL_LOCKED (R417): No core has been running for 1 ms, so the hardware resets core 0 and sets ALL_LOCKED. -/
  | allLocked
  /-- MAILBOX_SEND (R418): A write to MGC_MB_SEND_m places a word in the target core's slot, or sets TX_DROP. -/
  | mailboxSend (c m : Fin 4) (v : BitVec 32) (t : Fin 8)
  /-- MAILBOX_RECEIVE (R418): A read of MGC_MB_RECV_k returns the slot's word and clears FULL. -/
  | mailboxReceive (c : Fin 4) (k : Fin 3) (dst : Fin 16)
  /-- MGC_DRAM_BASE_WRITE (R421): A write places a core's DRAM window once its issued accesses finish, or is refused. -/
  | mgcDramBaseWrite (n : Fin 4) (v : BitVec 32)
  /-- MOV (R432): The MOV instruction copies a value with its tag. -/
  | kMov (c : Fin 4) (d a : Opnd)
  /-- MOV_H (R432): The MOV.H and MOV.B instructions move a halfword or byte. -/
  | kMovH (c : Fin 4) (byte : Bool) (d a : Opnd)
  /-- MOVI (R432): The MOVI instruction loads a sign-extended immediate tagged INT. -/
  | kMovi (c : Fin 4) (d : Opnd) (v : BitVec 32)
  /-- MOVI_H (R432): The MOVI.H instruction sets the upper half of a register. -/
  | kMoviH (c : Fin 4) (d : Opnd) (v : BitVec 16)
  /-- LEA (R432): The LEA instruction forms an effective address tagged as its base. -/
  | kLea (c : Fin 4) (d ea : Opnd)
  /-- LEAPC (R432): The LEAPC instruction forms a PC-relative address tagged CODE or ADDR. -/
  | kLeapc (c : Fin 4) (d : Opnd) (off : BitVec 32) (data : Bool)
  /-- LD (R432): The LD instruction loads a word under the tag and MPU checks. -/
  | kLd (c : Fin 4) (r ea : Opnd)
  /-- ST (R432): The ST instruction stores a word under the tag and MPU checks. -/
  | kSt (c : Fin 4) (r ea : Opnd)
  /-- LDX (R440): The LDX instruction loads a word and sets a reservation on its granule. -/
  | kLdx (c : Fin 4) (r ea : Opnd)
  /-- STX (R440): The STX instruction stores only while the reservation holds, and sets Z. -/
  | kStx (c : Fin 4) (r ea : Opnd)
  /-- TAS (R439): The TAS instruction reads a word and writes 1 indivisibly. -/
  | kTas (c : Fin 4) (r ea : Opnd)
  /-- ADD (R432): The ADD and ADDI instructions add. -/
  | kAdd (c : Fin 4) (d a b : Opnd)
  /-- SUB (R432): The SUB and SUBI instructions subtract. -/
  | kSub (c : Fin 4) (d a b : Opnd)
  /-- ADC (R432): The ADC instruction adds with carry. -/
  | kAdc (c : Fin 4) (d a b : Opnd)
  /-- SBC (R432): The SBC instruction subtracts with carry. -/
  | kSbc (c : Fin 4) (d a b : Opnd)
  /-- AND (R432): The AND and ANDI instructions take a bitwise AND. -/
  | kAnd (c : Fin 4) (d a b : Opnd)
  /-- OR (R432): The OR and ORI instructions take a bitwise OR. -/
  | kOr (c : Fin 4) (d a b : Opnd)
  /-- XOR (R432): The XOR and XORI instructions take a bitwise XOR. -/
  | kXor (c : Fin 4) (d a b : Opnd)
  /-- NOT (R432): The NOT instruction inverts its operand. -/
  | kNot (c : Fin 4) (d a : Opnd)
  /-- NEG (R432): The NEG instruction negates its operand. -/
  | kNeg (c : Fin 4) (d a : Opnd)
  /-- SHL (R432): The SHL instruction shifts left. -/
  | kShl (c : Fin 4) (d a b : Opnd)
  /-- SHR (R432): The SHR instruction shifts right logically. -/
  | kShr (c : Fin 4) (d a b : Opnd)
  /-- SAR (R432): The SAR instruction shifts right arithmetically. -/
  | kSar (c : Fin 4) (d a b : Opnd)
  /-- ROL (R432): The ROL instruction rotates left. -/
  | kRol (c : Fin 4) (d a b : Opnd)
  /-- ROR (R432): The ROR instruction rotates right. -/
  | kRor (c : Fin 4) (d a b : Opnd)
  /-- CMP (R432): The CMP and CMPI instructions set the flags from a subtraction. -/
  | kCmp (c : Fin 4) (a b : Opnd)
  /-- MUL (R432): The MUL instruction returns the low 32 bits of a product. -/
  | kMul (c : Fin 4) (d a b : Opnd)
  /-- MULH (R432): The MULH instruction returns the high 32 bits of a signed product. -/
  | kMulh (c : Fin 4) (d a b : Opnd)
  /-- MULHU (R432): The MULHU instruction returns the high 32 bits of an unsigned product. -/
  | kMulhu (c : Fin 4) (d a b : Opnd)
  /-- DIV (R432): The DIV instruction divides signed, giving ERR for a zero divisor. -/
  | kDiv (c : Fin 4) (d a b : Opnd)
  /-- DIVU (R432): The DIVU instruction divides unsigned. -/
  | kDivu (c : Fin 4) (d a b : Opnd)
  /-- REM (R432): The REM instruction returns a signed remainder. -/
  | kRem (c : Fin 4) (d a b : Opnd)
  /-- REMU (R432): The REMU instruction returns an unsigned remainder. -/
  | kRemu (c : Fin 4) (d a b : Opnd)
  /-- CSEL (R432): The CSEL instruction selects one of two operands by a condition. -/
  | kCsel (c : Fin 4) (d a b : Opnd) (cc : Fin 16)
  /-- MACQ (R432): The MACQ instruction adds an unsigned product to an accumulator. -/
  | kMacq (c : Fin 4) (q a b : Opnd)
  /-- MACQS (R432): The MACQS instruction adds a signed product to an accumulator. -/
  | kMacqs (c : Fin 4) (q a b : Opnd)
  /-- ADDQ (R432): The ADDQ instruction adds a zero-extended word to an accumulator. -/
  | kAddq (c : Fin 4) (q a : Opnd)
  /-- ADDQS (R432): The ADDQS instruction adds a sign-extended word to an accumulator. -/
  | kAddqs (c : Fin 4) (q a : Opnd)
  /-- SHQL (R432): The SHQL instruction shifts an accumulator left. -/
  | kShql (c : Fin 4) (q b : Opnd)
  /-- SHQR (R432): The SHQR instruction shifts an accumulator right. -/
  | kShqr (c : Fin 4) (q b : Opnd)
  /-- SHQA (R432): The SHQA instruction shifts an accumulator right arithmetically. -/
  | kShqa (c : Fin 4) (q b : Opnd)
  /-- MOVQ_L (R432): The MOVQ.L instruction reads the low word of an accumulator. -/
  | kMovqL (c : Fin 4) (d q : Opnd)
  /-- MOVQ_H (R432): The MOVQ.H instruction reads the high word of an accumulator. -/
  | kMovqH (c : Fin 4) (d q : Opnd)
  /-- MOVQ_G (R432): The MOVQ.G instruction reads the guard bits of an accumulator. -/
  | kMovqG (c : Fin 4) (d q : Opnd)
  /-- MOVQ_TL (R432): The MOVQ.TL instruction writes the low word of an accumulator. -/
  | kMovqTl (c : Fin 4) (q a : Opnd)
  /-- MOVQ_TH (R432): The MOVQ.TH instruction writes the high word of an accumulator. -/
  | kMovqTh (c : Fin 4) (q a : Opnd)
  /-- CLRQ (R432): The CLRQ instruction clears an accumulator to 0 tagged INT. -/
  | kClrq (c : Fin 4) (q : Opnd)
  /-- TAGR (R432): The TAGR instruction reads a word's tag number. -/
  | kTagr (c : Fin 4) (d a : Opnd)
  /-- TAGW (R432): The TAGW instruction retags a value in ring 0. -/
  | kTagw (c : Fin 4) (d a : Opnd) (tag : Fin 16)
  /-- TCHK (R432): The TCHK instruction raises a tag fault unless the operand carries the named tag. -/
  | kTchk (c : Fin 4) (a : Opnd) (tag : Fin 16)
  /-- DECLASS (R403): The DECLASS instruction turns a SECRET value into INT in rings 0 and 1. -/
  | kDeclass (c : Fin 4) (d a : Opnd)
  /-- BCC (R429): The Bcc instruction branches when its condition holds. -/
  | kBcc (c : Fin 4) (cc : Fin 16) (tgt : Opnd)
  /-- BR (R432): The BR instruction branches through a CODE-tagged register. -/
  | kBr (c : Fin 4) (tgt : Opnd)
  /-- CALL (R438): The CALL instruction writes A6 and pushes the return address on the shadow stack. -/
  | kCall (c : Fin 4) (tgt : Opnd)
  /-- RET (R461): The RET instruction pops the shadow stack, checks the entry against A6 and returns. -/
  | kRet (c : Fin 4)
  /-- CALLG (R450): The CALLG instruction enters a gate, pushes a gate frame and changes ring. -/
  | kCallg (c : Fin 4) (g : Opnd)
  /-- TRAP (R452): The TRAP instruction raises a trap exception with its code. -/
  | kTrap (c : Fin 4) (n : Fin 256)
  /-- RETX (R460): The RETX instruction returns from an exception or from a gate. -/
  | kRetx (c : Fin 4)
  /-- WAIT (R475): The WAIT instruction stops the core's clock until an enabled source pends. -/
  | kWait (c : Fin 4)
  /-- KEEPER_FENCE (R432): The keeper FENCE instruction waits until every earlier access of the core has completed. -/
  | kFence (c : Fin 4)
  /-- FENCE_I (R432): The FENCE.I instruction fences and invalidates the instruction cache. -/
  | kFenceI (c : Fin 4)
  /-- MFS (R407): The MFS instruction reads a system register. -/
  | kMfs (c : Fin 4) (d : Opnd) (n : Fin 256)
  /-- MTS (R407): The MTS instruction writes a system register, including the gate and shadow-stack registers. -/
  | kMts (c : Fin 4) (n : Fin 256) (a : Opnd)
  /-- XB (R432): The XB instruction reads a register of the interrupted bank from the shadow bank. -/
  | kXb (c : Fin 4) (d a : Opnd)
  /-- BMOV (R441): The BMOV long instruction copies words with their tags, resumably. -/
  | kBmov (c : Fin 4) (dst src : Fin 8) (stop : Option (BitVec 24))
  /-- BZERO (R441): The BZERO long instruction zeroes words. -/
  | kBzero (c : Fin 4) (dst : Fin 8) (stop : Option (BitVec 24))
  /-- BCRC (R441): The BCRC long instruction advances a CRC-32 over words. -/
  | kBcrc (c : Fin 4) (acc : Fin 16) (src : Fin 8) (stop : Option (BitVec 24))
  /-- BCRCC (R441): The BCRCC long instruction advances a CRC-32C over words. -/
  | kBcrcc (c : Fin 4) (acc : Fin 16) (src : Fin 8) (stop : Option (BitVec 24))
  /-- BMAC (R441): The BMAC long instruction accumulates unsigned products of word pairs. -/
  | kBmac (c : Fin 4) (q : Fin 4) (a b : Fin 8) (stop : Option (BitVec 24))
  /-- BMACS (R441): The BMACS long instruction accumulates signed products of word pairs. -/
  | kBmacs (c : Fin 4) (q : Fin 4) (a b : Fin 8) (stop : Option (BitVec 24))
  /-- COUNTED_EVENT (R469): An event of a counted source crosses and adds 1 to its count, or sets OVF at 255. -/
  | countedEvent (c : Fin 4) (src : Fin 16)
  /-- INTERRUPT_TAKE (R473): At an allowed point the core takes the lowest enabled pending source and enters the handler. -/
  | interruptTake (c : Fin 4)
  /-- CORE_WAKE (R475): An enabled source pends while a core is in WAIT, so its clock restarts. -/
  | coreWake (c : Fin 4)
  /-- EOI (R474): A write to INT_EOI ends the active source and re-pends it if its count or input remains. -/
  | eoi (c : Fin 4) (src : Fin 128)
  /-- INT_CLR (R478): A write to INT_CLR zeroes a counted source or a software latch and makes it inactive. -/
  | intClr (c : Fin 4) (src : Fin 128)
  /-- INT_SWI (R472): A write to INT_SWI sets a software source latch at a target core. -/
  | intSwi (target : Fin 4) (src : Fin 128)
  /-- MPU_DISABLE (R487): A write of MPU_CTRL.EN 0 waits for the buffered stores and the data cache to drain. -/
  | mpuDisable (c : Fin 4)
  /-- MPU_DRAIN_COMPLETE (R487): The drain of an EN 0 write ends, and the MPU is off. -/
  | mpuDrainComplete (c : Fin 4)
  /-- MPU_ENABLE (R487): A write of MPU_CTRL.EN 1 applies the regions from the next access. -/
  | mpuEnable (c : Fin 4)
  /-- MPU_REGION_WRITE (R487): A write to an MPU region register is applied while EN is 0, and otherwise discarded with WR_REFUSED. -/
  | mpuRegionWrite (c : Fin 4) (r : Fin 16) (w : Fin 3) (v : BitVec 32)
  /-- WRITE_BUFFER_DRAIN (R486): A buffered store leaves the write buffer and is checked, and a refused store is counted and pends IMPRECISE_WRITE. -/
  | writeBufferDrain (c : Fin 4)
  /-- LOG_PARTIAL_FLUSH (R497): A partial group of staged entries is programmed once its oldest entry has been staged for 1,024 ticks. -/
  | logPartialFlush
  /-- LOG_CHAIN_CHECK (R496): The background check of the MAC chain over the retained log sets CHAIN_BREAK on a break. -/
  | logChainCheck
  /-- RECORDER_INTERVAL (R505): Every 1,024 ticks a recorder stores HIST entries, merges them into its cluster recorder and empties the bins. -/
  | recorderInterval (cluster : Fin 10) (m : List (Fin 5 × Fin 6 × List Int))
  /-- EVR_FREEZE_WRITE (R508): A write to EVR_FREEZE freezes or releases the selected recorder. -/
  | evrFreezeWrite (v : BitVec 32)
  /-- EVR_FREEZE_TIMEOUT (R508): A freeze held for 100 ms is released and TIMEOUT is set. -/
  | evrFreezeTimeout
  /-- EVR_SEL_WRITE (R508): A write to EVR_SEL selects a recorder, or is discarded while FREEZE is 1. -/
  | evrSelWrite (v : BitVec 32)
  /-- EVR_WINDOW_READ (R515): A read of EVR_WINDOW_15 advances the cursor when AUTO is set. -/
  | evrWindowRead (w : Fin 16)
  /-- WATCH_DETECT (R518): A watch detector finds its alarm condition and sets its sticky latch. -/
  | watchDetect (src : Option (Fin 19)) (holding : BitVec 19)
  /-- WATCH_FIRST_DECISION (R521): The first decision circuit names the alarmed source and its response. -/
  | watchFirstDecision (which found : BitVec 19)
  /-- WATCH_SECOND_DECISION (R521): The second decision confirms the alarm or raises DECISION, and the response is applied. -/
  | watchSecondDecision (which found : BitVec 19)
  /-- WCH_CFG_WRITE (R540): A write of a source's RESPONSE is applied, or discarded when below the floor. -/
  | wchCfgWrite (src : Fin 19) (v : BitVec 32)
  /-- WCH_FUSE_BLOW_WRITE (R542): A second identical write within 1 ms blows the named fuse, and any other write disarms it. -/
  | wchFuseBlowWrite (v : BitVec 32) (late : Bool)
  /-- HEALTH_PUBLISH (R545): Every 1,000 ticks firmware samples the wear sources and publishes predictions and advice. -/
  | healthPublish (drift : List (BitVec 16)) (drawn : BitVec 32) (vbat : BitVec 13) (layer : Fin 4) (drop : BitVec 16)
  /-- HEALTH_DAILY_MEAN (R545): Once per day the mean of each wear metric is stored in a settings record. -/
  | healthDailyMean
  /-- SMBUS_HEALTH_SUMMARY (R553): SMBus command 0x10 returns the first 16 bytes of the health output. -/
  | smbusHealthSummary
  /-- SMBUS_PREDICTION (R553): SMBus commands 0x11 to 0x16 return a prediction entry. -/
  | smbusPrediction (n : Fin 6)
  /-- SMBUS_POWER (R553): SMBus command 0x20 returns temperature and VIN. -/
  | smbusPower
  /-- SMBUS_STATE (R553): SMBus command 0x21 returns the device and lifecycle state. -/
  | smbusState
  /-- SMBUS_FIELD (R553): SMBus command 0x22 reports whether an external field is present. -/
  | smbusField
  /-- SMBUS_ALERT_RESPONSE (R553): An Alert Response Address read releases SMB_ALERT_N. -/
  | smbusAlertResponse
  /-- CARD_ACTIVATE (R559): CRD_CMD ACTIVATE powers the card at each allowed class and reads its ATR. -/
  | cardActivate
  /-- CARD_TRANSFER (R562): CRD_CMD TRANSFER sends one command APDU over T=1 and collects the response. -/
  | cardTransfer (len : Fin 2048)
  /-- CARD_DEACTIVATE (R571): CRD_CMD DEACTIVATE deactivates the card. -/
  | cardDeactivate
  /-- CARD_ABORT (R571): CRD_CMD ABORT ends a running transfer with HOST_ABORT. -/
  | cardAbort
  /-- CRD_CFG_WRITE (R573): A CRD_CFG write is taken for the next activation, or discarded whole if out of range. -/
  | crdCfgWrite (v : BitVec 32)
  /-- CARD_INSERTION (R568): C_DET has shown a card for 20 ms, so an insertion is decided. -/
  | cardInsertion
  /-- CARD_REMOVAL (R569): C_DET shows removal, so the card is deactivated and its work ends with REMOVED. -/
  | cardRemoval
  /-- CARD_ATR_RECEIVED (R560): The ATR has been received and is acted on with PPS, a class change or an ending. -/
  | cardAtrReceived (b : List (BitVec 8)) (ok : Bool)
  /-- CARD_MUTE_TIMEOUT (R559): No TS, or a faulty ATR, within the bound deactivates the card for a retry at the next class. -/
  | cardMuteTimeout
  /-- CARD_CLASS_RETRY (R559): 10 ms after a failed attempt, activation is retried at the next allowed class. -/
  | cardClassRetry
  /-- CARD_PPS_RESPONSE (R560): The card's PPS response is checked, and parameters settle or the card is reactivated. -/
  | cardPpsResponse (b : List (BitVec 8))
  /-- CARD_IFS_RESPONSE (R561): The card answers S(IFS request) and the activation completes. -/
  | cardIfsResponse (blk : List (BitVec 8)) (ok : Bool)
  /-- CARD_BLOCK_RECEIVED (R565): A T=1 block from the card advances the transfer or meets error recovery. -/
  | cardBlockReceived (blk : List (BitVec 8)) (ok : Bool)
  /-- CARD_WAIT_TIMEOUT (R565): BWT or CWT is exceeded, so the block counts as invalid and is recovered. -/
  | cardWaitTimeout
  /-- CARD_MAX_WAIT (R564): The transfer has exceeded MAX_WAIT, so the card is deactivated with WAIT_LIMIT. -/
  | cardMaxWait
  /-- CARD_CLOCK_STOP (R567): 1,860 cycles after an exchange the card clock stops at the allowed level. -/
  | cardClockStop
  /-- CARD_SHORT (R570): C_VCC has been current-limited for 3 ms, so the card is deactivated and SHORT is set. -/
  | cardShort
  /-- RF_ACTIVATE (R580): RFX_CMD ACTIVATE polls and activates a Type A or B badge. -/
  | rfActivate
  /-- RF_TRANSFER (R580): RFX_CMD TRANSFER sends one APDU to the badge over ISO/IEC 14443-4. -/
  | rfTransfer (len : Fin 2048)
  /-- RF_DEACTIVATE (R580): RFX_CMD DEACTIVATE sends S(DESELECT) and switches the field off. -/
  | rfDeactivate
  /-- RF_ABORT (R595): RFX_CMD ABORT ends a running reader transfer with HOST_ABORT. -/
  | rfAbort
  /-- CALIBRATE (R581): RFX_CMD CALIBRATE takes one burst and stores the aerial reference. -/
  | calibrate (amp ph : BitVec 16)
  /-- RFX_CFG_WRITE (R597): An RFX_CFG write sets reader options, or is discarded whole if out of range. -/
  | rfxCfgWrite (v : BitVec 32)
  /-- RF_PING (R581): The ping interval expires, so the front end listens and then sends a detuning burst. -/
  | rfPing (heard : Bool) (amp ph : BitVec 16) (limit : Bool)
  /-- RF_BLOCK_RECEIVED (R580): A frame from the badge advances reader work or meets recovery. -/
  | rfBlockReceived (b : List (BitVec 8)) (ok : Bool) (coll : Option (Fin 40))
  /-- RF_FWT_TIMEOUT (R580): A badge does not answer within FWT, so the block is retransmitted or the work ends LOST. -/
  | rfFwtTimeout
  /-- FOREIGN_FIELD_ON (R593): A foreign carrier is heard, so FIELD is set, FIELD_DET is asserted and reader work is held off. -/
  | foreignFieldOn
  /-- FOREIGN_FIELD_OFF (R593): The foreign field goes, FIELD_OFF is set and the 500 ms holdoff begins. -/
  | foreignFieldOff
  /-- HOLDOFF_EXPIRY (R593): The 500 ms holdoff after a foreign field ends. -/
  | holdoffExpiry
  /-- INVENTORY (R585): Tabow INVENTORY opens a round of slots in which Daymark answers with a random handle. -/
  | inventory (q : BitVec 8)
  /-- DAYMARK_SLOT_ADVANCE (R585): A lone EOF from the reader advances the inventory round to the next slot. -/
  | daymarkSlotAdvance
  /-- SELECT (R585): Tabow SELECT selects the Daymark with the matching handle and returns IDENT and RAND. -/
  | select (h : BitVec 16)
  /-- READ_PAGE (R591): Tabow READ_PAGE returns a page's valid copy, with live lock-state bytes on page 1. -/
  | readPage (p : BitVec 8) (vbat : Bool)
  /-- WRITE_PAGE (R590): Tabow WRITE_PAGE writes an asset note page after a successful AUTH. -/
  | writePage (p : BitVec 8) (data : List (BitVec 8))
  /-- AUTH (R592): Tabow AUTH checks the masked password and counts failures up to the write lock. -/
  | auth (x : BitVec 64)
  /-- QUIET (R585): Tabow QUIET silences the selected Daymark until the field is lost. -/
  | quiet
  /-- DAYMARK_FIELD_LOSS (R585): The field is lost, ending the selection and the quiet state. -/
  | daymarkFieldLoss (committed : Bool)
  /-- DAYMARK_POWER_UP (R590): At power, Daymark checks both page copies by CRC and completes an interrupted commit. -/
  | daymarkPowerUp
  /-- FIRMWARE_PAGE_WRITE (R603): RFX_PAGE_CMD WRITE writes the page buffer to a Daymark page. -/
  | firmwarePageWrite (p : Fin 64)
  /-- FIRMWARE_PAGE_READ (R603): RFX_PAGE_CMD READ copies a page's valid copy into the page buffer. -/
  | firmwarePageRead (p : Fin 64)
  /-- DAYMARK_PAGE_WRITE_DONE (R590): A page write commits its new copy and is acknowledged. -/
  | daymarkPageWriteDone (ok : Bool)
  /-- BYPASS (R618): The TAP BYPASS instruction passes data through one bit. -/
  | bypass (tdi : List Bool)
  /-- IDCODE (R618): The TAP IDCODE instruction reads 0x1640_A2B7. -/
  | idcode
  /-- SAMPLE_PRELOAD (R618): The TAP SAMPLE/PRELOAD instruction samples or preloads boundary scan. -/
  | samplePreload (pre : Nat)
  /-- EXTEST (R618): The TAP EXTEST instruction performs a debug reset and drives the lands. -/
  | extest (drive : Nat)
  /-- DBG_ACCESS (R621): The TAP DBG_ACCESS instruction transfers up to 64 words with the debug access rules. -/
  | dbgAccess (t : DbgTarget) (x : DbgXfer)
  /-- CERT_LOAD (R619): The TAP CERT_LOAD instruction submits a debug certificate for verification. -/
  | certLoad (cert : Bytes)
  /-- DEBUG_RESET (R66): The TAP DEBUG_RESET instruction resets the logic die and DRAM stack. -/
  | debugReset
  /-- TAP_RESET (R620): A TAP reset or TRST_N assertion detaches the debug master and ends its certificate. -/
  | tapReset
  /-- DEBUG_HALT (R625): A DBG_HALT write of HALT stops or releases cores at their next instruction boundary. -/
  | debugHalt (halt : Fin 16)
  /-- DEBUG_STEP (R625): A DBG_HALT write of STEP runs one instruction on a halted core. -/
  | debugStep (cores : Fin 16)
  /-- THERMAL_RESTART (R41): After a thermal shutdown, every junction reads 90 °C or less, so the device starts again as from power-on. -/
  | thermalRestart (tj : BitVec 16)
  /-- HOLDUP_RECOVERY (R46): VHU_MV rises back to 4,700 in service with CAP_UF adequate, so HOLDUP_LOW clears and the logbook can record again. -/
  | holdupRecovery (vhu : BitVec 16)
  /-- PORT_REFCLK_STABLE (R76): A port's reference clock becomes stable, which starts link training if PERST#_N is released and ends a port loss caused by clock failure. -/
  | portRefclkStable (n : Fin 4)
  /-- L1_EXIT (R64): The host initiates exit from ASPM L1 and the port returns to L0. -/
  | l1Exit (n : Fin 4)
  /-- BACKUP_DOMAIN_FIRST_POWER (R533): VBAT or VIN first powers the backup domain, whose contents are undefined, and the canary is written. -/
  | backupDomainFirstPower
  /-- POOL_PAGE_PROGRAM_COMPLETE (R384): A page program in the lens-rotation pool ends, and a program that failed verify or needed more than 24 pulses retires its sector. -/
  | poolPageProgramComplete (pulses : Nat) (ok : Bool)
  /-- FLC_CMD_WRITE (R372): A write to FLC_CMD supplies the command code and advances the direct-command sequence, or discards it with SEQ_ERR. -/
  | flcCmdWrite (v : BitVec 32)
  /-- FLC_DATA_WRITE (R372): A non-final FLC_DATA write supplies one data word of the command and keeps the sequence in state 5. -/
  | flcDataWrite (v : BitVec 32)
  /-- UNDEFINED_INSTRUCTION (R427): A keeper core fetches an undefined encoding, or a word that cannot be executed, and raises the undefined-instruction or fetch fault. -/
  | undefinedInstruction (c : Fin 4) (n : Fin 5)
  /-- CARD_PPS_TIMEOUT (R560): The card's PPS response is not complete within 9,600 etu, so the card is deactivated and reactivated once, or the activation ends with PPS. -/
  | cardPpsTimeout
  /-- SMBUS_UNKNOWN_COMMAND (R553): An SMBus transaction names a command outside the table, or is a write other than a command code, and is not acknowledged. -/
  | smbusUnknownCommand
  /-- SMBUS_TIMEOUT (R638): The SMBus clock is held low for 25 to 35 ms and the target resets its bus interface. -/
  | smbusTimeout
  deriving DecidableEq, Repr

end Sys2Proof
end

