-- ==== Sys2Proof/Decode.lean ====
section
/-! DEFINITION. The commands that table words spell. -/
namespace Sys2Proof

/-- No row of the opcode table gives its command bits: the commands are events, register accesses and operations of the
device, which no word spells. (Log entry 9: DESIGN CHOICE.) -/
def decodeTableWord (nbits w : Nat) : Option Instr :=
  match nbits, w with
  | _, _ => none

end Sys2Proof
end

