-- ==== Sys2Proof/Config.lean ====
section
/-! DEFINITION. What the spec leaves to chance, to another standard or to one implementation: constants with no body,
so that no proof can see a value of them. -/
namespace Sys2Proof

/-- The functions that other standards define and the spec names (R227, R236, R245, R254, R281, R327, R346, R496). The model
leaves what they compute open. -/
inductive Prim where
  | aes | aesInverse | tdes | tdesInverse | ghash | hash (alg : Nat) | drbgDf
  | keyWrap | keyUnwrap | keyUnwrapOk
  | sign (alg : Nat) | verifyOk (alg : Nat) | agree (alg : Nat)
  | encapsCt (alg : Nat) | encapsSecret (alg : Nat) | decaps (alg : Nat)
  | publicOf (alg : Nat) | secretOf (alg : Nat) | pubOk (alg : Nat)
  | keyBlockWrap | keyBlockUnwrap | keyBlockOk | fingerprint | recordWrap | recordOk
  | certOk | imageOk | appletOk | custodianOk | passwordOk | watchCalc (i : Nat) | fit (metric : Nat) (part : Nat)
  deriving DecidableEq, Repr, Inhabited

namespace Config

/-- Byte `n` of what a standard function gives for its inputs. -/
opaque prim : Prim → List Bytes → Nat → BitVec 8

/-- The module's 16-byte unique identifier (R327). (Log entry 226: DESIGN CHOICE.) -/
opaque uniqueId : Bytes

/-- What the mask generator of a lane makes of its 256-bit state (R231, R232): the state after a number of rounds, the state
with 32 fresh bits mixed in, and byte `n` of its output. -/
opaque maskAfter : Nat → Nat → Nat
opaque maskMix : Nat → Nat → Nat
opaque maskByte : Nat → Nat → BitVec 8

/-- The conditioner's state after 64 steps of its LFSR (R322: the polynomial is not given). -/
opaque lfsrSteps : BitVec 64 → BitVec 64

/-- A value the spec does not fix, fresh for each number (State.free). -/
opaque freeValue : Nat → Nat

/-- The boot ROM's word at an address (16 of spec/: the ROM image is not given). -/
opaque romWord : Nat → BitVec 32

/-- A page of the firmware partition as shipped (the image is not given): 512 bytes, or none where it is erased. -/
opaque shippedPage : Nat → Bytes

/-- Forot's vendor identifier and its device identifiers for PFs and VFs (R80: their values are not given). -/
opaque vendorId : Nat
opaque pfDeviceId : Nat
opaque vfDeviceId : Nat

/-- The vendor root digest in its fuses (R607). -/
opaque vendorRoot : Bytes

/-- The fused device-unique key (R260, R496). -/
opaque deviceKey : Bytes

/-- The vendor signer block that Forot makes over the digest of an identity record (R121, R607). -/
opaque vendorBlock : Bytes → Bytes

/-- The module's serial, as on the Daymark identity page (R121, R586). -/
opaque serial : Bytes

/-- The date of manufacture, in the form of MOOR_TIME (R588). -/
opaque madeAt : Bytes

/-- NAME of a built-in curve (R303, R304). -/
opaque builtinName : Nat → Bytes

end Config

/-- A standard function's output, at the length its rule gives. (Log entry 10: DESIGN CHOICE.) -/
def primBytes (f : Prim) (n : Nat) (args : List Bytes) : Bytes := (List.range n).map (Config.prim f args)

/-- A standard check: its first output byte is 1 when it passes. -/
def primOk (f : Prim) (args : List Bytes) : Bool := primBytes f 1 args == [1]

end Sys2Proof
end

