-- ==== Sys2Proof/Machine/Map.lean ====
section
/-! DEFINITION. Bit fields, little-endian integers, and sparse arrays in one canonical form. -/
namespace Sys2Proof.Machine

/-! ## Sparse arrays -/

/-- The entry at a key; an unlisted key reads as the default `d`. -/
def mget {α : Type} (d : α) : SMap α → Nat → α
  | [], _ => d
  | (k', v) :: r, k => if k' = k then v else mget d r k

/-- Put an entry before the first key above its own. -/
def minsert {α : Type} (k : Nat) (v : α) : SMap α → SMap α
  | [] => [(k, v)]
  | (k', w) :: r => if k < k' then (k, v) :: (k', w) :: r else (k', w) :: minsert k v r

/-- Put `v` at `k`, keeping keys rising and listing no default. -/
def mset {α : Type} [DecidableEq α] (d : α) (m : SMap α) (k : Nat) (v : α) : SMap α :=
  let r := m.filter fun e => e.1 != k
  if v = d then r else minsert k v r

/-- Change the entry at `k` by `f`. -/
def mmod {α : Type} [DecidableEq α] (d : α) (m : SMap α) (k : Nat) (f : α → α) : SMap α :=
  mset d m k (f (mget d m k))

/-- Every key at or above `lo`, keys strictly rising, no default listed. -/
def mwfFrom {α : Type} [DecidableEq α] (d : α) : Nat → SMap α → Bool
  | _, [] => true
  | lo, (k, v) :: r => decide (lo ≤ k) && decide (v ≠ d) && mwfFrom d (k + 1) r

/-- The canonical form of a sparse array. -/
def mwf {α : Type} [DecidableEq α] (d : α) (m : SMap α) : Bool := mwfFrom d 0 m

/-- Remove every listed key that satisfies `p`. -/
def mdrop {α : Type} (p : Nat → Bool) (m : SMap α) : SMap α := m.filter fun e => !p e.1

/-! ## Bit fields -/

/-- Bits `hi` down to `lo` of a number. -/
def fld (n hi lo : Nat) : Nat := (n / 2 ^ lo) % 2 ^ (hi + 1 - lo)

/-- Bit `i` of a number. -/
def nbit (n i : Nat) : Bool := n / 2 ^ i % 2 == 1

/-- A Bool as a bit. -/
def b2n (b : Bool) : Nat := if b then 1 else 0

/-- A value placed at bit `lo`. -/
def shl (v lo : Nat) : Nat := v * 2 ^ lo

/-- Replace bits `hi` down to `lo` of a number. -/
def setFld (n hi lo v : Nat) : Nat := n - shl (fld n hi lo) lo + shl (v % 2 ^ (hi + 1 - lo)) lo

/-- A number with bit `i` set. -/
def setBit (n i : Nat) : Nat := if nbit n i then n else n + 2 ^ i

/-- A number with bit `i` clear. -/
def clrBit (n i : Nat) : Nat := if nbit n i then n - 2 ^ i else n

/-- The value a write-1-to-clear field keeps (R10). -/
def w1c (old written : Nat) : Nat := old &&& (old ^^^ written)

/-- Addition that stops at the top of a counter. -/
def satAdd (top a b : Nat) : Nat := if top ≤ a + b then top else a + b

/-- Subtraction modulo 256, for sequence and toggle bytes. -/
def sub8 (a b : Nat) : Nat := (a + 256 - b % 256) % 256

/-! ## Little-endian integers (R9) -/

/-- The `n` bytes of a number, lowest first. -/
def le : Nat → Nat → Bytes
  | 0, _ => []
  | n + 1, v => BitVec.ofNat 8 v :: le n (v / 256)

/-- The number that bytes hold, lowest first. -/
def unle : Bytes → Nat
  | [] => 0
  | b :: r => b.toNat + 256 * unle r

/-- The `n` bytes of a number, highest first. -/
def be (n v : Nat) : Bytes := (le n v).reverse

/-- The number that bytes hold, highest first. -/
def unbe (b : Bytes) : Nat := unle b.reverse

/-- `n` zero bytes. -/
def zeros (n : Nat) : Bytes := List.replicate n 0

/-- Bytes `off` to `off + n - 1`, zero-filled past the end. -/
def slice (b : Bytes) (off n : Nat) : Bytes :=
  let x := (b.drop off).take n
  x ++ zeros (n - x.length)

/-- The little-endian integer of `n` bytes at `off`. -/
def leAt (b : Bytes) (off n : Nat) : Nat := unle (slice b off n)

/-- The byte at `off`, zero past the end. -/
def byteAt (b : Bytes) (off : Nat) : Nat := leAt b off 1

/-- Every byte is zero. -/
def allZero (b : Bytes) : Bool := b.all (· == 0)

/-- Replace the element at index `i` of a list. -/
def setAt {α : Type} (l : List α) (i : Nat) (v : α) : List α := l.set i v

end Sys2Proof.Machine
end

