-- ==== Sys2Proof/Machine/Modes.lean ====
section
/-! DEFINITION. Modes of operation over the opaque block ciphers and hashes: the AES modes of R236 and R242, TDES blocks,
HMAC, the derivations of R259 and R260, and the DRBG's functions (R327). -/
namespace Sys2Proof.Machine
open Sys2Proof (primBytes)

/-- The exclusive or of two runs, as long as the shorter. -/
def xorB (a b : Bytes) : Bytes := a.zipWith (· ^^^ ·) b

/-- A value held as two Boolean shares (R195, R230, R350). -/
structure Shares where
  a : Bytes := []
  b : Bytes := []
  deriving DecidableEq, Repr, Inhabited

/-- The value that two shares hold. -/
def Shares.value (x : Shares) : Bytes := xorB x.a x.b

/-- A value split with a mask as share B. -/
def splitBy (v mask : Bytes) : Shares := { a := xorB v mask, b := mask }

/-- The same value under other masks. -/
def Shares.remask (x : Shares) (mask : Bytes) : Shares := { a := xorB x.a mask, b := xorB x.b mask }

/-- A run cut into pieces of `n` bytes; the last may be shorter. -/
def blocks (n : Nat) (b : Bytes) : List Bytes :=
  (List.range ((b.length + n - 1) / n)).map fun i => (b.drop (n * i)).take n

/-! ## Block ciphers -/

def aesEnc (key blk : Bytes) : Bytes := primBytes .aes 16 [key, blk]
def aesDec (key blk : Bytes) : Bytes := primBytes .aesInverse 16 [key, blk]
def tdesEnc (key blk : Bytes) : Bytes := primBytes .tdes 8 [key, blk]
def tdesDec (key blk : Bytes) : Bytes := primBytes .tdesInverse 8 [key, blk]

/-! ## Counter modes (R236, R242) -/

/-- Counter mode over the counter blocks `c 0`, `c 1`, … -/
def ctrWith (key : Bytes) (c : Nat → Bytes) (data : Bytes) : Bytes :=
  ((blocks 16 data).zipIdx.map fun p => xorB p.1 (aesEnc key (c p.2))).flatten

/-- CTR: all 128 bits of the initial counter block increment, big-endian. -/
def ctrRun (key iv data : Bytes) : Bytes := ctrWith key (fun i => be 16 ((unbe iv + i) % 2 ^ 128)) data

/-- GCM's payload: counter blocks from N followed by 2, the last 32 bits incrementing. -/
def gcmCtr (key n data : Bytes) : Bytes := ctrWith key (fun i => n ++ be 4 ((2 + i) % 2 ^ 32)) data

/-- GCM's tag under J0, which is N followed by 1: GHASH under H over the associated data and the ciphertext. -/
def gcmTag (tagLen : Nat) (key n aad ct : Bytes) : Bytes :=
  (xorB (aesEnc key (n ++ be 4 1)) (primBytes .ghash 16 [aesEnc key (zeros 16), aad, ct])).take tagLen

/-- The bytes of CCM's length field (R236, R242). -/
def ccmQ (n : Bytes) : Nat := 15 - n.length

/-- CCM's payload: counter blocks from 1. -/
def ccmCtr (key n data : Bytes) : Bytes :=
  ctrWith key (fun i => le 1 (ccmQ n - 1) ++ n ++ be (ccmQ n) (i + 1)) data

/-- Zero bytes up to a multiple of 16. -/
def pad16 (b : Bytes) : Bytes := b ++ zeros ((16 - b.length % 16) % 16)

/-- Associated data with its length prefix (SP 800-38C), padded; nothing where it is empty. -/
def ccmAad (aad : Bytes) : Bytes :=
  if aad.isEmpty then []
  else pad16 ((if aad.length < 0xFF00 then be 2 aad.length else [0xFF, 0xFE] ++ be 4 aad.length) ++ aad)

/-- The formatting block B0 (SP 800-38C). -/
def ccmB0 (tagLen : Nat) (n aad pt : Bytes) : Bytes :=
  le 1 ((if aad.isEmpty then 0 else 64) + (tagLen - 2) / 2 * 8 + (ccmQ n - 1)) ++ n ++ be (ccmQ n) pt.length

/-- CBC-MAC over whole blocks. -/
def cbcMac (key b : Bytes) : Bytes := (blocks 16 b).foldl (fun y x => aesEnc key (xorB y x)) (zeros 16)

/-- CCM's tag, over the plaintext. -/
def ccmTag (tagLen : Nat) (key n aad pt : Bytes) : Bytes :=
  (xorB (aesEnc key (le 1 (ccmQ n - 1) ++ n ++ zeros (ccmQ n)))
    (cbcMac key (ccmB0 tagLen n aad pt ++ ccmAad aad ++ pad16 pt))).take tagLen

/-- Authenticated encryption: the ciphertext and the tag (R236, R242). -/
def aeadSeal (ccm : Bool) (tagLen : Nat) (key n aad pt : Bytes) : Bytes × Bytes :=
  if ccm then (ccmCtr key n pt, ccmTag tagLen key n aad pt)
  else (gcmCtr key n pt, gcmTag tagLen key n aad (gcmCtr key n pt))

/-- The plaintext of a ciphertext and the tag computed over it (R237, R242). -/
def aeadOpen (ccm : Bool) (tagLen : Nat) (key n aad ct : Bytes) : Bytes × Bytes :=
  if ccm then (ccmCtr key n ct, ccmTag tagLen key n aad (ccmCtr key n ct))
  else (gcmCtr key n ct, gcmTag tagLen key n aad ct)

/-! ## Chained modes (R242) -/

/-- A chained mode: `f` gives the output of a piece and the chaining value after it. -/
def chain (f : Bytes → Bytes → Bytes × Bytes) (n : Nat) (iv data : Bytes) : Bytes :=
  ((blocks n data).foldl (fun p b => let r := f p.1 b; (r.2, p.2 ++ r.1)) (iv, [])).2

def cbcEnc (key iv data : Bytes) : Bytes :=
  chain (fun v b => let c := aesEnc key (xorB v b); (c, c)) 16 iv data
def cbcDec (key iv data : Bytes) : Bytes := chain (fun v b => (xorB (aesDec key b) v, b)) 16 iv data
def ofbRun (key iv data : Bytes) : Bytes := chain (fun v b => (xorB b (aesEnc key v), aesEnc key v)) 16 iv data

/-- CFB-128, its last partial block truncated. -/
def cfb128 (dec : Bool) (key iv data : Bytes) : Bytes :=
  chain (fun v b => let c := xorB b (aesEnc key v); (c, if dec then b else c)) 16 iv data

/-- CFB-8: one byte each pass, shifted into the 16-byte register. -/
def cfb8 (dec : Bool) (key iv data : Bytes) : Bytes :=
  chain (fun v b => let c := xorB b (aesEnc key v); (c, v.drop 1 ++ (if dec then b else c))) 1 iv data

/-- A mode of CIPHER without a tag, by its number in ALG (R173): 1 CBC, 3 CTR, 5 CFB-8, 6 CFB-128, 7 OFB. -/
def plainMode (m : Nat) (dec : Bool) (key iv data : Bytes) : Bytes :=
  match m with
  | 1 => if dec then cbcDec key iv data else cbcEnc key iv data
  | 3 => ctrRun key iv data
  | 5 => cfb8 dec key iv data
  | 6 => cfb128 dec key iv data
  | _ => ofbRun key iv data

/-! ## CMAC (R346, SP 800-38B) -/

/-- Doubling in GF(2^128). -/
def dbl (b : Bytes) : Bytes :=
  let v := 2 * unbe b
  be 16 (v % 2 ^ 128 ^^^ (if 2 ^ 128 ≤ v then 0x87 else 0))

/-- AES-CMAC. -/
def aesCmac (key msg : Bytes) : Bytes :=
  let k1 := dbl (aesEnc key (zeros 16))
  let n := (msg.length + 15) / 16 - 1
  let last := msg.drop (16 * n)
  let x := if last.length = 16 then xorB last k1 else xorB (slice (last ++ [0x80]) 0 16) (dbl k1)
  cbcMac key (msg.take (16 * n) ++ x)

/-! ## HMAC and derivation (R257, R259, R260) -/

/-- Block length of SHA-256, SHA-384 and SHA-512 (R254). -/
def hashBlockLen (a : Nat) : Nat := if a % 16 = 1 then 64 else 128

/-- Digest length of a hash ALG (R256); SHAKE takes OUT_LEN. -/
def hashLen (a : Nat) : Nat :=
  match a % 16 with
  | 1 => 32
  | 2 => 48
  | _ => 64

def hashOf (a : Nat) (b : Bytes) : Bytes := primBytes (.hash a) (hashLen a) [b]

/-- HMAC (RFC 2104) under SHA-256, SHA-384 or SHA-512; a key longer than the block is first hashed. -/
def hmac (a : Nat) (key msg : Bytes) : Bytes :=
  let k := if hashBlockLen a < key.length then hashOf a key else key
  let p := k ++ zeros (hashBlockLen a - k.length)
  hashOf a (p.map (· ^^^ 0x5C) ++ hashOf a (p.map (· ^^^ 0x36) ++ msg))

/-- Blocks T(1) to T(n) of HKDF's expansion. -/
def hkdfBlocks (a : Nat) (prk info : Bytes) (n : Nat) : Bytes :=
  ((List.range n).foldl (fun p i => let t := hmac a prk (p.1 ++ info ++ le 1 (i + 1)); (t, p.2 ++ t))
    (([] : Bytes), ([] : Bytes))).2

/-- HKDF (RFC 5869): an empty salt means HashLen zero bytes. -/
def hkdf (a n : Nat) (ikm salt info : Bytes) : Bytes :=
  let prk := hmac a (if salt.isEmpty then zeros (hashLen a) else salt) ikm
  (hkdfBlocks a prk info ((n + hashLen a - 1) / hashLen a)).take n

/-- SP 800-108 in counter mode (R260): `n` bytes under HMAC with the hash of ALG 0x11 to 0x13. -/
def kbkdf (a n : Nat) (key label context : Bytes) : Bytes :=
  (((List.range ((n + hashLen a - 1) / hashLen a)).map fun i =>
    hmac (a % 16) key (be 4 (i + 1) ++ label ++ [0] ++ context ++ be 4 (8 * n))).flatten).take n

/-! ## The DRBG (R327) -/

/-- The key and the counter of CTR_DRBG with AES-256. -/
structure Drbg where
  key : Bytes := []
  v : Bytes := []
  deriving DecidableEq, Repr, Inhabited

/-- `n` output blocks, and the counter after them. -/
def Drbg.run (d : Drbg) (n : Nat) : Bytes × Drbg :=
  (((List.range n).map fun i => aesEnc d.key (be 16 ((unbe d.v + i + 1) % 2 ^ 128))).flatten,
   { d with v := be 16 ((unbe d.v + n) % 2 ^ 128) })

/-- The update function, with 48 bytes of provided data. -/
def Drbg.update (d : Drbg) (data : Bytes) : Drbg :=
  let t := xorB (d.run 3).1 data
  { key := t.take 32, v := t.drop 32 }

/-- Instantiation from a seed, taken as entropy input and nonce together, and the personalisation string. -/
def Drbg.instantiate (seed person : Bytes) : Drbg :=
  ({ key := zeros 32, v := zeros 16 } : Drbg).update (primBytes .drbgDf 48 [seed ++ person])

/-- A reseed. -/
def Drbg.reseed (d : Drbg) (seed : Bytes) : Drbg := d.update (primBytes .drbgDf 48 [seed])

/-- One generate request of at most 64 KiB. -/
def Drbg.request (d : Drbg) (n : Nat) : Bytes × Drbg :=
  let r := d.run ((n + 15) / 16)
  (r.1.take n, r.2.update (zeros 48))

end Sys2Proof.Machine
end

