-- ==== Sys2Proof/Machine/Ec.lean ====
section
/-! DEFINITION. The arithmetic behind the public-key schemes (11 and 12 of spec/): curves over GF(p), ECDSA and ECDH, RSA,
and the parameter sets of the lattice schemes. -/
namespace Sys2Proof.Machine
open Sys2Proof (primBytes primOk)

/-! ## Arithmetic modulo a prime (R281, R306) -/

/-- `b ^ e mod m` with `fuel` bits of exponent. -/
def powMod : Nat → Nat → Nat → Nat → Nat
  | 0, _, _, m => 1 % m
  | fuel + 1, b, e, m =>
    if e = 0 then 1 % m
    else
      let h := powMod fuel (b * b % m) (e / 2) m
      if e % 2 = 1 then h * b % m else h

/-- The bit length of a number below 2^fuel. -/
def bitLen : Nat → Nat → Nat
  | 0, _ => 0
  | fuel + 1, n => if n = 0 then 0 else 1 + bitLen fuel (n / 2)

/-- Subtraction modulo p. -/
def subMod (p a b : Nat) : Nat := (a + p - b % p) % p

/-- Affine point addition on y² = x³ + ax + b over GF(p); none is the point at infinity. -/
def ecAdd (p a : Nat) : Option (Nat × Nat) → Option (Nat × Nat) → Option (Nat × Nat)
  | none, q => q
  | q, none => q
  | some (x1, y1), some (x2, y2) =>
    if x1 = x2 && (y1 + y2) % p = 0 then none
    else
      let num := if x1 = x2 then (3 * x1 * x1 + a) % p else subMod p y2 y1
      let den := if x1 = x2 then 2 * y1 % p else subMod p x2 x1
      let l := num * powMod 600 den (p - 2) p % p
      let x3 := subMod p (subMod p (l * l % p) x1) x2
      some (x3, subMod p (l * subMod p x1 x3 % p) y1)

/-- Scalar multiplication by double and add. -/
def ecMul (p a : Nat) : Nat → Nat → Option (Nat × Nat) → Option (Nat × Nat)
  | 0, _, _ => none
  | fuel + 1, k, g =>
    if k = 0 then none
    else
      let h := ecMul p a fuel (k / 2) (ecAdd p a g g)
      if k % 2 = 1 then ecAdd p a g h else h

/-- The inverse modulo a prime. -/
def invMod (p a : Nat) : Nat := powMod 600 (a % p) (p - 2) p

/-! ## Curves (R299, R304) -/

/-- A curve y² = x³ + ax + b over GF(p), with its base point, the order of that and the cofactor. -/
structure Curve where
  p : Nat
  a : Nat
  b : Nat
  gx : Nat
  gy : Nat
  n : Nat
  h : Nat
  deriving DecidableEq, Repr, Inhabited

/-- The curve of a 472-byte body (R304). -/
def curveOf (body : Bytes) : Curve :=
  let f (i : Nat) : Nat := unbe (slice body (40 + 72 * i) 72)
  { p := f 0, a := f 1, b := f 2, gx := f 3, gy := f 4, n := f 5, h := byteAt body 4 }

/-- The byte length of a number of at most 576 bits. -/
def byteLen (n : Nat) : Nat := (bitLen 576 n + 7) / 8

/-- The body of a curve (R304). -/
def curveBody (name : Bytes) (c : Curve) : Bytes :=
  le 2 (bitLen 576 c.p) ++ le 1 (byteLen c.p) ++ le 1 (byteLen c.n) ++ le 1 c.h ++ zeros 3 ++ slice name 0 32 ++
  be 72 c.p ++ be 72 c.a ++ be 72 c.b ++ be 72 c.gx ++ be 72 c.gy ++ be 72 c.n

/-- P-256. -/
def p256 : Curve := {
  p := 0xffffffff00000001000000000000000000000000ffffffffffffffffffffffff
  a := 0xffffffff00000001000000000000000000000000fffffffffffffffffffffffc
  b := 0x5ac635d8aa3a93e7b3ebbd55769886bc651d06b0cc53b0f63bce3c3e27d2604b
  gx := 0x6b17d1f2e12c4247f8bce6e563a440f277037d812deb33a0f4a13945d898c296
  gy := 0x4fe342e2fe1a7f9b8ee7eb4a7c0f9e162bce33576b315ececbb6406837bf51f5
  n := 0xffffffff00000000ffffffffffffffffbce6faada7179e84f3b9cac2fc632551
  h := 1 }

/-- P-384. -/
def p384 : Curve := {
  p := 0xfffffffffffffffffffffffffffffffffffffffffffffffffffffffffffffffeffffffff0000000000000000ffffffff
  a := 0xfffffffffffffffffffffffffffffffffffffffffffffffffffffffffffffffeffffffff0000000000000000fffffffc
  b := 0xb3312fa7e23ee7e4988e056be3f82d19181d9c6efe8141120314088f5013875ac656398d8a2ed19d2a85c8edd3ec2aef
  gx := 0xaa87ca22be8b05378eb1c71ef320ad746e1d3b628ba79b9859f741e082542a385502f25dbf55296c3a545e3872760ab7
  gy := 0x3617de4a96262c6f5d9e98bf9292dc29f8f41dbd289a147ce9da3113b5f0b8c00a60b1ce1d7e819d7a431d7c90ea0e5f
  n := 0xffffffffffffffffffffffffffffffffffffffffffffffffc7634d81f4372ddf581a0db248b0a77aecec196accc52973
  h := 1 }

/-- P-521. -/
def p521 : Curve := {
  p := 0x1ffffffffffffffffffffffffffffffffffffffffffffffffffffffffffffffffffffffffffffffffffffffffffffffffffffffffffffffffffffffffffffffffff
  a := 0x1fffffffffffffffffffffffffffffffffffffffffffffffffffffffffffffffffffffffffffffffffffffffffffffffffffffffffffffffffffffffffffffffffc
  b := 0x51953eb9618e1c9a1f929a21a0b68540eea2da725b99b315f3b8b489918ef109e156193951ec7e937b1652c0bd3bb1bf073573df883d2c34f1ef451fd46b503f00
  gx := 0xc6858e06b70404e9cd9e3ecb662395b4429c648139053fb521f828af606b4d3dbaa14b5e77efe75928fe1dc127a2ffa8de3348b3c1856a429bf97e7e31c2e5bd66
  gy := 0x11839296a789a3bc0045c8a5fb42c7d1bd998f54449579b446817afbd17273e662c97ee72995ef42640c550b9013fad0761353c7086a272c24088be94769fd16650
  n := 0x1fffffffffffffffffffffffffffffffffffffffffffffffffffffffffffffffffa51868783bf2f966b7fcc0148f709a5d03bb5c9b8899c47aebb6fb71e91386409
  h := 1 }

/-- brainpoolP256r1. -/
def bp256 : Curve := {
  p := 0xa9fb57dba1eea9bc3e660a909d838d726e3bf623d52620282013481d1f6e5377
  a := 0x7d5a0975fc2c3057eef67530417affe7fb8055c126dc5c6ce94a4b44f330b5d9
  b := 0x26dc5c6ce94a4b44f330b5d9bbd77cbf958416295cf7e1ce6bccdc18ff8c07b6
  gx := 0x8bd2aeb9cb7e57cb2c4b482ffc81b7afb9de27e1e3bd23c23a4453bd9ace3262
  gy := 0x547ef835c3dac4fd97f8461a14611dc9c27745132ded8e545c1d54c72f046997
  n := 0xa9fb57dba1eea9bc3e660a909d838d718c397aa3b561a6f7901e0e82974856a7
  h := 1 }

/-- brainpoolP384r1. -/
def bp384 : Curve := {
  p := 0x8cb91e82a3386d280f5d6f7e50e641df152f7109ed5456b412b1da197fb71123acd3a729901d1a71874700133107ec53
  a := 0x7bc382c63d8c150c3c72080ace05afa0c2bea28e4fb22787139165efba91f90f8aa5814a503ad4eb04a8c7dd22ce2826
  b := 0x4a8c7dd22ce28268b39b55416f0447c2fb77de107dcd2a62e880ea53eeb62d57cb4390295dbc9943ab78696fa504c11
  gx := 0x1d1c64f068cf45ffa2a63a81b7c13f6b8847a3e77ef14fe3db7fcafe0cbd10e8e826e03436d646aaef87b2e247d4af1e
  gy := 0x8abe1d7520f9c2a45cb1eb8e95cfd55262b70b29feec5864e19c054ff99129280e4646217791811142820341263c5315
  n := 0x8cb91e82a3386d280f5d6f7e50e641df152f7109ed5456b31f166e6cac0425a7cf3ab6af6b7fc3103b883202e9046565
  h := 1 }

/-- The built-in curves, by slot (R299). Their parameters are FIPS 186-5's and RFC 5639's. (Log entry 214: PRESUMED.) -/
def builtin (i : Nat) : Curve :=
  match i with | 0 => p256 | 1 => p384 | 2 => p521 | 3 => bp256 | _ => bp384

/-- The body of a built-in curve (R299, R303); its NAME is not given. (Log entry 222: DESIGN CHOICE.) -/
def builtinBody (i : Nat) : Bytes := curveBody (Config.builtinName i) (builtin i)

/-- `k` times a point. -/
def Curve.mul (c : Curve) (k : Nat) (q : Option (Nat × Nat)) : Option (Nat × Nat) := ecMul c.p c.a 1200 k q

/-- `k` times the base point. -/
def Curve.mulG (c : Curve) (k : Nat) : Option (Nat × Nat) := c.mul k (some (c.gx, c.gy))

/-- The point is on the curve. -/
def Curve.has (c : Curve) (x y : Nat) : Bool :=
  decide (x < c.p) && decide (y < c.p) && y * y % c.p == (x * x * x + c.a * x + c.b) % c.p

/-- An uncompressed point, 0x04 ‖ X ‖ Y (R277). -/
def pointBytes (c : Curve) : Option (Nat × Nat) → Bytes
  | none => zeros (1 + 2 * byteLen c.p)
  | some q => [0x04] ++ be (byteLen c.p) q.1 ++ be (byteLen c.p) q.2

/-- The coordinates of an uncompressed point. -/
def pointOf (c : Curve) (b : Bytes) : Nat × Nat :=
  (unbe (slice b 1 (byteLen c.p)), unbe (slice b (1 + byteLen c.p) (byteLen c.p)))

/-- Full public-key validation (R281, R310): the encoding, the range, the curve, and, where h is above 1, n·Q = O. -/
def ecPubOk (c : Curve) (b : Bytes) : Bool :=
  let q := pointOf c b
  b.length == 1 + 2 * byteLen c.p && byteAt b 0 == 4 && c.has q.1 q.2 && (decide (c.h ≤ 1) || c.mul c.n (some q) == none)

/-! ## ECDSA and ECDH (R277, R281, R310) -/

/-- A scalar from 1 to n - 1 from a draw, by the rejection sampling of FIPS 186-5, which stays open. -/
def scalarOf (c : Curve) (seed : Bytes) : Nat := unbe (primBytes (.secretOf 1) 72 [seed, be 72 c.n]) % (c.n - 1) + 1

/-- The leftmost bits of a digest, up to the bit length of n. -/
def digestInt (c : Curve) (dig : Bytes) : Nat := unbe dig / 2 ^ (8 * dig.length - bitLen 576 c.n)

/-- r and s of a signature with a secret k, unless one of them is zero. -/
def ecdsaTry (c : Curve) (d : Nat) (dig : Bytes) (k : Nat) : Option (Nat × Nat) :=
  let r := ((c.mulG k).map Prod.fst).getD 0 % c.n
  let s := invMod c.n k * (digestInt c dig + r * d) % c.n
  if r = 0 || s = 0 then none else some (r, s)

/-- ECDSA signing: k is drawn again while r or s is zero. -/
def ecdsaSign (c : Curve) (secret dig draw : Bytes) : Bytes :=
  let rs := ((List.range 8).findSome? fun i => ecdsaTry c (unbe secret) dig (scalarOf c (draw ++ le 1 i))).getD (0, 0)
  be (byteLen c.n) rs.1 ++ be (byteLen c.n) rs.2

/-- ECDSA verification: r and s lie in 1 to n - 1. -/
def ecdsaOk (c : Curve) (pub dig sig : Bytes) : Bool :=
  let r := unbe (slice sig 0 (byteLen c.n))
  let s := unbe (slice sig (byteLen c.n) (byteLen c.n))
  let w := invMod c.n s
  let q := ecAdd c.p c.a (c.mulG (digestInt c dig * w % c.n)) (c.mul (r * w % c.n) (some (pointOf c pub)))
  decide (0 < r) && decide (r < c.n) && decide (0 < s) && decide (s < c.n) && (q.map fun z => z.1 % c.n) == some r

/-- ECC CDH: the secret times the cofactor times the peer's point; none is infinity. -/
def ecdh (c : Curve) (secret peer : Bytes) : Option Bytes :=
  (c.mul (c.h * unbe secret) (some (pointOf c peer))).map fun q => be (byteLen c.p) q.1

/-- The public key of a scalar. -/
def ecPublic (c : Curve) (secret : Bytes) : Bytes := pointBytes c (c.mulG (unbe secret))

/-! ## RSA (R281, R343) -/

/-- Field `i` of p, q, dp, dq and qinv in a private key's secret, for a modulus of `k` bytes (R343). -/
def rsaField (k : Nat) (secret : Bytes) (i : Nat) : Nat := unbe (slice secret (i * (k / 2)) (k / 2))

/-- RSADP and RSASP1 by CRT (R281). -/
def rsaCrt (k : Nat) (secret : Bytes) (c : Nat) : Nat :=
  let f := rsaField k secret
  let m1 := powMod 2100 (c % f 0) (f 2) (f 0)
  let m2 := powMod 2100 (c % f 1) (f 3) (f 1)
  m2 + f 4 * subMod (f 0) (m1 % f 0) m2 % f 0 * f 1

/-! ## Lattice parameter sets (R313) -/

/-- An ML-KEM set: k, η1, η2, du, dv. -/
structure KemSet where
  k : Nat
  eta1 : Nat
  eta2 : Nat
  du : Nat
  dv : Nat
  deriving DecidableEq, Repr, Inhabited

/-- An ML-DSA set: (k, l), η, τ, γ1, γ2, ω. -/
structure DsaSet where
  k : Nat
  l : Nat
  eta : Nat
  tau : Nat
  gamma1 : Nat
  gamma2 : Nat
  omega : Nat
  deriving DecidableEq, Repr, Inhabited

/-- The moduli of ML-KEM and ML-DSA (R312). -/
def kemQ : Nat := 3329
def dsaQ : Nat := 8380417

def kemSet (alg : Nat) : KemSet :=
  match alg with
  | 0x20 => ⟨2, 3, 2, 10, 4⟩
  | 0x21 => ⟨3, 2, 2, 10, 4⟩
  | _ => ⟨4, 2, 2, 11, 5⟩

def dsaSet (alg : Nat) : DsaSet :=
  match alg with
  | 0x28 => ⟨4, 4, 2, 39, 2 ^ 17, (dsaQ - 1) / 88, 80⟩
  | 0x29 => ⟨6, 5, 4, 49, 2 ^ 19, (dsaQ - 1) / 32, 55⟩
  | _ => ⟨8, 7, 2, 60, 2 ^ 19, (dsaQ - 1) / 32, 75⟩

/-- The parameters of a lattice ALG, as the schemes' functions take them. -/
def latticeSet (alg : Nat) : Bytes :=
  if alg < 0x28 then
    let x := kemSet alg
    le 4 kemQ ++ le 1 x.k ++ le 1 x.eta1 ++ le 1 x.eta2 ++ le 1 x.du ++ le 1 x.dv
  else
    let x := dsaSet alg
    le 4 dsaQ ++ le 1 x.k ++ le 1 x.l ++ le 1 x.eta ++ le 1 x.tau ++ le 4 x.gamma1 ++ le 4 x.gamma2 ++ le 1 x.omega

/-! ## The schemes (R281) -/

/-- Edwards and lattice schemes sign by functions of their standards (R281). -/
def signWith (alg : Nat) (c : Curve) (len : Nat) (secret msg ctx draw : Bytes) : Bytes :=
  if alg = 1 then ecdsaSign c secret msg draw
  else if alg < 0x20 then primBytes (.sign alg) len [secret, msg, ctx]
  else primBytes (.sign alg) len [latticeSet alg, secret, msg, ctx, draw.take 32]

/-- A signature verifies (R281, R282). -/
def verifyWith (alg : Nat) (c : Curve) (pub msg sig ctx : Bytes) : Bool :=
  if alg = 1 then ecdsaOk c pub msg sig
  else if alg < 0x20 then primOk (.verifyOk alg) [pub, msg, sig, ctx]
  else primOk (.verifyOk alg) [latticeSet alg, pub, msg, sig, ctx]

/-- A public key passes the validation of its scheme (R281): none applies to X25519 and to ML-DSA. -/
def pubValidWith (alg : Nat) (c : Curve) (pub : Bytes) : Bool :=
  if alg ≤ 2 then ecPubOk c pub
  else if alg = 4 || alg = 5 then primOk (.pubOk alg) [pub]
  else if 0x20 ≤ alg && alg ≤ 0x22 then primOk (.pubOk alg) [latticeSet alg, pub]
  else true

/-- The public key of a secret (R277). -/
def publicWith (alg : Nat) (c : Curve) (len : Nat) (secret : Bytes) : Bytes :=
  if alg ≤ 2 then ecPublic c secret
  else if alg < 0x20 then primBytes (.publicOf alg) len [secret]
  else primBytes (.publicOf alg) len [latticeSet alg, secret]

end Sys2Proof.Machine
end

