-- ==== Sys2Proof/Machine/PartsBase.lean ====
section
/-! DEFINITION. State of the platform: parts, units, policy banks, supply, clocks, interrupts, memory protection,
logbook and event recorders (00, 01, 02, 03, 19, 20 of spec/). -/
namespace Sys2Proof.Machine

/-- The three parts of R1 and R2. -/
inductive Part where
  | g1640 | g1620 | g0810
  deriving DecidableEq, Repr, Inhabited

/-- The lifecycle states of R7, in the code order of the capability block (R85). -/
inductive Lifecycle where
  | factory | commissioned | operational | locked | zeroised
  deriving DecidableEq, Repr, Inhabited

/-- The unit states of R9, coded 0 to 5 (R23). -/
inductive UnitState where
  | off | starting | on | draining | enablePending | faulted
  deriving DecidableEq, Repr, Inhabited

/-- What a unit's control and status words hold (R22, R23); DRAIN is read from the state. -/
structure UnitRec where
  en : Bool := false
  st : UnitState := .off
  cause : Nat := 0
  trans : Nat := 0
  deriving DecidableEq, Repr, Inhabited

/-- An event on a unit (R24, R25). -/
inductive UnitEvent where
  | enWrite (v : Bool)
  | quiesce
  | reset
  | initDone
  | initFail (cause : Nat)
  | drained
  | fault (cause : Nat)
  deriving DecidableEq, Repr

/-- A domain's shares and permissions in one policy bank (R19, R106, R130). -/
structure Share where
  weight : Nat := 16
  quota : Nat := 256
  reserve : Nat := 0
  perms : Nat := 0
  deriving DecidableEq, Repr, Inhabited

/-- A curve slot in one policy bank (R299, R320). -/
structure CurveSel where
  valid : Bool := false
  copy : Nat := 0
  deriving DecidableEq, Repr, Inhabited

/-- One policy bank (R19). -/
structure Bank where
  shares : SMap Share := []
  pollClass : SMap Nat := []
  curves : SMap CurveSel :=
    [(0, ⟨true, 0⟩), (1, ⟨true, 0⟩), (2, ⟨true, 0⟩), (3, ⟨true, 0⟩), (4, ⟨true, 0⟩)]
  deriving DecidableEq, Repr, Inhabited

/-- QE_POLICY_CTRL and QE_POLICY_STATUS (R20) with both banks. -/
structure Policy where
  bank0 : Bank := {}
  bank1 : Bank := {}
  active : Nat := 0
  epoch : Nat := 0
  dropped : Bool := false
  deriving DecidableEq, Repr, Inhabited

/-- Where the device stands between a start and a stop (R32, R43, R68). `booting n` has passed step n of R68. -/
inductive Phase where
  | backupOnly
  | booting (step : Nat)
  | ready
  | bootFailed
  | stopping
  deriving DecidableEq, Repr, Inhabited

/-- The governor, the input switch, the hold-up bank and the sensors (R31 to R54). `governed` says that the governor has
decided a band since the start, `clampSamples` counts clamped samples within a millisecond, `stopped` that the next start
follows a stop; `thermalWait` and `thermalHold` are what a thermal shutdown makes a start wait for (R41). -/
structure Power where
  phase : Phase := .booting 4
  vinMv : Int := 0
  iinMa : Nat := 0
  band : Nat := 0
  vinLow : Bool := false
  ovWarn : Bool := false
  clampActive : Bool := false
  throttle : Bool := false
  stretch : Bool := false
  thermalRow : Nat := 5
  holdupLow : Bool := false
  clampMs : Nat := 0
  capUf : Nat := 0
  vhuMv : Nat := 0
  tj16 : Int := 0
  hotCluster : Nat := 15
  switchClosed : Bool := true
  overvoltStop : Bool := false
  governed : Bool := false
  clampSamples : Nat := 0
  stopped : Bool := false
  thermalWait : Bool := false
  thermalHold : Bool := false
  deriving DecidableEq, Repr, Inhabited

/-- The clock and reset registers (R69, R70) and the DRAM's self-refresh. -/
structure Clocks where
  xtal25 : Bool := true
  xtal32k : Bool := true
  xtal27m : Bool := false
  pllDp : Bool := true
  pllDram : Bool := false
  pllKpr : Bool := true
  portClk : Nat := 0
  dramSr : Bool := false
  rfOsc : Bool := false
  resetCause : Nat := 1
  deriving DecidableEq, Repr, Inhabited

/-- PWR_EVENTS, kept in the backup domain (R53), and the RTC moments of thermal shutdowns (R41). -/
structure PowerEvents where
  bits : Nat := 0
  surge : Nat := 0
  thermalStops : List Nat := []
  deriving DecidableEq, Repr, Inhabited

/-! ## Interrupts and memory protection (19) -/

/-- One counted source at one core (R469, R480). -/
structure CountedSrc where
  count : Nat := 0
  ovf : Bool := false
  deriving DecidableEq, Repr, Inhabited

/-- One core's interrupt controller (R467 to R481). `crossing` is what the source side has counted and the core has
not yet added (R57). -/
structure IntCtl where
  en : Nat := 0
  active : Nat := 0
  soft : Nat := 0
  counts : SMap CountedSrc := []
  crossing : SMap Nat := []
  tickLatch : Bool := false
  missed : Nat := 0
  eoiErr : Bool := false
  deriving DecidableEq, Repr, Inhabited

/-- One MPU region (R490), as its three words. -/
structure MpuRegion where
  base : Nat := 0
  limit : Nat := 0
  attr : Nat := 0
  deriving DecidableEq, Repr, Inhabited

/-- A store waiting in the write buffer (R485, R486): `size` 4, 2 or 1; `tag` in bits 35 to 32 of the word. -/
structure BufStore where
  addr : Nat
  size : Nat
  value : Nat
  tag : Nat
  ring : Nat
  deriving DecidableEq, Repr, Inhabited

/-- One core's MPU (R482 to R490). -/
structure Mpu where
  en : Bool := false
  draining : Bool := false
  wrRefused : Bool := false
  regions : SMap MpuRegion := []
  buf : List BufStore := []
  impAddr : Nat := 0
  impCount : Nat := 0
  impRing : Nat := 0
  deriving DecidableEq, Repr, Inhabited

/-! ## Logbook and recorders (20) -/

/-- Where a change or event came from (R495). -/
structure Origin where
  source : Nat := 3
  port : Nat := 0
  fn : Nat := 0
  ring : Nat := 0
  core : Nat := 0
  custodian : Nat := 255
  deriving DecidableEq, Repr, Inhabited

/-- A logbook entry (R494). -/
structure LogEntry where
  seq : Nat
  time : Nat
  origin : Origin
  cls : Nat
  code : Nat
  sev : Nat
  form : Bool := false
  status : Nat := 0
  object : Nat := 0
  old : Nat := 0
  new : Nat := 0
  mac : Bytes := []
  stagedAt : Nat := 0
  deriving DecidableEq, Repr, Inhabited

/-- The logbook (R497 to R500, R512 to R514). `prog` holds the retained programmed entries, oldest first. -/
structure Logbook where
  retain : Bool := false
  nextSeq : Nat := 0
  ackNext : Nat := 0
  staged : List LogEntry := []
  prog : List LogEntry := []
  refused : Nat := 0
  droppedLow : Nat := 0
  lost : Nat := 0
  overwrites : Nat := 0
  overwrote : Bool := false
  chainBreak : Bool := false
  ctlFault : Bool := false
  couldRecord : Bool := true
  lastMac : Bytes := []
  deriving DecidableEq, Repr, Inhabited

/-- A recorder entry (R504). -/
structure RecEntry where
  rseq : Nat
  kind : Nat
  sev : Nat
  cont : Bool := false
  code : Nat
  tick : Nat
  cycle : Nat
  place : Nat
  data : Bytes
  deriving DecidableEq, Repr, Inhabited

/-- A histogram under way (R504, R505). -/
structure Hist where
  bins : List Nat := List.replicate 16 0
  min : Int := 0
  max : Int := 0
  any : Bool := false
  deriving DecidableEq, Repr, Inhabited

/-- One tile or cluster recorder (R504 to R508). `slots` pairs a slot number with its entry, oldest first. -/
structure Recorder where
  slots : List (Nat × RecEntry) := []
  rseq : Nat := 0
  drop : Nat := 0
  frozenCnt : Nat := 0
  hists : SMap Hist := []
  extremes : SMap (Option Int) := []
  deriving DecidableEq, Repr, Inhabited

/-- All recorders, keyed 6 × cluster + tile with tile 5 the cluster's own (R516), and the EVR_ registers (R515). -/
structure Recorders where
  recs : SMap Recorder := []
  selCluster : Nat := 0
  selTile : Nat := 0
  cursor : Nat := 0
  auto : Bool := false
  freeze : Bool := false
  timeout : Bool := false
  dropNew : Nat := 0
  deriving DecidableEq, Repr, Inhabited

end Sys2Proof.Machine
end

