-- ==== Sys2Proof/Machine/PartsKeeper.lean ====
section
/-! DEFINITION. State of the keeper cores and their memories (16, 17, 18 of spec/). -/
namespace Sys2Proof.Machine

/-- The tags of R401. -/
inductive Tag where
  | int | addr | code | keyref | secret | err | handle | gate
  deriving DecidableEq, Repr, Inhabited

/-- A 36-bit keeper word: a value and its tag (R400). -/
structure KWord where
  val : BitVec 32 := 0
  tag : Tag := .int
  deriving DecidableEq, Repr, Inhabited

/-- An accumulator (R406): value and guard in 68 bits, and a tag. -/
structure Acc where
  val : BitVec 68 := 0
  tag : Tag := .int
  deriving DecidableEq, Repr, Inhabited

/-- A register bank (R406, R457): D and A registers, ST but for SB, and PROG. -/
structure KBank where
  d : SMap KWord := []
  a : SMap KWord := []
  c : Bool := false
  v : Bool := false
  z : Bool := false
  n : Bool := false
  fs : Bool := false
  ie : Bool := false
  ring : Nat := 0
  prog : Nat := 0
  deriving DecidableEq, Repr, Inhabited

/-- A shadow-stack partition descriptor (R462). -/
structure Sstk where
  base : Nat
  fin : Nat
  top : Nat
  deriving DecidableEq, Repr, Inhabited

/-- A keeper core (R406 to R423, R448 to R462). `slots` are its three mailbox slots, by number, while FULL; `cycleHi` is
CYCLE_HI as latched; `step` says that a halted core is to run one instruction (R625); `hiLatch` is the high word that a
read of a wide register has latched, with its address (R398). -/
structure Core where
  main : KBank := {}
  shadow : KBank := { a := [(7, ⟨0x40000, .addr⟩)] }
  sb : Bool := false
  q : SMap Acc := []
  pc : BitVec 32 := 0x30000000
  vecbase : KWord := ⟨0x30000000, .code⟩
  cause : Nat := 0
  addrFault : Nat := 0
  entryRing : Nat := 0
  profileM : Bool := false
  cycleHi : Nat := 0
  gateSel : Nat := 0
  gates : SMap (BitVec 32) := []
  sstkSel : Nat := 0
  sstk : SMap (BitVec 32) := []
  part0 : Sstk := ⟨0, 256, 0⟩
  part1 : Sstk := ⟨256, 384, 256⟩
  part2 : Sstk := ⟨384, 448, 384⟩
  part3 : Sstk := ⟨448, 512, 448⟩
  waiting : Bool := false
  step : Bool := false
  resv : Option Nat := none
  hiLatch : Option (Nat × Nat) := none
  slots : SMap (Option KWord) := []
  txDrop : Nat := 0
  dramBase : Nat := 4
  baseRefused : Bool := false
  deriving DecidableEq, Repr, Inhabited

/-- The cores and their memories (R394): words by word number. A word of `dram` tagged ERR lies in a line that no longer
passes its check (R218). -/
structure Keeper where
  core0 : Core := {}
  core1 : Core := { dramBase := 5 }
  core2 : Core := { dramBase := 6 }
  core3 : Core := { dramBase := 7 }
  local0 : SMap KWord := []
  local1 : SMap KWord := []
  local2 : SMap KWord := []
  local3 : SMap KWord := []
  shared : SMap KWord := []
  dram : SMap KWord := []
  allLocked : Bool := false
  deriving DecidableEq, Repr, Inhabited

/-- Every memory of the keeper is in its canonical form: addresses rising, no word listed that an unlisted one reads as. -/
def Keeper.memWf (k : Keeper) : Bool :=
  mwf {} k.local0 && mwf {} k.local1 && mwf {} k.local2 && mwf {} k.local3 && mwf {} k.shared && mwf {} k.dram

end Sys2Proof.Machine
end

