-- ==== Sys2Proof/Machine/PartsCrypto.lean ====
section
/-! DEFINITION. State of the engines: cipher lanes, hash pipes, legacy unit, PK pairs, curve slots, random source
(09 to 13 of spec/). -/
namespace Sys2Proof.Machine

/-- A mask generator and its seed buffer (R231): the generator's 256-bit state, the message seeds and the full seed that the
buffer holds, the blocks processed since the last full reseed, and the number of full reseeds. -/
structure MaskGen where
  state : Nat := 0
  seeds : List Bytes := []
  full : Option Bytes := none
  since : Nat := 0
  reseeds : Nat := 0
  deriving DecidableEq, Repr, Inhabited

/-- One cipher lane (R227 to R235, R250, R251). What it carries, and what its release buffer holds, stands in the operations
in flight. -/
structure Lane where
  mask : MaskGen := {}
  blocks : Nat := 0
  deriving DecidableEq, Repr, Inhabited

/-- A hash pipe (R253 to R255, R270). The messages its four contexts hold are read from the operations in flight. -/
structure Pipe where
  blocks : Nat := 0
  deriving DecidableEq, Repr, Inhabited

/-- The legacy cipher unit (R264 to R266), seeded and refreshed as a lane. -/
structure Legacy where
  mask : MaskGen := {}
  blocks : Nat := 0
  deriving DecidableEq, Repr, Inhabited

/-- The operand memory of an engine (R271, R291): zero, an operation's operands, or what a scrub has written over them
first, which is the DRBG output of one draw. -/
inductive OpMem where
  | zero
  | data (b : Bytes)
  | random (d : Drbg)
  deriving DecidableEq, Repr, Inhabited

/-- A PK engine pair (R271 to R298, R315): the operand memories of its engines A and B, their 128-bit mask generators, and
the randomness buffer in units of 8 B. `latched` says that firmware leaves the pair FAULTED until the next power-on (R287).
What its engines run, and which operation has reserved it, is read from the operations in flight. -/
structure Pair where
  memA : OpMem := .zero
  memB : OpMem := .zero
  maskA : Nat := 0
  maskB : Nat := 0
  rand : List Bytes := []
  compareFails : Nat := 0
  validityFails : Nat := 0
  ops : Nat := 0
  resetTicks : List Nat := []
  latched : Bool := false
  deriving DecidableEq, Repr, Inhabited

/-- What a copy of a curve slot holds (R299, R301): `asReset` is the built-in curve of slots 0 to 4 and nothing in the
others; `loaded` holds the 472-byte body. -/
inductive CurveCopy where
  | asReset
  | loaded (body : Bytes)
  deriving DecidableEq, Repr, Inhabited

/-- A curve slot (R299 to R309): its two copies, the words being written to the copy not live, its epoch, and its record
in flash. -/
structure CurveSlot where
  copy0 : CurveCopy := .asReset
  copy1 : CurveCopy := .asReset
  staging : Bytes := []
  epoch : Nat := 0
  record : Option Bytes := none
  deriving DecidableEq, Repr, Inhabited

/-- The curve registers of firmware (R318 to R320). -/
structure CurveRegs where
  slot : Nat := 0
  copy : Nat := 0
  refused : Bool := false
  index : Nat := 0
  deriving DecidableEq, Repr, Inhabited

/-- A core stalled in a read of RNG_DATA (R332), and the D register it reads into, if it is a plain load. -/
structure RngStall where
  core : Nat
  dst : Option Nat
  deriving DecidableEq, Repr, Inhabited

/-- The random source (13). `isolated` marks noise pairs and `isoCount` counts their isolations; `lfsr` is the conditioner's
state, `lastWord` the conditioned word it emitted last, `seed` the ready seed; `drbg` is the generator, once instantiated;
`requests` counts generate requests since the last reseed; `afterFault` holds from FAULTED until ON (R335); `answers` are
the words for which a stalled instruction, other than a plain load, runs again; `latched` says that firmware leaves the
source FAULTED until the next power-on (R335). -/
structure Rng where
  isolated : Nat := 0
  isoCount : SMap Nat := []
  lfsr : BitVec 64 := 0
  lastWord : Option (BitVec 64) := none
  seed : Option Bytes := none
  reseedDue : Bool := false
  drbg : Option Drbg := none
  afterFault : Bool := false
  requests : Nat := 0
  reseeds : Nat := 0
  bytes : Nat := 0
  rct : Nat := 0
  apt : Nat := 0
  readmits : Nat := 0
  stalls : List RngStall := []
  answers : List (Nat × KWord) := []
  resetTicks : List Nat := []
  latched : Bool := false
  deriving DecidableEq, Repr, Inhabited

/-- Arbitration lists (R109, R262, R275, R333): domains in turn order. -/
structure Arb where
  lane : List Nat := []
  hash : List Nat := []
  pk : List Nat := []
  rng : List Nat := []
  deriving DecidableEq, Repr, Inhabited

end Sys2Proof.Machine
end

