-- ==== Sys2Proof/Machine/PartsData.lean ====
section
/-! DEFINITION. State of the data plane: operations in flight and moorings (07, 08 of spec/). -/
namespace Sys2Proof.Machine

/-- How far an admitted operation has come between admission and its completion entry. -/
inductive Stage where
  | waitFill (side : Nat)
  | waitPb
  | waitNonce
  | ready
  | dispatched
  | running
  | computed
  | releasing
  | scrubbing
  | held
  | draining
  deriving DecidableEq, Repr, Inhabited

/-- An operation in flight (R16, R149, R204, R206). `desc` is the descriptor as fetched; `seqNo` its place in admission
order; `weight` its domain's weight in the bank of its admission; `unit` the lane, pair or pipe that runs it; `eng` the
engines of its pair (0 A, 1 B, 2 both); `pipe` and `ctx` the hash pipe and context that carry its message or hash stream;
`key1`, `key2` (as the shares of their image entries), `keyPub` and `curveB` the keys and curve resolved at its admission. A
lane holds as two shares `laneKey`, the key of the pass re-masked, `laneH`, GHASH's key, and `buf`, the plaintext in its
release buffer (R230); `blocksDone` and `starved` are how far a pass has come that waits for a full seed (R231), `setWait`
that its wait for a full set is counted (R215). `out` and `aux` are the bytes its execution has made. `lost` says that its
port or function was lost, so that it gets no entry (R91 to R93). An engine pair's operation takes `draw` units of 8 B for
each engine when it starts, and holds in `drawn` the draw that its scheme takes (R283, R289). -/
structure Op where
  tag : Nat
  dom : Nat
  q : Nat
  idx : Nat
  desc : Bytes
  bank : Nat
  epoch : Nat
  seqNo : Nat
  weight : Nat := 16
  stage : Stage := .ready
  ctr : Option Nat := none
  salt : Nat := 0
  area : Nat := 0
  areaIn : Nat := 0
  rekeyDue : Bool := false
  heldCtr : Option Nat := none
  marked : Bool := false
  moored : Bool := false
  unit : Option UnitId := none
  eng : Nat := 0
  pipe : Option Nat := none
  ctx : Nat := 0
  reserved : Bool := false
  key1 : Shares := {}
  key2 : Shares := {}
  keyPub : Bytes := []
  curveB : Bytes := []
  curveSlot : Nat := 0
  curveEp : Nat := 0
  cL : Nat := 0
  cLn : Nat := 0
  arrived : Bool := false
  pb : Bytes := []
  input : Bytes := []
  auxIn : Bytes := []
  out : Bytes := []
  aux : Bytes := []
  laneKey : Shares := {}
  laneH : Shares := {}
  buf : Shares := {}
  pass : Nat := 1
  blocksDone : Nat := 0
  starved : Bool := false
  setWait : Bool := false
  outWritten : Bool := false
  written : Nat := 0
  dup : Bool := false
  status : Nat := 0
  detail : Nat := 0
  result : Bytes := []
  draw : Nat := 0
  drawn : Bytes := []
  needOut : Nat := 0
  needAux : Nat := 0
  compareOk : Bool := true
  lost : Bool := false
  deriving DecidableEq, Repr, Inhabited

/-- The mooring slot states of R197. -/
inductive MoorState where
  | free | active | retired | poisoned | quarantined
  deriving DecidableEq, Repr, Inhabited

/-- A mooring (R195 to R199). Keys are held as their two shares; the window is a 1,024-bit number, bit i for TOP - i. -/
structure Mooring where
  state : MoorState := .free
  alg : Nat := 0
  dir : Nat := 0
  tagLen : Nat := 0
  gen : Nat := 1
  owner : Nat := 0
  pinValid : Bool := false
  pinQ : Nat := 0
  salt : Nat := 0
  mflags : Nat := 0
  keySel : Nat := 0
  winValid : Bool := false
  ctr : Nat := 0
  rekeyAt : Nat := 0
  moorTime : Nat := 0
  rekeyTime : Nat := 0
  rekeyCount : Nat := 0
  shareA0 : Bytes := []
  shareB0 : Bytes := []
  shareA1 : Bytes := []
  shareB1 : Bytes := []
  window : Nat := 0
  sealed_ : Nat := 0
  opened : Nat := 0
  authFails : Nat := 0
  replays : Nat := 0
  aborts : Nat := 0
  dmaErrors : Nat := 0
  bytes : Nat := 0
  lastUse : Nat := 0
  unmooring : Bool := false
  wasPoisoned : Bool := false
  deriving DecidableEq, Repr, Inhabited

/-- A cache entry (R215): the mooring's index and whether it is dirty. -/
structure CacheWay where
  idx : Nat
  dirty : Bool
  deriving DecidableEq, Repr, Inhabited

/-- The mooring engine (R194, R215, R218 to R225). The free list is the fresh indices from `nextFresh` up, followed by
`freed` in release order. Each set's ways stand least recently used first. -/
structure Moorings where
  slots : SMap Mooring := []
  nextFresh : Nat := 0
  freed : List Nat := []
  lostHeld : SMap Nat := []
  sets : SMap (List CacheWay) := []
  fills : List Nat := []
  hits : Nat := 0
  misses : Nat := 0
  setHolds : Nat := 0
  eccCorr : Nat := 0
  lastPoison : Nat := 0
  memKeys : Bool := false
  memEpoch : Nat := 0
  deriving DecidableEq, Repr, Inhabited

end Sys2Proof.Machine
end

