-- ==== Sys2Proof/Machine/PartsFront.lean ====
section
/-! DEFINITION. State of health, the card interface, the contactless front end and Daymark (22, 23 and 24 of spec/). -/
namespace Sys2Proof.Machine

/-! ## Health (R544 to R556) -/

/-- One daily mean of each wear metric, in millionths (R545): its day of the RTC where the RTC was valid; `vbat` is absent
where no capacity was set or the history has been cleared since (R548). -/
structure DayMean where
  date : Option Nat
  silicon : Nat
  flash : Nat
  vbat : Option Nat
  dram : Nat
  regulator : Nat
  deriving DecidableEq, Repr, Inhabited

/-- The metrics of the samples of a day so far: how many, and their sums; `vbatN` counts those with a capacity set. -/
structure DaySum where
  n : Nat := 0
  silicon : Nat := 0
  flash : Nat := 0
  vbatN : Nat := 0
  vbat : Nat := 0
  dram : Nat := 0
  regulator : Nat := 0
  deriving DecidableEq, Repr, Inhabited

/-- One published prediction (R551): METRIC in thousandths, and the worst place. -/
structure Pred where
  state : Nat := 0
  metric : Nat := 0
  days : Nat := 65535
  low : Nat := 65535
  high : Nat := 65535
  place : Nat := 2 ^ 64 - 1
  deriving DecidableEq, Repr, Inhabited

/-- What a publication holds (R551): sources 0 to 4 and the overall prediction. (Log entry 125: DESIGN CHOICE.) -/
structure Published where
  computed : Nat := 0
  daysOfData : Nat := 0
  module : Nat := 0
  cell : Nat := 0
  preds : SMap Pred := []
  drift : SMap Int := []
  deriving DecidableEq, Repr, Inhabited

/-- Health. `days` are the daily means in SRAM, newest first, `stored` those of the last settings record; `age` counts the
daily means since commissioning; `used` is the charge drawn from the cell in millionths of a nAh, and
`marginRef` MARGIN at manufacture. -/
structure Health where
  days : List DayMean := []
  age : Nat := 0
  stored : List DayMean := []
  storedAge : Nat := 0
  sum : DaySum := {}
  capacity : Option Nat := none
  used : Nat := 0
  marginRef : Nat := 512
  lastEcc : Nat := 0
  pub : Published := {}
  new : Bool := false
  smbAlert : Bool := false
  pageDone : Bool := false
  deriving DecidableEq, Repr, Inhabited

/-! ## What the two readers share (R566, R576, R600) -/

/-- CRD_RESULT or RFX_RESULT. -/
structure XferResult where
  busy : Bool := false
  done : Bool := false
  outcome : Nat := 0
  reason : Nat := 0
  rxLen : Nat := 0
  wtx : Nat := 0
  retries : Nat := 0
  refused : Bool := false
  deriving DecidableEq, Repr, Inhabited

/-! ## The card interface (R558 to R578) -/

/-- What an ATR gives (R560, R561, R562, R567). `specific` is TA2, `offers` the protocols of its TD bytes, `clkStop` and
`classes` the indicators of the T=15 group. -/
structure Atr where
  ta1 : Option Nat := none
  specific : Option Nat := none
  offers : List Nat := []
  ifsc : Nat := 32
  waits : Nat := 0x4D
  crc : Bool := false
  guard : Nat := 0
  clkStop : Nat := 0
  classes : Option Nat := none
  deriving DecidableEq, Repr, Inhabited

/-- What the card interface is doing: nothing, awaiting an ATR, waiting 10 ms for the next attempt, awaiting a PPS response
or an S(IFS response), or a transfer. -/
inductive CardPhase where
  | idle | attempt | retryWait | pps | ifs | transfer
  deriving DecidableEq, Repr, Inhabited

/-- The T=1 engine (R562 to R566). `off` bytes of `request` are acknowledged and `cur` are in the I-block last sent;
`ns` is N(S) of that block or of the next, `nr` the N(S) expected from the card; `last` is the block last sent, without its
EDC. -/
structure BlockCtx where
  request : Bytes := []
  off : Nat := 0
  cur : Nat := 0
  ns : Bool := false
  nr : Bool := false
  resp : Bytes := []
  committed : Bool := false
  last : Bytes := []
  rTries : Nat := 0
  sTries : Nat := 0
  resyncing : Bool := false
  resynced : Bool := false
  wtxMult : Nat := 1
  deriving DecidableEq, Repr, Inhabited

/-- CRD_CFG (R573). -/
structure CardCfg where
  classes : Nat := 7
  detPol : Bool := false
  maxClk : Nat := 20
  ifsd : Nat := 254
  maxWait : Nat := 1000
  deriving DecidableEq, Repr, Inhabited

/-- CRD_SESSION but for PRESENT (R575). -/
structure CardSession where
  active : Bool := false
  cls : Nat := 0
  clkStopped : Bool := false
  clkHigh : Bool := false
  crc : Bool := false
  ifsc : Nat := 0
  fi : Nat := 0
  di : Nat := 0
  clkMhz : Nat := 0
  deriving DecidableEq, Repr, Inhabited

/-- The card interface. `inUse` is CRD_CFG as the activation took it, `noPps1` says that the PPS carries no PPS1 after a
failed one. -/
structure Card where
  cfg : CardCfg := {}
  inUse : CardCfg := {}
  present : Bool := false
  session : CardSession := {}
  result : XferResult := {}
  events : Nat := 0
  shortCount : Nat := 0
  shortAt : Option Nat := none
  atrRec : Bytes := []
  atr : Atr := {}
  tx : SMap (BitVec 32) := []
  rx : Bytes := []
  phase : CardPhase := .idle
  noPps1 : Bool := false
  ppsSent : Bytes := []
  ctx : BlockCtx := {}
  deriving DecidableEq, Repr, Inhabited

/-! ## The contactless front end (R579 to R601) -/

/-- What the reader is doing: nothing; polling for Type A; anticollision and selection at a cascade level; awaiting an ATS
or a PPS response; polling for Type B in a slot, of 1 or 16; awaiting the answer to ATTRIB; a transfer. -/
inductive RfPhase where
  | idle
  | reqa
  | anticoll (level : Nat)
  | select (level : Nat)
  | rats
  | pps
  | reqb (slot : Nat) (all : Bool)
  | attrib
  | transfer
  deriving DecidableEq, Repr, Inhabited

/-- RFX_CFG (R597). -/
structure RfCfg where
  types : Nat := 3
  maxRate : Nat := 3
  pingInt : Nat := 500
  detectThr : Nat := 20
  pingEn : Bool := true
  maxWait : Nat := 100
  deriving DecidableEq, Repr, Inhabited

/-- RFX_SESSION (R599). -/
structure RfSession where
  active : Bool := false
  typeB : Bool := false
  rateTx : Nat := 0
  rateRx : Nat := 0
  fsc : Nat := 0
  uidLen : Nat := 0
  deriving DecidableEq, Repr, Inhabited

/-- The contactless front end. `known` are the UID bits that anticollision has fixed at a level, `fwi` the badge's frame
waiting time code, `start` the tick of a transfer's start, `ref` the aerial reference in the settings record. -/
structure Rf where
  cfg : RfCfg := {}
  session : RfSession := {}
  uid : Bytes := []
  result : XferResult := {}
  events : Nat := 0
  field : Bool := false
  antBad : Bool := false
  holdoff : Bool := false
  tx : SMap (BitVec 32) := []
  rx : Bytes := []
  phase : RfPhase := .idle
  drive : Bool := false
  known : List Bool := []
  fwi : Nat := 4
  ctx : BlockCtx := {}
  start : Nat := 0
  ref : Option (Nat × Nat) := none
  deriving DecidableEq, Repr, Inhabited

/-! ## Daymark (R582 to R603) -/

/-- One physical copy of a page with its spare area (R587): the commit bit, the version and the CRC-32. An erased copy holds
no data. -/
structure PageCopy where
  commit : Bool := false
  ver : Nat := 65535
  data : Bytes := []
  crc : Nat := 2 ^ 32 - 1
  deriving DecidableEq, Repr, Inhabited

/-- A logical page (R587). -/
structure DayPage where
  c0 : PageCopy := {}
  c1 : PageCopy := {}
  deriving DecidableEq, Repr, Inhabited

/-- Who asked for a page write: a reader's WRITE_PAGE, RFX_PAGE_CMD, or firmware's own upkeep of pages 0 to 7. -/
inductive PageBy where
  | reader | regs | upkeep
  deriving DecidableEq, Repr, Inhabited

/-- A page write that waits or is under way (R590). -/
structure PageWrite where
  page : Nat
  data : Bytes
  source : PageBy
  deriving DecidableEq, Repr, Inhabited

/-- Daymark and its registers. `round` is Q of the round that is open with the slot it has reached, `slot` and `handle` what
this Daymark drew; the first of `writes` is under way. -/
structure Daymark where
  pages : SMap DayPage := []
  writes : List PageWrite := []
  password : Bytes := []
  fails : Nat := 0
  locked : Bool := false
  round : Option (Nat × Nat) := none
  slot : Nat := 0
  handle : Option Nat := none
  selected : Bool := false
  rand : Bytes := []
  auth : Bool := false
  quiet : Bool := false
  accesses : Nat := 0
  pageDone : Bool := false
  pageFail : Bool := false
  buf : SMap (BitVec 32) := []
  deriving DecidableEq, Repr, Inhabited

end Sys2Proof.Machine
end

