-- ==== Sys2Proof/Machine/PartsHost.lean ====
section
/-! DEFINITION. State of the host side: ports, functions, domains, administrative sessions, queues and polling
(04, 05, 06 of spec/). -/
namespace Sys2Proof.Machine

/-- A port-line read under way (R140, R144): the beacon generation it was issued in, and whether it only sets SEEN_PORT. -/
structure LineRead where
  gen : Nat
  setsOnly : Bool
  deriving DecidableEq, Repr, Inhabited

/-- A domain beacon block read under way (R142 to R144). `initial` is the read made when the domain reaches ON. -/
structure BlockRead where
  dom : Nat
  gen : Nat
  oldSeen : Nat
  initial : Bool
  deriving DecidableEq, Repr, Inhabited

/-- What made the device read a doorbell record (R142 to R144). -/
inductive DbCause where
  | block (gen : Nat) (oldSeen : Nat)
  | sweep
  | start
  | recheck
  deriving DecidableEq, Repr, Inhabited

/-- A doorbell read under way. Queue 64 is the admin queue. -/
structure DbRead where
  dom : Nat
  q : Nat
  cause : DbCause
  deriving DecidableEq, Repr, Inhabited

/-- One host port: link (R71 to R77), registers (R99, R100), polling (R139 to R144, R163, R164). (Log entry 38: PRESUMED.) -/
structure Port where
  linkUp : Bool := false
  rate : Nat := 0
  width : Nat := 0
  negWidth : Nat := 0
  flit : Bool := false
  perst : Bool := false
  l1 : Bool := false
  l1Enabled : Bool := false
  lossCount : Nat := 0
  events : Nat := 0
  numVfs : Nat := 0
  vfEnable : Bool := false
  mrrs : Nat := 512
  vfBar0 : Nat := 0
  vfBar2 : Nat := 0
  margins : SMap Nat := []
  beaconEn : Bool := false
  beaconAddr : Nat := 0
  gen : Nat := 0
  setsOnlyNext : Bool := false
  w250 : Nat := 1
  rtts : List Nat := []
  readErr : Nat := 0
  seenPort : SMap Nat := []
  lineReads : List LineRead := []
  deriving DecidableEq, Repr, Inhabited

/-- A function's configuration space beside MSI-X and SR-IOV (R74, R80, R81): the base addresses of its BARs,
Max_Payload_Size, Relaxed Ordering, the completion timeout, ECRC, and D3hot. -/
structure FnCfg where
  bar0 : Nat := 0
  bar2 : Nat := 0
  payload : Nat := 128
  relaxed : Bool := true
  ctoRange : Nat := 0
  ctoOff : Bool := false
  ecrcGen : Bool := false
  ecrcCheck : Bool := false
  d3hot : Bool := false
  deriving DecidableEq, Repr, Inhabited

/-- A function's MSI-X table and PBA (R83), AER counts (R89, R90) and QP_DOM_BEACON (R162). -/
structure Func where
  msixEn : Bool := false
  fnMask : Bool := false
  unmasked : Nat := 0
  msgAddr : SMap Nat := []
  msgData : SMap Nat := []
  pba : Nat := 0
  aerCorr : Nat := 0
  aerNonFatal : Nat := 0
  domBeacon : Nat := 0
  seenDom : SMap Nat := []
  cfg : FnCfg := {}
  deriving DecidableEq, Repr, Inhabited

/-- A descriptor held fetched and not yet admitted (R147): its ring index and its 64 bytes. `failed` says that its read
failed (R89), `setWait` that its wait for a full cache set is counted (R215). -/
structure Fetched where
  idx : Nat
  desc : Bytes
  failed : Bool := false
  setWait : Bool := false
  deriving DecidableEq, Repr, Inhabited

/-- A queue pair or admin queue (R133, R142, R147, R153 to R161). `resetPos` says that the next start follows a host write
of EN 1, so that the positions take their reset values (R160); `atLimit` that 4,096 other queue pairs were out of OFF at its
start (R155). -/
structure Queue where
  sqBase : Nat := 0
  cqBase : Nat := 0
  dbAddr : Nat := 0
  sqLog2 : Nat := 6
  cqLog2 : Nat := 6
  pollClass : Nat := 1
  irqEn : Bool := false
  coalCount : Nat := 0
  coalTime : Nat := 0
  fetchPtr : Nat := 0
  sqTail : Nat := 0
  cqTail : Nat := 0
  phase : Bool := true
  stale : Nat := 0
  rechecks : Nat := 0
  recheckDue : Bool := false
  seenSeq : Nat := 0
  dbFails : Nat := 0
  fetched : List Fetched := []
  irqPending : Nat := 0
  timerOn : Bool := false
  resetPos : Bool := false
  atLimit : Bool := false
  deriving DecidableEq, Repr, Inhabited

/-- A descriptor read under way (R147). A read whose queue left ON is `stale`: its data is discarded (R165). -/
structure Fetch where
  dom : Nat
  q : Nat
  start : Nat
  count : Nat
  stale : Bool
  deriving DecidableEq, Repr, Inhabited

/-- An open administrative session (R118, R119, R123, R124); `factory` marks the session of R614 in FACTORY. -/
structure Session where
  method : Nat
  credential : Nat
  kMac : Bytes
  kPw : Bytes
  expSeq : Nat := 1
  macFails : Nat := 0
  factory : Bool := false
  lastTick : Nat
  deriving DecidableEq, Repr, Inhabited

/-- An outstanding ADMIN_OPEN challenge (R118): the challenge, the host's and the device's ephemeral public keys, and
the draw that made the device's ephemeral private key. -/
structure Challenge where
  bytes : Bytes
  method : Nat
  credential : Nat
  hostPub : Bytes
  devPub : Bytes
  secret : Bytes
  deriving DecidableEq, Repr, Inhabited

/-- A domain's settings in flash (R106, R130): none stands for the default. -/
structure DomCfg where
  weight : Nat := 16
  quota : Nat := 256
  reserve : Nat := 0
  moorAllow : Option Nat := none
  keyAllow : Option Nat := none
  perms : Option Nat := none
  deriving DecidableEq, Repr, Inhabited

/-- A domain's running state (R109 to R117, R123, R643). `blobKey` is the blob key drawn at its last release; before one it
has the key drawn at boot (R278). -/
structure Domain where
  releasing : Bool := false
  done : Nat := 0
  failed : Nat := 0
  laneDef : Int := 0
  hashDef : Int := 0
  pkDef : Int := 0
  rngDef : Int := 0
  blobKey : Option Bytes := none
  session : Option Session := none
  challenge : Option Challenge := none
  deriving DecidableEq, Repr, Inhabited

/-- An admin descriptor in the hand-off ring (R18); `failed` says that its read failed (R89). -/
structure AdminReq where
  dom : Nat
  idx : Nat
  desc : Bytes
  failed : Bool := false
  deriving DecidableEq, Repr, Inhabited

/-- An admin command that firmware has taken (R18, R124, R125). `pb` is the parameter block's body and `input` the input
after it; `ready` says that it waits for its own row, `waiting` that it runs and waits, `done` that its result stands, `bad`
that it failed R190; `kMac` is the session key of its result MAC, `kPw` its session's password key, `owner` that its session
has the owner domain's scope for commissioning (R614), `close` that the session ends with it, `lost` that its completion is
discarded (R95), `staged` that its entry and record are written and the rest of its sequence waits (R308). -/
structure AdminCmd where
  dom : Nat
  idx : Nat
  desc : Bytes
  pb : Bytes := []
  input : Bytes := []
  ready : Bool := false
  waiting : Bool := false
  done : Bool := false
  bad : Bool := false
  kMac : Option Bytes := none
  kPw : Bytes := []
  owner : Bool := false
  close : Bool := false
  lost : Bool := false
  staged : Bool := false
  status : Nat := 0
  detail : Nat := 0
  need : Nat := 0
  output : Bytes := []
  deriving DecidableEq, Repr, Inhabited

/-- The queue engine's reads under way, the hand-off ring and the commands firmware is serving. -/
structure Engine where
  blockReads : List BlockRead := []
  dbReads : List DbRead := []
  fetches : List Fetch := []
  handoff : List AdminReq := []
  serving : List AdminCmd := []
  deriving DecidableEq, Repr, Inhabited

/-- What the device has sent to the outside, oldest first (DESIGN CHOICE: the model's record of its outputs).
(Log entry 4: DESIGN CHOICE.) -/
inductive Out where
  | hostRead (dom : Nat) (addr : Nat) (len : Nat)
  | hostWrite (dom : Nat) (addr : Nat) (bytes : Bytes) (relaxed : Bool)
  | completion (dom : Nat) (q : Nat) (addr : Nat) (entry : Bytes)
  | msix (dom : Nat) (vector : Nat) (addr : Nat) (data : Nat)
  | cfgReply (port : Nat) (retry : Bool)
  | cfgData (port : Nat) (data : List Nat)
  | unsupported (dom : Nat)
  | readReply (value : Nat)
  | smbus (bytes : Bytes)
  | card (bytes : Bytes)
  | rf (bytes : Bytes)
  | credential (badge : Bool) (apdu : Bytes)
  | daymark (bytes : Bytes)
  | tap (bits : Nat)
  | pin (land : Pin) (level : Bool)
  deriving DecidableEq, Repr, Inhabited

end Sys2Proof.Machine
end

