-- ==== Sys2Proof/Machine/PartsMgmt.lean ====
section
/-! DEFINITION. State of the management side: backup domain, watch, custody, commissioning, boot and debug (05, 21, 25 of
spec/). -/
namespace Sys2Proof.Machine

/-! ## The backup domain (R533 to R538) -/

/-- FAILS and the lock-out of one domain in the lock-out table (R116, R122, R533): `left` counts down in units of
1/4,096,000 s (125 to an RTC period, 4,096 to a millisecond), `period` is the last period in seconds. -/
structure LockOut where
  fails : Nat := 0
  locked : Bool := false
  left : Nat := 0
  period : Nat := 0
  deriving DecidableEq, Repr, Inhabited

/-- The backup domain: battery SRAM, RTC and boot counter. `kek` is the KEK (none while it is zero); `kekEpoch` numbers the
KEKs written, so that a record under an earlier one fails its MAC; `locks` is the lock-out table, by domain.
(Log entry 128: DESIGN CHOICE.) -/
structure Backup where
  kek : Bytes := []
  kekPresent : Bool := false
  kekEpoch : Nat := 0
  canaryOk : Bool := true
  rtcSec : Nat := 0
  rtcFrac : Nat := 0
  rtcValid : Bool := false
  rtcSet : Option Nat := none
  bootCount : Nat := 0
  zeroisedBk : Bool := false
  bkSource : Nat := 0
  vbatMv : Nat := 0
  batLow : Bool := false
  locks : SMap LockOut := []
  deriving DecidableEq, Repr, Inhabited

/-! ## The watch (R518 to R532) -/

/-- An open ceremony (R530 to R532): its identifier, who has been counted, and its AUTH_FAILs. -/
structure Ceremony where
  id : Bytes
  who : List Nat := []
  fails : Nat := 0
  deriving DecidableEq, Repr, Inhabited

/-- A first decision that awaits its second (R521): the source whose latch was read, and the response it named, if it
found an alarm. -/
structure Decision where
  source : Nat
  named : Option Nat
  deriving DecidableEq, Repr, Inhabited

/-- The watch. `resp` holds each source's configured response; `restrict`, `lock` and `latched` are the latches of R526,
in the backup domain. -/
structure Watch where
  restrict : Bool := false
  lock : Bool := false
  latched : Nat := 0
  resp : List Nat := [3, 3, 3, 2, 2, 2, 2, 2, 2, 2, 3, 2, 3, 3, 2, 2, 2, 0, 0]
  fused : Nat := 0
  active : Nat := 0
  sticky : Nat := 0
  first : List Decision := []
  alarms : SMap Nat := []
  alarmTimes : SMap Nat := []
  mismatches : Nat := 0
  ceremony : Option Ceremony := none
  fuseArm : Option Nat := none
  deriving DecidableEq, Repr, Inhabited

/-! ## Custody and commissioning (R120, R528, R615) -/

/-- A custodian entry (R528). -/
structure Custodian where
  id : Nat
  role : Nat
  methods : Nat
  unlock : Bool
  key : Bytes
  deriving DecidableEq, Repr, Inhabited

/-- A role's verifier in the password table (R120). -/
structure PwEntry where
  set : Bool := false
  salt : Bytes := []
  verifier : Bytes := []
  deriving DecidableEq, Repr, Inhabited

/-- The custody record (R528). -/
structure Custody where
  unlockM : Nat := 0
  list : List Custodian := []
  passwords : SMap PwEntry := []
  deriving DecidableEq, Repr, Inhabited

/-- What commissioning has staged in SRAM (R615). -/
structure Staged where
  roots : Option Bytes := none
  custody : Option Custody := none
  strap : Option Nat := none
  passwords : SMap PwEntry := []
  deriving DecidableEq, Repr, Inhabited

/-- Commissioning's records and fuses: the root keys stored, the fused root digest, the custody record. -/
structure Owner where
  roots : Bytes := []
  rootFuse : Bytes := []
  custody : Custody := {}
  staged : Staged := {}
  identity : Option Bytes := none
  deriving DecidableEq, Repr, Inhabited

/-! ## Boot, update and debug (R605 to R625) -/

/-- An update that BEGIN opened (R611). -/
structure FwUpdate where
  bank : Nat
  len : Nat
  seq : Nat
  deriving DecidableEq, Repr, Inhabited

/-- An accepted debug certificate (R619). -/
structure DebugCert where
  first : Nat
  span : Nat
  perms : Nat
  deriving DecidableEq, Repr, Inhabited

/-- Boot: the bank that runs, its header's values, the SVN floor's fuses, and what a boot failed on. `failLog` is a boot
failure not yet logged (R610), `applets` the applet slots (R617); `starts` numbers the starts, and `blobKeys` holds the
32-byte blob keys of the domains, in order, as drawn at this one (R278). -/
structure Boot where
  cause : Nat := 0
  bank : Nat := 0
  svnFloor : Nat := 0
  seq : Nat := 0
  svn : Nat := 0
  version : Nat := 0
  profiles : Nat := 0
  failLog : Option Nat := none
  update : Option FwUpdate := none
  starts : Nat := 0
  blobKeys : Bytes := []
  kind : Nat := 0
  applets : SMap Bytes := []
  deriving DecidableEq, Repr, Inhabited

/-- Debug (R618 to R625). `boundary` is the boundary-scan register's preloaded value, `bypass` the bypass bit. -/
structure Debug where
  attached : Bool := false
  cert : Option DebugCert := none
  drops : Nat := 0
  halt : Nat := 0
  boundary : Nat := 0
  bypass : Bool := false
  extest : Bool := false
  deriving DecidableEq, Repr, Inhabited

end Sys2Proof.Machine
end

