-- ==== Sys2Proof/Machine/PartsStore.lean ====
section
/-! DEFINITION. State of the key store and of the flash array (14 and 15 of spec/). -/
namespace Sys2Proof.Machine

/-- The slot states of R344. -/
inductive KeySt where
  | empty | active | damaged
  deriving DecidableEq, Repr, Inhabited

/-- A key slot (R343, R345, R347, R350). `secret` is the value the record holds wrapped; `kekEpoch` names the KEK it is
wrapped under, `imaged` says that its image entry is built, `img` are the two
shares it holds there. -/
structure KeySlot where
  st : KeySt := .empty
  kind : Nat := 0
  alg : Nat := 0
  curveSlot : Nat := 0
  owner : Nat := 0
  origin : Nat := 0
  secret : Bytes := []
  pub : Bytes := []
  writeSeq : Nat := 0
  created : Nat := 0
  fp : Bytes := []
  policy : Bytes := []
  kekEpoch : Nat := 0
  imaged : Bool := false
  img : Shares := {}
  deriving DecidableEq, Repr, Inhabited

/-- The pending approval of R357: what it approves, who may approve, who has. -/
structure Approval where
  id : Bytes
  m : Nat
  roles : Nat
  who : List Nat := []
  unlockSet : Bool := false
  deriving DecidableEq, Repr, Inhabited

/-- The key store. `next` are the slots to image next (R350), `scrubs` the slots whose destroyed image entry awaits its
scrub (R356). -/
structure KeyStore where
  slots : SMap KeySlot := []
  writeSeq : Nat := 0
  approval : Option Approval := none
  scrubs : List Nat := []
  next : List Nat := []
  scanned : Bool := false
  building : Bool := false
  frozenSeen : Bool := false
  deriving DecidableEq, Repr, Inhabited

/-! ## The flash array (15) -/

/-- A page of the firmware partition: as shipped (the image is not given), erased, or programmed. -/
inductive FwPage where
  | shipped
  | erased
  | data (b : Bytes)
  deriving DecidableEq, Repr, Inhabited

/-- A programmed page of the pool (R367, R377): `inst` is the STREAM_SEQ of its record's first page; `data` is what the
record holds, where the spec gives its layout. -/
structure PoolPage where
  kind : Nat
  id : Nat
  page : Nat
  pages : Nat
  seq : Nat
  inst : Nat
  live : Bool
  data : Bytes
  deriving DecidableEq, Repr, Inhabited

/-- What the stop of a change before its record is complete leaves (R309, R359): the slot as before, and the SEQ of the
change's entry. A lost record of daily means leaves the record before it (R557). -/
inductive Undo where
  | none
  | key (old : KeySlot) (seq : Nat)
  | curve (old : Option Bytes) (seq : Nat)
  | means (old : List DayMean) (age : Nat)
  deriving DecidableEq, Repr, Inhabited

/-- A record waiting to be programmed at the write frontier; `fromSec` is the sector whose reclaim relocates it. -/
structure PoolJob where
  kind : Nat
  id : Nat
  pages : Nat
  data : Bytes
  done : Nat := 0
  inst : Nat := 0
  fromSec : Option Nat := none
  undo : Undo := .none
  deriving DecidableEq, Repr, Inhabited

/-- The flash array and its controller (R365 to R392). `running` is the direct command under way, by code and address;
`held` and `directSusp`, `poolSusp` are the explicit and the automatic suspensions; `unfinished` is a direct erase that a
stop cut short; `progData` holds the page of a PROGRAM_PAGE under way. (Log entry 98: DESIGN CHOICE.) -/
structure Flash where
  fw : SMap FwPage := []
  erases : SMap Nat := []
  seq : Nat := 0
  code : Nat := 0
  addr : Nat := 0
  words : List (BitVec 32) := []
  running : Option (Nat × Nat) := none
  progData : Bytes := []
  held : Bool := false
  directSusp : Bool := false
  poolSusp : Bool := false
  unfinished : Option Nat := none
  done : Bool := false
  seqErr : Bool := false
  addrErr : Bool := false
  progFail : Bool := false
  eraseFail : Bool := false
  blank : Bool := false
  marginErrs : Nat := 0
  xo : SMap Nat := []
  xoLock : Bool := false
  pages : SMap (Option PoolPage) := []
  jobs : List PoolJob := []
  worn : List Nat := []
  frontSec : Nat := 2048
  frontPage : Nat := 0
  tail : Nat := 2048
  streamSeq : Nat := 0
  lastErased : Nat := 65535
  sinceCk : Nat := 0
  reclaim : Option Nat := none
  laps : Nat := 0
  pulses : List Nat := []
  reads : Nat := 0
  retryAt : List Nat := []
  uncorr : Nat := 0
  scanned : Bool := false
  deriving DecidableEq, Repr, Inhabited

end Sys2Proof.Machine
end

