-- ==== Sys2Proof/Machine/State.lean ====
section
/-! DEFINITION. The state of the block, its reset value, and the reasons a step can stop. -/
namespace Sys2Proof.Machine

/-- The snapshot of every counter latched at the last management tick edge (R21). `taken` are the moorings not on the free
list; `inFlight`, `moorHeld` and `keysHeld` are by domain. (Log entry 21: DESIGN CHOICE.) -/
structure Snap where
  domains : SMap Domain := []
  lanes : SMap Lane := []
  pipes : SMap Pipe := []
  pairs : SMap Pair := []
  legacy : Legacy := {}
  rng : Rng := {}
  hits : Nat := 0
  misses : Nat := 0
  setHolds : Nat := 0
  eccCorr : Nat := 0
  wear : Nat := 0
  taken : Nat := 0
  retired : Nat := 0
  poisoned : Nat := 0
  quarantined : Nat := 0
  inFlight : SMap Nat := []
  moorHeld : SMap Nat := []
  keysHeld : SMap Nat := []
  tags : Nat := 0
  domsOn : Nat := 0
  keysActive : Nat := 0
  deriving DecidableEq, Repr, Inhabited

/-- The state of the device: everything the spec gives it, and the queue of waiting commands.
(Log entry 7: DESIGN CHOICE.) -/
structure State where
  part : Part := .g1640
  lifecycle : Lifecycle := .factory
  priorLifecycle : Lifecycle := .commissioned
  ownerPort : Nat := 4
  policy : Policy := {}
  units : SMap UnitRec := []
  power : Power := {}
  pwrEvents : PowerEvents := {}
  backup : Backup := {}
  watch : Watch := {}
  tap : Debug := {}
  owner : Owner := {}
  boot : Boot := {}
  snap : Snap := {}
  clocks : Clocks := {}
  strap : Nat := 0
  strapNext : Nat := 0
  ports : SMap Port := []
  funcs : SMap Func := []
  domains : SMap Domain := []
  domCfg : SMap DomCfg := []
  queues : SMap Queue := []
  engine : Engine := {}
  ops : List Op := []
  opSeq : Nat := 0
  moor : Moorings := {}
  lanes : SMap Lane := []
  pipes : SMap Pipe := []
  legacy : Legacy := {}
  pairs : SMap Pair := []
  curves : SMap CurveSlot := []
  curveRegs : CurveRegs := {}
  rng : Rng := {}
  arb : Arb := {}
  keys : KeyStore := {}
  flash : Flash := {}
  keeper : Keeper := {}
  ints : SMap IntCtl := []
  mpus : SMap Mpu := []
  log : Logbook := {}
  recorders : Recorders := {}
  health : Health := {}
  card : Card := {}
  rf : Rf := {}
  daymark : Daymark := {}
  tick : Nat := 0
  free : Nat := 0
  outs : List Out := []
  pending : List Instr := []
  deriving DecidableEq, Repr

/-- No step of the model stops with a fault: every fault the spec describes is a status, a unit state or an exception
of a keeper core, and the machine goes on (see NOTES.md). -/
inductive Fault where
  deriving DecidableEq, Repr

/-- Why a command has no meaning. -/
inductive Refusal where
  /-- Raised by an arm of exec whose command has no meaning yet; safe, because nothing is claimed of it. -/
  | notModelled (mnemonic : String)
  deriving DecidableEq, Repr

/-- The machine right after reset (the After reset columns of spec/; see INVENTORY.md).
(Log entries 6, 8, 22: DESIGN CHOICE.) -/
def State.reset : State := {}

end Sys2Proof.Machine
end

