-- ==== Sys2Proof/Machine/Pool.lean ====
section
/-! DEFINITION. The flash pool (15 of spec/): its ring of sectors, its stages, and the records appended to it. -/
namespace Sys2Proof.Machine

/-! ## The ring (R376, R378, R384) -/

/-- A good pool sector. -/
def goodSector (f : Flash) (x : Nat) : Bool := decide (2048 ≤ x) && decide (x ≤ 8191) && !f.worn.contains x

/-- The pool's sectors in ring order, after `x` and ending with it. -/
def ringAfter (x : Nat) : List Nat := (List.range 6144).map fun i => 2048 + (x - 2048 + 1 + i) % 6144

/-- The next good sector of the ring. -/
def nextGood (f : Flash) (x : Nat) : Nat := ((ringAfter x).find? (goodSector f)).getD x

/-- GOOD, MARGIN and FREE of FLC_POOL. -/
def goodCount (f : Flash) : Nat := 6144 - f.worn.length
def spareMargin (f : Flash) : Nat := min 512 (goodCount f - 5632)
def freeSectors (f : Flash) : Nat := (((ringAfter f.frontSec).takeWhile (· != f.tail)).filter (goodSector f)).length

/-- Records counted against the budget of 49,152 pages (R378): all but the logbook's pages, journal pages and
checkpoints. -/
def budgeted (kind : Nat) : Bool := kind != 3 && kind != 7 && kind != 8

/-- LIVE_PAGES. -/
def livePages (f : Flash) : Nat :=
  (f.pages.filter fun e => match e.2 with | some p => p.live && budgeted p.kind | none => false).length

/-- The budget has room for `n` pages more, those waiting included (R343, R378). (Log entry 105: DEDUCED.) -/
def poolRoom (f : Flash) (n : Nat) : Bool :=
  decide (livePages f + ((f.jobs.filter fun j => budgeted j.kind && j.fromSec.isNone).map PoolJob.pages).foldl (· + ·) 0 + n ≤
    49152)

/-! ## Wear (R385, R391) -/

/-- PULSE_AVG, in eighths of a pulse, over the last 1,024 programs. -/
def pulseAvg (f : Flash) : Nat := 8 * f.pulses.foldl (· + ·) 0 / max 1 f.pulses.length

/-- RETRY_PPM over the last 2^24 reads. (Log entry 104: DEDUCED.) -/
def retryPpm (f : Flash) : Nat := min 65535 ((f.retryAt.filter fun n => f.reads < n + 16777216).length * 1000000 / 16777216)

/-- The stage of R385. -/
def poolStage (f : Flash) : Nat :=
  if goodCount f ≤ 5632 then 5
  else if spareMargin f < 256 then 4
  else if !f.worn.isEmpty then 3
  else if 10 < retryPpm f then 2
  else if 48 < pulseAvg f then 1
  else 0

/-- The capacity stage of the flash pool, 0 to 5. -/
def flashStage (s : State) : Nat := poolStage s.flash

/-! ## Records (R376, R377, R380) -/

/-- Append a record at the write frontier: it waits its turn to be programmed. In stage 5 nothing is programmed. -/
def appendRec (kind id n : Nat) (data : Bytes) (s : State) : State :=
  if flashStage s = 5 then s
  else { s with flash := { s.flash with jobs := s.flash.jobs ++ [{ kind := kind, id := id, pages := n, data := data }] } }

/-- Append a record with what its loss gives back. -/
def appendUndo (kind id n : Nat) (data : Bytes) (u : Undo) (s : State) : State :=
  if flashStage s = 5 then s
  else { s with flash := { s.flash with
    jobs := s.flash.jobs ++ [{ kind := kind, id := id, pages := n, data := data, undo := u }] } }

/-- A change's record is not yet complete (R359). -/
def recordsPending (f : Flash) : Bool := f.jobs.any fun j => j.fromSec.isNone && j.kind != 3 && j.kind != 7 && j.kind != 8

/-- A record of a kind and number waits to be completely programmed (R308, R359). -/
def recordWaits (s : State) (kind id : Nat) : Bool := s.flash.jobs.any fun j => j.kind == kind && j.id == id && j.fromSec.isNone

/-- A settings record of one page (KIND 0x06); `id` numbers the setting. (Log entry 157: DEDUCED.) -/
def appendSetting (id : Nat) (s : State) : State := appendRec 6 id 1 [] s

/-- The numbers that the model gives the settings; a domain's own are 256 and above. -/
def setLifecycle : Nat := 1
def setOwner : Nat := 2
def setRetain : Nat := 3
def setWatch : Nat := 4
def setBattery : Nat := 5
def setStrap : Nat := 6
def setHealth : Nat := 7
def setAerial : Nat := 8
def setIdentity : Nat := 9
def setDomain (d : Nat) : Nat := 256 + d

/-- A journal page (R380). -/
def journalBytes (erased intent reason : Nat) (retired : List Nat) : Bytes :=
  let r := (retired.take 8).map (le 2)
  le 2 erased ++ le 2 intent ++ le 1 reason ++ le 1 r.length ++ zeros 2 ++ r.flatten ++
  List.replicate (16 - 2 * r.length) 0xFF ++ zeros 488

/-- Append a journal page. -/
def appendJournal (intent reason : Nat) (retired : List Nat) (s : State) : State :=
  appendRec 7 0 1 (journalBytes s.flash.lastErased intent reason retired) s

end Sys2Proof.Machine
end

