-- ==== Sys2Proof/Machine/Ops.lean ====
section
/-! DEFINITION. The shared operations: parts, units, free values, outputs, events, the logbook and the recorders. -/
namespace Sys2Proof.Machine

/-! ## Parts (R2, R12) -/

/-- Domain numbers present (R2, R71): ports 2 and 3 are absent on the G0810. -/
def portOnPart (p : Part) (n : Nat) : Bool := p != .g0810 || n < 2

/-- Port n is created by the strap word and the part (R71, R72). -/
def portPresent (s : State) (n : Nat) : Bool :=
  portOnPart s.part n &&
  (n == 0 || n == 2 || (n == 1 && nbit s.strap 0) || (n == 3 && nbit s.strap 1))

/-- Cipher tile t is present (R2). -/
def cipherTilePresent (p : Part) (t : Nat) : Bool := if p = .g0810 then t < 2 else t < 4

/-- PK tile t is present (R2). -/
def pkTilePresent (p : Part) (t : Nat) : Bool := if p = .g0810 then t == 2 || t == 3 else t < 4

/-- Lattice arithmetic is present (R2, R6). -/
def latticePresent (p : Part) : Bool := p != .g1620

/-- The contactless front end and Daymark are present (R2, R6). -/
def contactlessPresent (p : Part) : Bool := p = .g1640

/-- The device operates: a start has been decided and no stop declared. -/
def powered (s : State) : Bool := s.power.phase != .backupOnly && s.power.phase != .stopping

/-- The data-plane clock runs: the queue, mooring, cipher and PK clusters and the management tick (R55, R61, R62). -/
def dpRuns (s : State) : Bool := powered s && s.clocks.xtal25 && s.clocks.pllDp

/-- The keeper clock runs, and with it the NV bus (R55, R61, R62). -/
def kprRuns (s : State) : Bool := powered s && s.clocks.xtal25 && s.clocks.pllKpr

/-- The DRAM is available to the data plane: its clocks run and it is out of self-refresh (R55, R62, R64). -/
def dramRuns (s : State) : Bool := dpRuns s && s.clocks.pllDram && !s.clocks.dramSr

/-- A keeper's access to a data-plane block: both clocks run (R59). -/
def policyRuns (s : State) : Bool := dpRuns s && kprRuns s

/-- What a clock domain does while its clock runs; a stopped domain does nothing (R61, R62). -/
def whenRuns (clock : State → Bool) (f : State → State) (s : State) : State := if clock s then f s else s

/-- The part's mooring indices (R2, R88). -/
def mooringCount (p : Part) : Nat := if p = .g0810 then 2097152 else 4194304

/-- A tile of R12 is present: cluster code and tile number. -/
def tilePresent (p : Part) (cluster tile : Nat) : Bool :=
  match cluster with
  | 0 => tile == 0 || (tile == 1 && p != .g0810)
  | 1 | 2 | 6 | 9 => tile < 3 && (cluster != 6 || tile != 2 || contactlessPresent p)
  | 3 => cipherTilePresent p tile
  | 4 => pkTilePresent p tile
  | 5 => tile < 5
  | 7 => tile < 2
  | 8 => tile == 0 || (tile == 1 && contactlessPresent p)
  | _ => false

/-- The port and function of a domain (R79). -/
def domPort (d : Nat) : Nat := d / 64
def domFn (d : Nat) : Nat := d % 64

/-! ## Units (R22 to R27) -/

/-- A unit's place in the table of units. -/
def unitKey : UnitId → Nat
  | .dom d => d.val
  | .queue d q => 256 + d.val * 65 + q.val
  | .lane i => 17000 + i.val
  | .pair i => 17100 + i.val
  | .pipe i => 17200 + i.val
  | .legacy => 17300
  | .rng => 17301
  | .card => 17302
  | .rf => 17303
  | .core c => 17310 + c.val
  | .mooring => 17320
  | .logbook => 17321

/-- Units by their numbers. -/
def domId (d : Nat) : UnitId := .dom (Fin.ofNat 256 d)
def queueId (d q : Nat) : UnitId := .queue (Fin.ofNat 256 d) (Fin.ofNat 65 q)
def laneId (n : Nat) : UnitId := .lane (Fin.ofNat 16 n)
def pairId (n : Nat) : UnitId := .pair (Fin.ofNat 12 n)
def pipeId (n : Nat) : UnitId := .pipe (Fin.ofNat 8 n)
def coreId (c : Nat) : UnitId := .core (Fin.ofNat 4 c)

def getUnit (s : State) (u : UnitId) : UnitRec := mget {} s.units (unitKey u)
def setUnit (u : UnitId) (r : UnitRec) (s : State) : State := { s with units := mset {} s.units (unitKey u) r }
def unitSt (s : State) (u : UnitId) : UnitState := (getUnit s u).st
def unitOn (s : State) (u : UnitId) : Bool := (getUnit s u).st == .on

def getDomUnit (s : State) (d : Nat) : UnitRec := mget {} s.units d
def getQueueUnit (s : State) (d q : Nat) : UnitRec := mget {} s.units (256 + d * 65 + q)
def domOn (s : State) (d : Nat) : Bool := (getDomUnit s d).st == .on
def queueOn (s : State) (d q : Nat) : Bool := (getQueueUnit s d q).st == .on
def laneUnit (s : State) (n : Nat) : UnitRec := mget {} s.units (17000 + n)
def pairUnit (s : State) (n : Nat) : UnitRec := mget {} s.units (17100 + n)
def pipeUnit (s : State) (n : Nat) : UnitRec := mget {} s.units (17200 + n)

/-- The code of a unit state in STATE (R23). -/
def unitCode : UnitState → Nat
  | .off => 0 | .starting => 1 | .on => 2 | .draining => 3 | .enablePending => 4 | .faulted => 5

/-- A unit's status word (R23). -/
def unitStatusWord (r : UnitRec) : Nat :=
  unitCode r.st + shl (b2n (r.st == .draining || r.st == .enablePending)) 3 + shl r.cause 8 + shl r.trans 16

/-- A move to another state, counted in TRANS_COUNT modulo 65,536 (R23). -/
def moveTo (r : UnitRec) (st : UnitState) : UnitRec :=
  if r.st = st then r else { r with st := st, trans := (r.trans + 1) % 65536 }

/-- The transition table of R24. (Log entry 13: DEDUCED.) -/
def unitStep (r : UnitRec) : UnitEvent → UnitRec
  | .enWrite true =>
    match r.st with
    | .off => moveTo { r with en := true } .starting
    | .draining => moveTo { r with en := true } .enablePending
    | _ => { r with en := true }
  | .enWrite false =>
    match r.st with
    | .starting => moveTo { r with en := false } .off
    | .on => moveTo { r with en := false } .draining
    | .enablePending => moveTo { r with en := false } .draining
    | _ => { r with en := false }
  | .quiesce =>
    match r.st with
    | .starting => moveTo { r with en := false } .off
    | .on => moveTo { r with en := false } .draining
    | .enablePending => moveTo { r with en := false } .draining
    | _ => { r with en := false }
  | .reset =>
    match r.st with
    | .faulted =>
      let r' := { moveTo r .off with cause := 0 }
      if r.en then moveTo r' .starting else r'
    | _ => r
  | .initDone => if r.st = .starting then moveTo r .on else r
  | .initFail c => if r.st = .starting then { moveTo r .faulted with cause := c } else r
  | .drained =>
    match r.st with
    | .draining => moveTo r .off
    | .enablePending => moveTo (moveTo r .off) .starting
    | _ => r
  | .fault c =>
    match r.st with
    | .faulted => r
    | _ => { moveTo r .faulted with cause := c }

/-! ## Free values and random bytes -/

/-- The next free value (a value the spec does not fix). (Log entry 5: DESIGN CHOICE.) -/
def freeNow (s : State) : Nat := Config.freeValue s.free
def useFree (s : State) : State := { s with free := s.free + 1 }

/-- Bytes that the spec does not fix. -/
def freeBytes (s : State) (n : Nat) : Bytes := (List.range n).map fun i => BitVec.ofNat 8 (freeNow s / 256 ^ i)

/-- The next `n` bytes of DRBG output, and the state after the draw: one generate request, which may make a reseed due
(R327, R328). What a firmware draw gives while the source holds no DRBG state is not given. (Log entry 86: DEDUCED.) -/
def drbgBytes (s : State) (n : Nat) : Bytes :=
  match s.rng.drbg with
  | some d => (d.request n).1
  | none => freeBytes s n
def useDrbg (n : Nat) (s : State) : State :=
  if n = 0 then s
  else if s.rng.drbg.isNone then useFree s
  else
    let r := s.rng
    { s with rng := { r with
      drbg := r.drbg.map fun d => (d.request n).2, bytes := (r.bytes + n) % 2 ^ 48, requests := r.requests + 1,
      reseedDue := r.reseedDue || decide (4096 ≤ r.requests + 1) } }

/-- The source generates: it is ON or still draining (R331), and no reseed that is due waits for its seed (R328). -/
def rngOn (s : State) : Bool :=
  let st := unitSt s .rng
  (st == .on || st == .draining || st == .enablePending) && !s.rng.reseedDue

/-- A draw waits while the source is SEEDING or a reseed is due (R328, R331). (Log entry 65: DEDUCED.) -/
def drawWaits (s : State) : Bool := !rngOn s && !(unitSt s .rng == .faulted || unitSt s .rng == .off)

/-! ## Outputs -/

/-- Record what leaves the device. -/
def emit (o : Out) (s : State) : State := { s with outs := s.outs ++ [o] }

/-- Record a run of output, oldest first. -/
def emitAll (l : List Out) (s : State) : State := { s with outs := s.outs ++ l }

/-! ## Counted events (R57, R467 to R469) -/

def getInt (s : State) (c : Nat) : IntCtl := mget {} s.ints c
def setInt (c : Nat) (i : IntCtl) (s : State) : State := { s with ints := mset {} s.ints c i }
def modInt (c : Nat) (f : IntCtl → IntCtl) (s : State) : State := setInt c (f (getInt s c)) s

/-- The source side counts one event towards one core (R57). -/
def raiseAt (c src : Nat) (s : State) : State :=
  modInt c (fun i => { i with crossing := mset 0 i.crossing src (mget 0 i.crossing src + 1) }) s

/-- The source side counts one event towards every core (R467). -/
def raise (src : Nat) (s : State) : State := raiseAt 0 src s |> raiseAt 1 src |> raiseAt 2 src |> raiseAt 3 src

/-- One event towards every core but one (R415, R467: CORE_LOCKUP). -/
def raiseOthers (me src : Nat) (s : State) : State :=
  (List.range 4).foldl (fun t c => if c = me then t else raiseAt c src t) s

/-- `n` events in a row. -/
def raiseTimes : Nat → Nat → State → State
  | 0, _, s => s
  | n + 1, src, s => raiseTimes n src (raise src s)

/-! ## Time (R494, R196) -/

/-- RTC seconds in bits 39 to 0 and fraction in bits 55 to 40. -/
def rtcStamp (s : State) : Nat := s.backup.rtcSec % 2 ^ 40 + shl s.backup.rtcFrac 40

/-- TIME of a logbook entry (R494): the RTC, or TICK_TIME with the ticks since power-on while RTC_VALID is 0. -/
def logTime (s : State) : Nat :=
  if s.backup.rtcValid then rtcStamp s else s.tick % 2 ^ 56 + 2 ^ 63

/-! ## The logbook (R492 to R500) -/

/-- ORIGIN's 32 bits (R495). -/
def originWord (o : Origin) : Nat :=
  o.port + shl o.fn 2 + shl o.ring 8 + shl o.core 10 + shl o.source 12 + shl o.custodian 16

/-- Bytes 0 to 47 of an entry (R494). -/
def logHead (e : LogEntry) : Bytes :=
  le 8 e.seq ++ le 8 e.time ++ le 4 (originWord e.origin) ++ le 2 (e.cls * 256 + e.code) ++
  le 1 (e.sev + shl (b2n e.form) 2) ++ le 1 e.status ++ le 8 e.object ++ le 8 e.old ++ le 8 e.new

/-- The 64 bytes of an entry (R494). -/
def logBytes (e : LogEntry) : Bytes := logHead e ++ slice e.mac 0 16

/-- K_LOG (R496): R260 under the device-unique key, label CLG-M, empty context. -/
def kLog : Bytes := kbkdf 0x11 32 Config.deviceKey [0x43, 0x4C, 0x47, 0x2D, 0x4D] []

/-- MAC of an entry after the entry before it (R496). -/
def logMac (e : LogEntry) (before : Bytes) : Bytes := (hmac 1 kLog (logHead e ++ slice before 0 16)).take 16

/-- Entries not yet acknowledged (R499). -/
def unacked (s : State) : Nat := s.log.nextSeq - s.log.ackNext

/-- Why the logbook cannot record (CAUSE of R512): 0 when it can (R500). -/
def recordBlock (s : State) : Nat :=
  if s.power.holdupLow then 1
  else if 240 ≤ s.log.staged.length then 2
  else if flashStage s = 5 then 3
  else if s.log.ctlFault then 4
  else 0

/-- The detail with which R500 refuses an ordinary change, or none. (Log entry 93: DEDUCED.) -/
def logRefusal (s : State) : Option Nat :=
  if recordBlock s ≠ 0 then some 2
  else if s.log.retain && 1044480 ≤ unacked s then some 1
  else none

/-- The refusal of UNLOCK_BEGIN and UNLOCK_CUSTODIAN, which may use the reserve (R500). -/
def unlockRefusal (s : State) : Option Nat :=
  if recordBlock s ≠ 0 then some 2
  else if s.log.retain && 1048576 ≤ unacked s then some 1
  else none

/-- A refusal or a discarded host write advances REFUSED (R500, R514). -/
def countRefused (s : State) : State := { s with log := { s.log with refused := satAdd 65535 s.log.refused 1 } }

/-- LOGBOOK_PRESSURE pends when the logbook stops being able to record (R498). -/
def noteRecording (s : State) : State :=
  let can := recordBlock s == 0
  if s.log.couldRecord && !can then raise 13 { s with log := { s.log with couldRecord := false } }
  else { s with log := { s.log with couldRecord := can } }

/-- What the first entry of a retained log is (R513). -/
def logFirst (s : State) : Nat :=
  match s.log.prog ++ s.log.staged with
  | [] => s.log.nextSeq
  | e :: _ => e.seq

/-- Stage one entry (R493, R497): the next SEQ, the time, the chained MAC, and the pressure events of R498. -/
def stageEntry (e : LogEntry) (s : State) : State :=
  let e1 := { e with seq := s.log.nextSeq, time := logTime s, stagedAt := s.tick }
  let e2 := { e1 with mac := logMac e1 s.log.lastMac }
  let full := s.log.retain && 1048576 ≤ unacked s
  let s1 := { s with log := { s.log with
    nextSeq := s.log.nextSeq + 1, staged := s.log.staged ++ [e2], lastMac := e2.mac,
    prog := if full then s.log.prog.drop 1 else s.log.prog,
    overwrote := s.log.overwrote || full } }
  let s2 := if s1.log.staged.length = 192 then raise 13 s1 else s1
  let s3 := if s2.log.retain && unacked s2 = 917504 then raise 13 s2 else s2
  noteRecording s3

/-- An exempt entry (R500): staged while staging holds fewer than 256, otherwise counted in LOST. -/
def logExempt (e : LogEntry) (s : State) : State :=
  if 256 ≤ s.log.staged.length then { s with log := { s.log with lost := satAdd 65535 s.log.lost 1 } }
  else stageEntry e s

/-- An entry of hardware or of firmware on its own account. -/
def hwEntry (cls code sev object : Nat) (old new : Nat := 0) : LogEntry :=
  { seq := 0, time := 0, origin := { source := 3, custodian := 255 }, cls := cls, code := code, sev := sev,
    object := object, old := old, new := new }

/-- ORIGIN of a change that keeper firmware applied: which core and ring served it is firmware's choice (R495).
(Log entry 61: DESIGN CHOICE.) -/
def fwOrigin (s : State) (source port fn custodian : Nat) : Origin :=
  { source := source, port := port, fn := fn, ring := fld (freeNow s) 1 0, core := fld (freeNow s) 3 2,
    custodian := custodian }

/-- An entry for a change that the admin queue of domain `d` asked for. -/
def adminEntry (s : State) (d cls code sev object old new : Nat) : LogEntry :=
  { seq := 0, time := 0, origin := fwOrigin s 1 (domPort d) (domFn d) 255, cls := cls, code := code, sev := sev,
    object := object, old := old, new := new }

/-- An entry of keeper firmware on its own account. (Log entry 30: DEDUCED.) -/
def fwEntry (s : State) (cls code sev object old new : Nat) : LogEntry :=
  { seq := 0, time := 0, origin := fwOrigin s 2 0 0 255, cls := cls, code := code, sev := sev,
    object := object, old := old, new := new }

/-- Stage firmware's entry, using up the free value of its ORIGIN. -/
def logFw (e : LogEntry) (s : State) : State := useFree (logExempt e s)

/-- The controller may program a page: not in stage 5, nor while it is FAULTED (R500). -/
def canProgram (s : State) : Bool := flashStage s != 5 && !s.log.ctlFault

/-- The page of the `n` oldest staged entries is programmed (R497, R499). -/
def programNow (n : Nat) (s : State) : State :=
  let page := s.log.staged.take n
  let kept := if flashStage s = 4 then page.filter (fun e => 2 ≤ e.sev) else page
  let all := s.log.prog ++ kept
  let excess := all.length - 1048576
  let drop := if excess = 0 then 0 else (excess + 7) / 8 * 8
  let lostUnacked := !s.log.retain && (all.take drop).any (fun e => s.log.ackNext ≤ e.seq)
  let s1 := { s with log := { s.log with
    staged := s.log.staged.drop n,
    prog := if s.log.retain then all else all.drop drop,
    droppedLow := satAdd 65535 s.log.droppedLow (page.length - kept.length),
    overwrites := s.log.overwrites + (if lostUnacked then drop else 0) } }
  let s2 := if s.log.overwrites / 65536 < s1.log.overwrites / 65536 then raise 13 s1 else s1
  let id := (page.head?.map LogEntry.seq).getD 0
  noteRecording (appendRec 3 id 1 (page.map logBytes).flatten s2)

/-- Program one page of up to 8 staged entries, where the controller may (R497, R500). -/
def programPage (n : Nat) (s : State) : State :=
  if canProgram s && !s.log.staged.isEmpty then programNow n s else s

/-- Program every complete group of 8 staged entries (R497). -/
def programGroups : Nat → State → State
  | 0, s => s
  | n + 1, s => if 8 ≤ s.log.staged.length then programGroups n (programPage 8 s) else s

/-! ## Event recorders (R504 to R506) -/

/-- A recorder's key: tile 5 stands for the cluster's own (R516). -/
def recKey (cluster tile : Nat) : Nat := 6 * cluster + tile

def getRec (s : State) (k : Nat) : Recorder := mget {} s.recorders.recs k
def setRec (k : Nat) (r : Recorder) (s : State) : State :=
  { s with recorders := { s.recorders with recs := mset {} s.recorders.recs k r } }

/-- The recorder that EVR_SEL names. -/
def selKey (s : State) : Nat :=
  recKey s.recorders.selCluster (if s.recorders.selTile = 15 then 5 else s.recorders.selTile)

/-- The recorder is frozen (R508). -/
def recFrozen (s : State) (k : Nat) : Bool := s.recorders.freeze && selKey s == k

/-- The lowest severity stored at or below `sev`, if any. -/
def lowestSev (r : Recorder) (sev : Nat) : Option Nat :=
  (List.range (sev + 1)).find? fun v => r.slots.any fun e => e.2.sev == v

/-- The entries without the oldest one of severity `v`, or its whole snapshot. -/
def dropOldest (v : Nat) (l : List (Nat × RecEntry)) : List (Nat × RecEntry) :=
  match l.find? fun e => e.2.sev == v with
  | none => l
  | some x => l.filter fun e => e.2.rseq != x.2.rseq

/-- Room for `n` entries of a severity by R506, if there is any; `fuel` bounds the entries given up. -/
def recRoom (sev n : Nat) : Nat → Recorder → Option Recorder
  | 0, r => if r.slots.length + n ≤ 256 then some r else none
  | fuel + 1, r =>
    if r.slots.length + n ≤ 256 then some r
    else match lowestSev r sev with
      | none => none
      | some v => recRoom sev n fuel { r with slots := dropOldest v r.slots }

/-- The lowest slot that holds no entry. (Log entry 107: DEDUCED.) -/
def freeSlot (r : Recorder) : Nat :=
  ((List.range 256).find? fun i => !(r.slots.any fun e => e.1 == i)).getD 0

/-- Put an entry into the lowest free slot. -/
def putEntry (r : Recorder) (e : RecEntry) : Recorder := { r with slots := r.slots ++ [(freeSlot r, e)] }

/-- Store the entries of one offer, as one (R504, R506, R511); none when they are dropped. -/
def recStore (r : Recorder) (l : List RecEntry) : Option Recorder :=
  (recRoom ((l.head?.map RecEntry.sev).getD 0) l.length 4 r).map fun x => l.foldl putEntry x

/-- Offer entries with one RSEQ to a recorder (R506, R508): RSEQ advances, a frozen recorder counts the offer in
FROZEN_CNT, a full one may drop it and then sets its bit of EVR_DROP_NEW. -/
def offerAll (k kind sev code place : Nat) (datas : List Bytes) (s : State) : State :=
  let r := getRec s k
  let cycle := Config.freeValue s.free % 2 ^ 20
  let first : RecEntry := {
    rseq := r.rseq, kind := kind, sev := sev, code := code, tick := s.tick, cycle := cycle, place := place, data := [] }
  let l := datas.map fun d => { first with data := slice d 0 40 }
  let l1 := match l with
    | [] => []
    | e :: rest => e :: rest.map fun x => { x with cont := true }
  let r1 := { r with rseq := (r.rseq + 1) % 2 ^ 32 }
  let s := useFree s
  if recFrozen s k then setRec k { r1 with frozenCnt := satAdd 65535 r1.frozenCnt 1 } s
  else match recStore r1 l1 with
    | some r2 => setRec k r2 s
    | none =>
      let s1 := setRec k { r1 with drop := satAdd 65535 r1.drop 1 } s
      { s1 with recorders := { s1.recorders with dropNew := setBit s1.recorders.dropNew k } }

/-- Offer one entry to a recorder. -/
def offerTo (k kind sev code place : Nat) (data : Bytes) (s : State) : State := offerAll k kind sev code place [data] s

/-- A place code (R14): LEVEL, DIE, CLUSTER, TILE, BANK, WORD and CELL. -/
def placeCode (level die cluster tile bank word cell : Nat) : Nat :=
  shl level 61 + shl die 58 + shl cluster 54 + shl tile 50 + shl (bank % 2 ^ 12) 38 + shl (word % 2 ^ 28) 10 + cell % 2 ^ 10

/-- The place code of a tile or of something coarser: what is finer or does not apply holds all ones. -/
def placeTile (die cluster tile level : Nat) : Nat := placeCode level die cluster tile (2 ^ 12 - 1) (2 ^ 28 - 1) (2 ^ 10 - 1)

/-- The place of a fault in the DRAM stack (R217), at the level of a word (2) or a bank (3): the layer, the channel, the
bank and the line that hold a mooring's lines are not specified. (Log entry 201: DESIGN CHOICE.) -/
def dramPlace (s : State) (level : Nat) : Nat :=
  let v := freeNow s
  placeCode level (2 + fld v 1 0) 2 1 (fld v 13 2) (if level = 2 then fld v 41 14 else 2 ^ 28 - 1) (2 ^ 10 - 1)

/-- The place of a fault in the flash array (R368): a sector as a bank, or one read word of it. Bit 27 of WORD belongs to
the sector's number. (Log entry 202: DEDUCED.) -/
def flashPlace (level sector word : Nat) : Nat :=
  placeCode level 1 6 0 sector (shl (sector / 2 ^ 12) 27 + (if level = 2 then word % 2 ^ 11 else 2 ^ 27 - 1)) (2 ^ 10 - 1)

/-- The die of a cluster (R12). -/
def clusterDie (cluster : Nat) : Nat := if cluster < 6 then 0 else 1

/-- Offer an EVENT at a place, with its data, to a tile's recorder, and from severity 1 to its cluster's (R506). -/
def recData (cluster tile sev code place : Nat) (data : Bytes) (s : State) : State :=
  let s1 := if tilePresent s.part cluster tile then offerTo (recKey cluster tile) 1 sev code place data s else s
  if 1 ≤ sev then offerTo (recKey cluster 5) 1 sev code place data s1 else s1

/-- Offer an EVENT without data. -/
def recPlace (cluster tile sev code place : Nat) (s : State) : State := recData cluster tile sev code place [] s

/-- Offer an EVENT of a tile as a whole. -/
def recTile (cluster tile sev code : Nat) (s : State) : State :=
  recPlace cluster tile sev code (placeTile (clusterDie cluster) cluster tile 4) s

/-- Offer an EVENT to a cluster's recorder alone. -/
def recCluster (cluster sev code : Nat) (s : State) : State :=
  offerTo (recKey cluster 5) 1 sev code (placeTile (clusterDie cluster) cluster 15 5) [] s

/-- A fault recorded under R15: the tile's and cluster's recorders, and from severity 2 a class 0x08 entry whose code is
the level and whose object is the place code (R492, R506). -/
def recordPlace (level cluster tile sev code place : Nat) (s : State) : State :=
  let s1 := recPlace cluster tile sev code place s
  if 2 ≤ sev then logExempt (hwEntry 0x08 level sev place) s1 else s1

/-- A fault that takes a tile or a unit of it. -/
def recordFault (cluster tile sev code : Nat) (s : State) : State :=
  recordPlace 4 cluster tile sev code (placeTile (clusterDie cluster) cluster tile 4) s

/-- The first freeze of the key store is recorded with severity 3 (R358). -/
def noteFreeze (s : State) : State :=
  if recordBlock s = 0 || s.keys.frozenSeen then s
  else recordFault 6 1 3 0 { s with keys := { s.keys with frozenSeen := true } }

/-- A fault in the DRAM stack, recorded by the DRAM controller's tile. -/
def recordDram (level sev code : Nat) (s : State) : State :=
  recordPlace level 2 1 sev code (dramPlace s level) (useFree s)

/-! ## Modes and snapshots (R504, R505) -/

/-- The units of a tile (R12). -/
def tileUnits (cluster tile : Nat) : List UnitId :=
  match cluster with
  | 2 => if tile = 0 then [.mooring] else []
  | 3 => (List.range 4).map fun i => .lane (Fin.ofNat 16 (4 * tile + i))
  | 4 => ((List.range 3).map fun i => .pair (Fin.ofNat 12 (3 * tile + i))) ++
      (if tile = 3 then .legacy :: (List.range 8).map fun i => .pipe (Fin.ofNat 8 i) else [])
  | 5 => if tile < 4 then [.core (Fin.ofNat 4 tile)] else [.rng]
  | 6 => if tile = 0 then [.logbook] else []
  | 8 => if tile = 0 then [.card] else [.rf]
  | _ => []

/-- The tile of a unit. The spec places neither domains nor queue pairs on a tile. -/
def unitTile : UnitId → Nat × Nat
  | .dom _ => (1, 1)
  | .queue _ _ => (1, 0)
  | .lane i => (3, i.val / 4)
  | .pair i => (4, i.val / 3)
  | .pipe _ => (4, 3)
  | .legacy => (4, 3)
  | .rng => (5, 4)
  | .card => (8, 0)
  | .rf => (8, 1)
  | .core c => (5, c.val)
  | .mooring => (2, 0)
  | .logbook => (6, 0)

/-- The recorder is in CAPTURE mode: a unit of its tile is in STARTING, where its self-test runs, or in FAULTED, from which
it recovers. -/
def capture (s : State) (cluster tile : Nat) : Bool :=
  (tileUnits cluster tile).any fun u => unitSt s u == .starting || unitSt s u == .faulted

/-- The mode of the recorder that a tile number names; 15 is the cluster's, in CAPTURE while one of its tiles is. -/
def recMode (s : State) (cluster tile : Nat) : Bool :=
  (match s.power.phase with | .booting _ => true | _ => false) ||
  if tile = 15 then (List.range 5).any fun t => tilePresent s.part cluster t && capture s cluster t
  else capture s cluster tile

/-- DATA of up to four entries for the words of a snapshot. -/
def snapDatas (words : List Nat) : List Bytes :=
  let b := (words.map (le 4)).flatten
  (List.range ((b.length + 39) / 40)).map (fun i => slice b (40 * i) 40) |>.take 4

/-- A snapshot of words for a tile. -/
def snapTile (cluster tile sev code : Nat) (words : List Nat) (s : State) : State :=
  let p := placeTile (clusterDie cluster) cluster tile 4
  let s1 := offerAll (recKey cluster tile) 4 sev code p (snapDatas words) s
  if 1 ≤ sev then offerAll (recKey cluster 5) 4 sev code p (snapDatas words) s1 else s1

/-- The unit registers of a tile: the control and the status word of each of its units (R22, R23). -/
def tileWords (s : State) (cluster tile : Nat) : List Nat :=
  ((tileUnits cluster tile).map fun u => [b2n (getUnit s u).en, unitStatusWord (getUnit s u)]).flatten

/-- Set a unit's record; a transition that begins or ends in CAPTURE mode is snapshotted (R505), with severity 1, or with
the severity of the fault that it is. -/
def moveUnit (u : UnitId) (r : UnitRec) (sev : Nat) (s : State) : State :=
  let s1 := setUnit u r s
  let c := unitTile u
  if (getUnit s u).st = r.st || !(recMode s c.1 c.2 || recMode s1 c.1 c.2) then s1
  else snapTile c.1 c.2 sev (unitCode r.st) (tileWords s1 c.1 c.2) s1

end Sys2Proof.Machine
end

