-- ==== Sys2Proof/Machine/Desc.lean ====
section
/-! DEFINITION. Descriptors (07 of spec/): their fields, the format checks of R190, statuses and completion entries. -/
namespace Sys2Proof.Machine

/-! ## Fields of a data-plane descriptor (R166) -/

def dOpcode (d : Bytes) : Nat := byteAt d 0
def dAlg (d : Bytes) : Nat := byteAt d 1
def dFlags (d : Bytes) : Nat := leAt d 2 2
def dRef (d : Bytes) : Nat := leAt d 4 4
def dRef2 (d : Bytes) : Nat := leAt d 8 4
def dSplit (d : Bytes) : Nat := leAt d 12 4
def dInAddr (d : Bytes) : Nat := leAt d 16 8
def dOutAddr (d : Bytes) : Nat := leAt d 24 8
def dAuxAddr (d : Bytes) : Nat := leAt d 32 8
def dInLen (d : Bytes) : Nat := leAt d 40 4
def dOutLen (d : Bytes) : Nat := leAt d 44 4
def dAuxLen (d : Bytes) : Nat := leAt d 48 4
def dPbLen (d : Bytes) : Nat := leAt d 52 2
def dPbAddr (d : Bytes) : Nat := leAt d 56 8

/-! ## Fields of an admin descriptor (R179) -/

def aSubop (d : Bytes) : Nat := byteAt d 1
def aSeq (d : Bytes) : Nat := leAt d 4 4
def aTarget (d : Bytes) : Nat := leAt d 8 4
def aPbLen (d : Bytes) : Nat := leAt d 12 2
def aMac (d : Bytes) : Bytes := slice d 48 16

/-! ## Statuses (R188) -/

def stOK : Nat := 0x00
def stAuthFail : Nat := 0x01
def stReplay : Nat := 0x02
def stStale : Nat := 0x03
def stNotOwner : Nat := 0x04
def stRekeyRequired : Nat := 0x05
def stCounterExhausted : Nat := 0x06
def stAborted : Nat := 0x07
def stCompareFail : Nat := 0x08
def stLocked : Nat := 0x09
def stRestricted : Nat := 0x0A
def stNoEntropy : Nat := 0x0B
def stUnitAbsent : Nat := 0x0C
def stBadDescriptor : Nat := 0x0D
def stDmaError : Nat := 0x0E
def stPoisoned : Nat := 0x0F
def stCurveRejected : Nat := 0x10
def stBadParameter : Nat := 0x11
def stQuota : Nat := 0x12
def stPolicyDenied : Nat := 0x13
def stAdminAuthRequired : Nat := 0x20
def stAdminLockedOut : Nat := 0x21
def stLogFull : Nat := 0x22
def stKeystoreFrozen : Nat := 0x23

/-! ## Opcodes (R172) -/

/-- The data-plane opcodes of R172. -/
def isDataOpcode (o : Nat) : Bool :=
  (1 ≤ o && o ≤ 8) || (0x10 ≤ o && o ≤ 0x13) || (0x20 ≤ o && o ≤ 0x27) || o == 0x30 || o == 0x31

/-- The admin opcodes of R181. -/
def isAdminOpcode (o : Nat) : Bool := o == 0x80 || o == 0x81 || (0x83 ≤ o && o ≤ 0x92)

/-- Opcodes whose REF is a mooring handle. -/
def refIsHandle (d : Bytes) : Bool :=
  let o := dOpcode d
  o == 1 || o == 2 || o == 3 || o == 0x11 || o == 0x12 || (o == 0x13 && dAlg d == 0)

/-- Opcodes whose REF must be a key reference. -/
def refIsKey (d : Bytes) : Bool :=
  let o := dOpcode d
  o == 4 || o == 6 || o == 7 || o == 8 || o == 0x25

/-- Opcodes whose REF is a key reference or 0. -/
def refIsKeyOr0 (d : Bytes) : Bool :=
  let o := dOpcode d
  (0x20 ≤ o && o ≤ 0x24) || o == 0x26

/-- A private-key operation (R174). -/
def isPrivateOp (d : Bytes) : Bool :=
  let o := dOpcode d
  o == 0x20 || o == 0x22 || o == 0x24 || o == 0x25 || o == 0x27

/-- An opcode R174 marks for the random source. -/
def needsRandom (d : Bytes) : Bool :=
  let o := dOpcode d
  o == 1 || o == 3 || o == 0x10 || o == 0x11 || isPrivateOp d || o == 0x23 || o == 0x30

/-- Opcodes run by a lane, a hash pipe or an engine pair. -/
def isLaneOp (d : Bytes) : Bool := let o := dOpcode d; (1 ≤ o && o ≤ 4) || o == 8
def isHashOp (d : Bytes) : Bool := let o := dOpcode d; 5 ≤ o && o ≤ 7
def isPkOp (d : Bytes) : Bool := let o := dOpcode d; 0x20 ≤ o && o ≤ 0x27

/-- The permission bit of R130 that a data-plane opcode needs; FENCE needs none. -/
def permBit (o : Nat) : Option Nat :=
  if o ≤ 3 then some 4 else if o = 4 then some 6 else if o ≤ 7 then some 7 else if o = 8 then some 8
  else if 0x10 ≤ o && o ≤ 0x13 then some 5
  else if o = 0x20 || o = 0x22 || o = 0x24 || o = 0x25 || o = 0x27 then some 9
  else if o = 0x21 || o = 0x23 || o = 0x26 then some 10
  else if o = 0x30 then some 11 else none

/-- A lattice parameter set (R173). -/
def isLatticeAlg (a : Nat) : Bool := (0x20 ≤ a && a ≤ 0x22) || (0x28 ≤ a && a ≤ 0x2A)

/-- ALG values listed for the opcode (R173, check 3). -/
def algListed (d : Bytes) : Bool :=
  let o := dOpcode d
  let a := dAlg d
  if o = 4 then 1 ≤ a % 16 && a % 16 ≤ 7 && a / 16 % 8 == 0
  else if o = 5 then (1 ≤ a && a ≤ 3) || (0x11 ≤ a && a ≤ 0x13) || a == 0x21 || a == 0x22
  else if o = 6 then 1 ≤ a % 128 && a % 128 ≤ 3
  else if o = 7 then (1 ≤ a && a ≤ 3) || (0x11 ≤ a && a ≤ 0x13)
  else if o = 8 then
    let i := a % 16
    let x := a / 16
    (i == 0 || i == 3 || i == 4) && (x == 0 || x == 3 || x == 4) && (i == 4 || x == 4)
  else if o = 0x13 then a ≤ 1
  else if o = 0x20 || o = 0x21 then a == 1 || a == 4 || a == 5 || (0x28 ≤ a && a ≤ 0x2A)
  else if o = 0x22 then a == 2 || a == 3
  else if o = 0x23 || o = 0x24 then 0x20 ≤ a && a ≤ 0x22
  else if o = 0x25 || o = 0x26 then a == 0x10
  else if o = 0x27 then (1 ≤ a && a ≤ 5) || isLatticeAlg a
  else a == 0

/-- FLAGS bits the opcode may carry (R169, check 2). -/
def flagsAllowed (d : Bytes) : Nat :=
  let o := dOpcode d
  if o = 2 then 1 else if o = 0x21 || o = 0x23 || o = 0x26 then 2 else if o = 0x31 then 4 else 0

/-- A key reference as R170 lays it out. -/
def keyRefOk (r : Nat) : Bool := nbit r 31 && fld r 30 16 == 0

/-- REF and REF2 fit R170 and R172 (check 4). -/
def refsOk (d : Bytes) : Bool :=
  let o := dOpcode d
  let r := dRef d
  let r2 := dRef2 d
  let okRef :=
    if refIsHandle d then r ≠ 0
    else if refIsKey d then keyRefOk r
    else if refIsKeyOr0 d then r == 0 || keyRefOk r
    else r == 0
  let okRef2 :=
    if o = 3 then r2 ≠ 0
    else if o = 8 then keyRefOk r2
    else if o = 0x10 || o = 0x11 then r2 == 0 || keyRefOk r2
    else if o = 0x20 || o = 0x21 || o = 0x22 || o = 0x27 then r2 < 64
    else r2 == 0
  okRef && okRef2

/-- The buffers an opcode uses (R172): input, output, auxiliary. -/
def usesIn (d : Bytes) : Bool :=
  let o := dOpcode d
  !(o == 7 || o == 0x12 || o == 0x13 || o == 0x22 || o == 0x23 || o == 0x27 || o == 0x30 || o == 0x31)
def usesOut (d : Bytes) : Bool :=
  let o := dOpcode d
  !((o == 6 && 128 ≤ dAlg d) || o == 0x10 || o == 0x11 || o == 0x12 || (o == 0x13 && dAlg d == 1) ||
    o == 0x21 || o == 0x24 || o == 0x31)
def usesAux (d : Bytes) : Bool :=
  let o := dOpcode d
  o == 2 || o == 3 || (o == 6 && 128 ≤ dAlg d) || o == 0x21 || o == 0x23 || o == 0x24 || o == 0x27

/-- One buffer passes check 5. -/
def bufOk (used : Bool) (addr len : Nat) : Bool :=
  if used then (len == 0 && addr == 0 || len != 0 && addr != 0) && addr + len ≤ 2 ^ 64
  else addr == 0 && len == 0

/-- The lengths of check 6. -/
def lengthsOk (d : Bytes) : Bool :=
  let o := dOpcode d
  let body := dInLen d - dSplit d
  let splitAllowed := (1 ≤ o && o ≤ 3) || (o == 4 && (dAlg d % 16 == 4 || dAlg d % 16 == 2))
  dInLen d ≤ 16777216 && dSplit d ≤ dInLen d && (dSplit d == 0 || splitAllowed) &&
  !((o == 3 || (o == 2 && nbit (dFlags d) 0)) && 65552 < body) &&
  !(o == 8 && dInLen d != (if dAlg d % 16 = 4 then 16 else 8)) &&
  !((o == 2 || o == 3) && dAuxLen d != 12) &&
  !((o == 0x23 || o == 0x24) && dAuxLen d != 32)

/-- How the opcode uses a parameter block (R172, R276): 0 never, 1 optional, 2 required. (Log entry 52: DEDUCED.) -/
def pbUse (d : Bytes) : Nat :=
  let o := dOpcode d
  if o = 4 || o = 7 || o = 8 || o = 0x10 || o = 0x11 || o = 0x22 then 2
  else if o = 0x20 || o = 0x21 then (if dRef d = 0 then 2 else 1)
  else if o = 0x23 || o = 0x24 || o = 0x26 then (if dRef d = 0 then 2 else 0)
  else 0

/-- PB_LEN and PB_ADDR pass check 7 (R171). -/
def pbOk (d : Bytes) : Bool :=
  if dPbLen d = 0 then dPbAddr d == 0 && pbUse d != 2
  else dPbLen d % 8 == 0 && dPbLen d ≤ 4096 && dPbAddr d % 8 == 0 && dPbAddr d != 0 && pbUse d != 0 &&
    dPbAddr d + dPbLen d ≤ 2 ^ 64

/-- The number of the first check of R190 that a data-plane descriptor fails, or 0. -/
def formatCheck (d : Bytes) : Nat :=
  if !isDataOpcode (dOpcode d) then 1
  else if !(leAt d 54 2 == 0 && dFlags d &&& flagsAllowed d == dFlags d) then 2
  else if !algListed d then 3
  else if !refsOk d then 4
  else if !(bufOk (usesIn d) (dInAddr d) (dInLen d) && bufOk (usesOut d) (dOutAddr d) (dOutLen d) &&
      bufOk (usesAux d) (dAuxAddr d) (dAuxLen d)) then 5
  else if !lengthsOk d then 6
  else if !pbOk d then 7
  else 0

/-! ## Parameter blocks (R171) -/

/-- The header of a parameter block agrees with its descriptor. -/
def pbHeaderOk (opcode len : Nat) (pb : Bytes) : Bool :=
  byteAt pb 0 == opcode && byteAt pb 1 == 1 && leAt pb 2 2 == len - 8 && leAt pb 4 4 == 0

/-- The body of a parameter block. -/
def pbBody (pb : Bytes) : Bytes := pb.drop 8

/-- A length padded to a multiple of 8 (R259, R276). -/
def pad8 (n : Nat) : Nat := (n + 7) / 8 * 8

/-! ## Sizes (R256, R277) -/

/-- Signature length of a scheme (R277); `ln` is the order's byte length. -/
def sigLen (alg ln : Nat) : Nat :=
  if alg = 1 then 2 * ln else if alg = 4 then 64 else if alg = 5 then 114
  else if alg = 0x28 then 2420 else if alg = 0x29 then 3309 else if alg = 0x2A then 4627 else 0

/-- Public-key length of a scheme (R277); `l` is the field prime's byte length. -/
def pubLen (alg l : Nat) : Nat :=
  if alg = 1 || alg = 2 then 1 + 2 * l else if alg = 3 || alg = 4 then 32 else if alg = 5 then 57
  else if alg = 0x20 then 800 else if alg = 0x21 then 1184 else if alg = 0x22 then 1568
  else if alg = 0x28 then 1312 else if alg = 0x29 then 1952 else if alg = 0x2A then 2592 else 0

/-- Secret length of a scheme (R277). -/
def secretLen (alg ln : Nat) : Nat :=
  if alg = 1 || alg = 2 then ln else if alg = 3 || alg = 4 then 32 else if alg = 5 then 57
  else if 0x20 ≤ alg && alg ≤ 0x22 then 64 else if 0x28 ≤ alg && alg ≤ 0x2A then 32 else 0

/-- KEM ciphertext length (R277). -/
def ctLen (alg : Nat) : Nat := if alg = 0x20 then 768 else if alg = 0x21 then 1088 else 1568

/-! ## Completion entries (R182 to R187) -/

/-- ENGINE of the unit that ran an operation (R184). -/
def engineByte : Option UnitId → Nat
  | some (.lane i) => 64 + i.val
  | some (.pair i) => 128 + i.val
  | some (.pipe i) => 192 + i.val
  | some .legacy => 200
  | _ => 0

/-- The 32 bytes of a completion entry (R182). -/
def completionEntry (idx tagField status detail opcode engine outLen auxLen : Nat) (result : Bytes) (p : Nat) : Bytes :=
  le 2 idx ++ le 2 tagField ++ le 1 status ++ le 1 detail ++ le 1 opcode ++ le 1 engine ++ le 4 outLen ++ le 4 auxLen ++
  slice result 0 12 ++ zeros 3 ++ le 1 p

end Sys2Proof.Machine
end

