-- ==== Sys2Proof/Machine/Complete.lean ====
section
/-! DEFINITION. The completion writer: entries, MSI-X, and the ending of operations (06, 07, 08 of spec/). -/
namespace Sys2Proof.Machine

/-! ## Tables -/

def getPort (s : State) (n : Nat) : Port := mget {} s.ports n
def setPort (n : Nat) (p : Port) (s : State) : State := { s with ports := mset {} s.ports n p }
def modPort (n : Nat) (f : Port → Port) (s : State) : State := setPort n (f (getPort s n)) s
def getFunc (s : State) (d : Nat) : Func := mget {} s.funcs d
def setFunc (d : Nat) (f : Func) (s : State) : State := { s with funcs := mset {} s.funcs d f }
def modFunc (d : Nat) (f : Func → Func) (s : State) : State := setFunc d (f (getFunc s d)) s
/-- A write of output data to domain `d`'s host, with Relaxed Ordering where its Device Control enables it (R74). -/
def dataWrite (s : State) (d addr : Nat) (b : Bytes) : Out := .hostWrite d addr b (getFunc s d).cfg.relaxed
def getDom (s : State) (d : Nat) : Domain := mget {} s.domains d
def setDom (d : Nat) (x : Domain) (s : State) : State := { s with domains := mset {} s.domains d x }
def modDom (d : Nat) (f : Domain → Domain) (s : State) : State := setDom d (f (getDom s d)) s

/-- A queue's key: queue 64 of a domain is its admin queue. -/
def queueKey (d q : Nat) : Nat := d * 65 + q
def getQueue (s : State) (d q : Nat) : Queue := mget {} s.queues (queueKey d q)
def setQueue (d q : Nat) (x : Queue) (s : State) : State := { s with queues := mset {} s.queues (queueKey d q) x }
def modQueue (d q : Nat) (f : Queue → Queue) (s : State) : State := setQueue d q (f (getQueue s d q)) s

/-- A port carries TLPs: its link is up (R91 step 2). -/
def portUp (s : State) (n : Nat) : Bool := (getPort s n).linkUp

def bankOf (s : State) (n : Nat) : Bank := if n = 0 then s.policy.bank0 else s.policy.bank1
def activeBank (s : State) : Bank := bankOf s s.policy.active

def getShare (b : Bank) (d : Nat) : Share := mget {} b.shares d

/-- The effective permissions of a domain in a bank (R130). -/
def effPerms (b : Bank) (d : Nat) : Nat :=
  if domFn d = 0 then (getShare b d).perms else (getShare b d).perms &&& (getShare b (64 * domPort d)).perms

/-- The effective poll class of a queue (R139): HOT needs its permission, the admin queue is WARM. -/
def effClass (s : State) (d q : Nat) : Nat :=
  if q = 64 then 1
  else
    let c := (getQueue s d q).pollClass
    if c = 0 && !(nbit (effPerms (activeBank s) d) 1) then 1 else c

/-! ## MSI-X (R83, R153) -/

/-- A vector's message: the address and data of its entry in the MSI-X table (R81, R83). -/
def msixOut (s : State) (d v : Nat) : Out :=
  .msix d v (mget 0 (getFunc s d).msgAddr v) (mget 0 (getFunc s d).msgData v)

/-- Send a vector's message, or set its pending bit while it is masked. Nothing is sent on a lost port (R93). -/
def sendMsix (d v : Nat) (s : State) : State :=
  let f := getFunc s d
  if !portUp s (domPort d) || !f.msixEn then s
  else if f.fnMask || !nbit f.unmasked v then setFunc d { f with pba := setBit f.pba v } s
  else emit (msixOut s d v) s

/-- The coalescing rule of R153 after one entry of a queue pair, and the admin queue's message at each entry. -/
def raiseIrq (d q : Nat) (s : State) : State :=
  let x := getQueue s d q
  if !x.irqEn then s
  else if q = 64 then sendMsix d 0 s
  else if x.irqPending + 1 ≥ x.coalCount + 1 then
    sendMsix d (1 + q) (setQueue d q { x with irqPending := 0, timerOn := false } s)
  else setQueue d q { x with irqPending := x.irqPending + 1, timerOn := true } s

/-! ## Entries (R150 to R152) -/

/-- Write one completion entry at CQ_TAIL with the current phase, advance CQ_TAIL, invert PHASE on a wrap, restart W
for a WARM or admin queue (R141), and raise MSI-X. A lost port receives nothing (R93). -/
def writeEntry (d q idx tagField status detail opcode engine outLen auxLen : Nat) (result : Bytes) (flags : Nat)
    (s : State) : State :=
  if !portUp s (domPort d) then s
  else
    let x := getQueue s d q
    let e := completionEntry idx tagField status detail opcode engine outLen auxLen result (b2n x.phase + flags)
    let last := x.cqTail + 1 = 2 ^ x.cqLog2
    let x1 := { x with cqTail := if last then 0 else x.cqTail + 1, phase := if last then !x.phase else x.phase }
    let s1 := emit (.completion d q (x.cqBase + 32 * x.cqTail) e) (setQueue d q x1 s)
    let s2 := if effClass s d q = 1 then modPort (domPort d) (fun p => { p with w250 := 1 }) s1 else s1
    raiseIrq d q s2

/-- DOM_DONE or DOM_FAILED advances (R117). (Log entry 68: DEDUCED.) -/
def countEnding (d status : Nat) (s : State) : State :=
  modDom d (fun x => if status = stOK then { x with done := (x.done + 1) % 2 ^ 48 }
    else { x with failed := (x.failed + 1) % 2 ^ 48 }) s

/-- Complete a descriptor without admission (R149): NOT_ADMITTED set, no tag. -/
def rejectDesc (d q idx status detail opcode : Nat) (s : State) : State :=
  writeEntry d q idx 0x8000 status detail opcode 0 0 0 [] 0 (countEnding d status s)

/-! ## Operations -/

def findOp (s : State) (tag : Nat) : Option Op := s.ops.find? fun o => o.tag == tag

/-- The operation of a tag, while the data-plane clock that carries it runs (R61, R62). -/
def findLive (s : State) (tag : Nat) : Option Op := if dpRuns s then findOp s tag else none
def putOp (o : Op) (s : State) : State := { s with ops := s.ops.map fun x => if x.tag = o.tag then o else x }
def dropOp (tag : Nat) (s : State) : State := { s with ops := s.ops.filter fun x => x.tag != tag }

/-- Operations of a domain, and of a queue, in flight (R113, R159). -/
def inFlight (s : State) (d : Nat) : Nat := (s.ops.filter fun o => o.dom == d).length
def queueInFlight (s : State) (d q : Nat) : Nat := (s.ops.filter fun o => o.dom == d && o.q == q).length

/-- The moorings an operation names, by index (R172, R193). -/
def opMoors (o : Op) : List Nat :=
  (if refIsHandle o.desc then [dRef o.desc % 2 ^ 22] else []) ++
  (if dOpcode o.desc = 3 then [dRef2 o.desc % 2 ^ 22] else [])

def getMoor (s : State) (i : Nat) : Mooring := mget {} s.moor.slots i
def setMoor (i : Nat) (m : Mooring) (s : State) : State :=
  { s with moor := { s.moor with slots := mset {} s.moor.slots i m } }
def modMoor (i : Nat) (f : Mooring → Mooring) (s : State) : State := setMoor i (f (getMoor s i)) s

/-- A saturating 64-bit counter of R199. -/
def sat64 (a b : Nat) : Nat := satAdd (2 ^ 64 - 1) a b

/-- Payload bytes an operation sealed or opened (R199): input without its associated data and inbound tag. -/
def payloadLen (s : State) (o : Op) : Nat :=
  let body := dInLen o.desc - dSplit o.desc
  if dOpcode o.desc = 1 then body else body - (getMoor s (dRef o.desc % 2 ^ 22)).tagLen

/-- One ending in the statistics of a mooring (R199). `side` is 0 where it seals, 1 where it opens, 2 for neither. -/
def countMoor (side status bytes now : Nat) (m : Mooring) : Mooring :=
  let m1 := { m with lastUse := now }
  if status = stOK || status = stRekeyRequired then
    if side = 0 then { m1 with sealed_ := sat64 m.sealed_ 1, bytes := sat64 m.bytes bytes }
    else if side = 1 then { m1 with opened := sat64 m.opened 1, bytes := sat64 m.bytes bytes }
    else m1
  else if status = stAuthFail then { m1 with authFails := sat64 m.authFails 1 }
  else if status = stReplay then { m1 with replays := sat64 m.replays 1 }
  else if status = stAborted then { m1 with aborts := sat64 m.aborts 1 }
  else if status = stDmaError then { m1 with dmaErrors := sat64 m.dmaErrors 1 }
  else m1

/-- The mooring statistics of an ended SEAL, OPEN or RESEAL (R199, R241). An AUTH_FAIL or REPLAY of RESEAL belongs to
its inbound side; its outbound side counts once REF2 has passed R204. -/
def countMoors (o : Op) (status : Nat) (s : State) : State :=
  if !o.moored then s
  else
    let n := payloadLen s o
    let i := dRef o.desc % 2 ^ 22
    let now := rtcStamp s
    let c := dOpcode o.desc
    if c = 1 then modMoor i (countMoor 0 status n now) s
    else if c = 2 then modMoor i (countMoor 1 status n now) s
    else if c = 3 then
      let s1 := modMoor i (countMoor 1 status n now) s
      if status = stAuthFail || status = stReplay || o.ctr.isNone then s1
      else modMoor (dRef2 o.desc % 2 ^ 22) (countMoor 0 status n now) s1
    else modMoor i (countMoor 2 status 0 now) s

/-- An operation admitted earlier on a pinned mooring this one names is still in flight (R208). -/
def heldByOrder (s : State) (o : Op) : Bool :=
  (opMoors o).any fun i => (getMoor s i).pinValid &&
    s.ops.any fun p => p.seqNo < o.seqNo && (opMoors p).contains i

/-- OUT_LEN and AUX_LEN of the entry (R175, R182). -/
def entryLens (o : Op) : Nat × Nat :=
  if o.status = stBadParameter && o.detail = 1 then (o.needOut, o.needAux)
  else if o.outWritten then (o.written, o.aux.length) else (0, 0)

/-- Write an operation's entry, count it, and free its tag (R149, R151, R152). After a loss of its port or function there
is no entry, and the domain counts it as failed (R92, R117, R208). -/
def writeOpEntry (o : Op) (s : State) : State :=
  let s1 := countMoors o o.status (countEnding o.dom (if o.lost then stDmaError else o.status) s)
  let e := engineByte (if o.reserved then none else o.unit)
  if o.lost then dropOp o.tag s1
  else dropOp o.tag (writeEntry o.dom o.q o.idx (o.tag % 4096) o.status o.detail (dOpcode o.desc) e
    (entryLens o).1 (entryLens o).2 o.result (shl (b2n o.outWritten) 1 + shl (b2n o.dup) 2) s1)

/-- Write the entries of finished operations that waited only for completion order (R208). -/
def releaseHeld : Nat → State → State
  | 0, s => s
  | n + 1, s =>
    match s.ops.find? (fun o => o.stage == .held && !heldByOrder s o) with
    | none => s
    | some o => releaseHeld n (writeOpEntry o s)

/-- An operation has finished its work: its entry is written, or it is held for completion order (R208). -/
def finishOp (o : Op) (s : State) : State :=
  if heldByOrder s o && !o.lost then putOp { o with stage := .held } s
  else releaseHeld s.ops.length (writeOpEntry o s)

/-- An operation ends with a status before execution: it takes its completion at once (R191). -/
def endOp (o : Op) (status detail : Nat) (s : State) : State :=
  finishOp { o with status := status, detail := detail, heldCtr := none } s

/-! ## The refusals of the mooring stage, and UNMOOR's effect (R204, R210) -/

/-- What the mooring stage answers: a status and detail, or nothing when the operation continues. -/
abbrev StageAns := Option (Nat × Nat)

/-- The output or auxiliary length a mooring operation needs (R175): SEAL, OPEN, RESEAL and MOOR_QUERY. -/
def moorNeed (s : State) (o : Op) : Nat :=
  let m := getMoor s (dRef o.desc % 2 ^ 22)
  let body := dInLen o.desc - dSplit o.desc
  match dOpcode o.desc with
  | 1 => body + m.tagLen
  | 2 => body - m.tagLen
  | 3 => body - m.tagLen + (getMoor s (dRef2 o.desc % 2 ^ 22)).tagLen
  | 0x13 => 256
  | _ => 0

/-- The refusals of R204 for a handle on one side: 0 OUT, 1 IN, 2 ADMIN. (Log entry 66: DEDUCED.) -/
def stageCheck (s : State) (o : Op) (h side : Nat) : StageAns :=
  let i := h % 2 ^ 22
  let g := h / 2 ^ 22
  let m := getMoor s i
  let c := dOpcode o.desc
  if mooringCount s.part ≤ i then some (stStale, 0)
  else if m.state = .quarantined then some (stPoisoned, 0)
  else if m.state = .free then some (stStale, 0)
  else if m.owner ≠ o.dom then some (stNotOwner, 0)
  else if m.state = .retired || g ≠ m.gen then some (stStale, 0)
  else if m.state = .poisoned && c ≠ 0x12 then some (stPoisoned, 0)
  else if m.pinValid && c ≠ 0x13 && o.q ≠ m.pinQ then some (stPolicyDenied, 0)
  else if side = 0 && m.dir ≠ 0 then some (stPolicyDenied, 0)
  else if side = 1 && m.dir ≠ 1 then some (stPolicyDenied, 0)
  else if c = 3 && !nbit m.mflags 2 then some (stPolicyDenied, 0)
  else if c = 2 && nbit m.mflags 3 && !nbit (dFlags o.desc) 0 then some (stPolicyDenied, 0)
  else if (side = 0 || c ≠ 3) && dOutLen o.desc < moorNeed s o then some (stBadParameter, 1)
  else if side = 0 && 2 ^ 40 ≤ m.ctr then some (stCounterExhausted, 0)
  else none

/-- UNMOOR's effect at its admission: the generation advances, and the slot waits for its release (R210). -/
def commitUnmoor (o : Op) (s : State) : State :=
  modMoor (dRef o.desc % 2 ^ 22) (fun m => { m with
    gen := m.gen + 1, unmooring := true, wasPoisoned := decide (m.state = .poisoned) }) s

/-- An UNMOOR that ends while it waits for its mooring's fill keeps its effect, if R204 lets it continue (R210).
(Log entry 206: DEDUCED.) -/
def commitWaiting (o : Op) (s : State) : State :=
  match o.stage with
  | .waitFill _ =>
    if dOpcode o.desc = 0x12 && (stageCheck s o (dRef o.desc) 2).isNone then commitUnmoor o s else s
  | _ => s

/-! ## Early endings -/

/-- Output of a lane's mask generator in its present state (R230). -/
def maskOut (s : State) (n len : Nat) : Bytes := (List.range len).map (Config.maskByte (mget {} s.lanes n).mask.state)

/-- Shares overwritten with a generator's output. -/
def Shares.wipe (s : State) (n : Nat) (x : Shares) : Shares :=
  { a := maskOut s n x.a.length, b := maskOut s n x.b.length }

/-- What a unit overwrites of an operation that ends early: a lane the message's state and its release-buffer shares, first
with generator output (R235); a pair its results (R291). -/
def overwritten (s : State) (o : Op) : Op :=
  let o1 := { o with input := [], auxIn := [], out := [], aux := [], drawn := [] }
  match o.unit with
  | some (.lane i) => { o1 with
      laneKey := o.laneKey.wipe s i.val, laneH := o.laneH.wipe s i.val, buf := o.buf.wipe s i.val }
  | _ => o1

/-- Another operation runs on engine `e` of the pair that `o` ends on, and keeps that engine's memory.
(Log entry 78: DEDUCED.) -/
def otherRuns (s : State) (o : Op) (e : Nat) : Bool :=
  s.ops.any fun p => p.tag != o.tag && p.unit == o.unit && !p.reserved && (p.eng == e || p.eng == 2) &&
    (p.stage == .running || p.stage == .computed)

/-- The operand memories of a pair as an operation leaves them: `m` replaces what its engines held. -/
def memEnd (s : State) (o : Op) (m : OpMem → OpMem) (p : Pair) : Pair :=
  { p with
    memA := if otherRuns s o 0 then p.memA else m p.memA
    memB := if otherRuns s o 1 then p.memB else m p.memB }

/-- Both engines of a pair overwrite their operand memory, first with DRBG output (R291). -/
def wipeMem (o : Op) (s : State) : State :=
  match o.unit with
  | some (.pair i) =>
    let t := if rngOn s then useDrbg 32768 s else s
    let wiped := memEnd s o fun old => if old = .zero then .zero else .random (s.rng.drbg.getD {})
    { t with pairs := mmod {} t.pairs i.val wiped }
  | _ => s

/-- The engines of a pair zero their operand memory (R291). -/
def zeroMem (o : Op) (s : State) : State :=
  match o.unit with
  | some (.pair i) =>
    let zeroed := memEnd s o fun _ => .zero
    { s with pairs := mmod {} s.pairs i.val zeroed }
  | _ => s

/-- An ended operation is scrubbed before its completion (R235, R291). -/
def toScrub (o : Op) (status detail : Nat) (s : State) : State :=
  wipeMem o (putOp { overwritten s o with stage := .scrubbing, status := status, detail := detail, heldCtr := none } s)

/-- An early ending waits for a scrub: a lane's (R235) or an engine pair's (R291). -/
def needsScrub (o : Op) : Bool :=
  match o.unit with
  | some (.lane _) => true
  | some (.pair _) => !o.reserved
  | _ => false

/-- An early ending (R178, R235, R263, R291): an operation on a lane or a pair goes to scrubbing, any other ends at
once. -/
def abortOp (o : Op) (status detail : Nat) (s : State) : State :=
  match o.stage with
  | .held => s
  | .scrubbing => s
  | _ =>
    if needsScrub o then toScrub o status detail s
    else endOp o status detail (commitWaiting o s)

/-- Abort every operation that `p` picks. -/
def abortWhere (p : Op → Bool) (status detail : Nat) (s : State) : State :=
  (s.ops.filter p).foldl (fun t o => match findOp t o.tag with
    | some x => abortOp x status detail t
    | none => t) s

/-- The end of one operation of a lost port or function (R91 step 3, R92, R208). -/
def loseOp (o : Op) (s : State) : State :=
  let o1 := { o with lost := true }
  match o.stage with
  | .held => writeOpEntry o1 s
  | .scrubbing => putOp { o1 with status := stDmaError, detail := 0 } s
  | _ => abortOp o1 stDmaError 0 s

/-- Lose every operation that `p` picks. -/
def loseWhere (p : Op → Bool) (s : State) : State :=
  (s.ops.filter p).foldl (fun t o => match findOp t o.tag with
    | some x => loseOp x t
    | none => t) s

end Sys2Proof.Machine
end

