-- ==== Sys2Proof/Machine/MooringOps.lean ====
section
/-! DEFINITION. The mooring engine (08 of spec/): handles, the cache, the mooring stage R204, the inbound check R206, the
window R207, and the life of a slot. -/
namespace Sys2Proof.Machine

/-! ## The cache (R215) -/

/-- The set of an index. -/
def cacheSet (i : Nat) : Nat := fld i 9 0 ^^^ fld i 19 10 ^^^ fld i 21 20

def waysOf (s : State) (i : Nat) : List CacheWay := mget [] s.moor.sets (cacheSet i)
def setWays (i : Nat) (w : List CacheWay) (s : State) : State :=
  { s with moor := { s.moor with sets := mset [] s.moor.sets (cacheSet i) w } }

/-- The mooring is cached. -/
def cached (s : State) (i : Nat) : Bool := (waysOf s i).any fun w => w.idx == i

/-- An entry with an operation in flight is locked. -/
def locked (s : State) (i : Nat) : Bool := s.ops.any fun o => (opMoors o).contains i

/-- Fills under way into the mooring's set; each has its way reserved. -/
def setFills (s : State) (i : Nat) : Nat := (s.moor.fills.filter fun j => cacheSet j == cacheSet i).length

/-- Every way of the mooring's set is locked, or reserved for a fill. -/
def setFull (s : State) (i : Nat) : Bool :=
  decide (16 ≤ (waysOf s i).length + setFills s i) && (waysOf s i).all fun w => locked s w.idx

/-- A hit makes the entry the most recently used, and a write makes it dirty. -/
def touch (i : Nat) (dirty : Bool) (s : State) : State :=
  match (waysOf s i).find? (fun w => w.idx == i) with
  | none => s
  | some w => setWays i ((waysOf s i).filter (fun x => x.idx != i) ++ [{ w with dirty := w.dirty || dirty }]) s

/-- The ways of a set once a fill has taken its way: the least recently used unlocked one, if every way is in use. -/
def evict (s : State) (i : Nat) : List CacheWay :=
  let ways := waysOf s i
  if ways.length + setFills s i < 16 then ways
  else match ways.find? (fun w => !locked s w.idx) with
    | some v => ways.filter fun w => w.idx != v.idx
    | none => ways

/-- A fill enters the cache, in the way it reserved. -/
def cacheInsert (i : Nat) (s : State) : State :=
  if cached s i then s else setWays i (waysOf s i ++ [{ idx := i, dirty := false }]) s

/-- A cache access of the mooring stage: counts a hit or a miss (R225). -/
def countAccess (i : Nat) (s : State) : State :=
  if cached s i then { s with moor := { s.moor with hits := (s.moor.hits + 1) % 2 ^ 48 } } |> touch i false
  else { s with moor := { s.moor with misses := (s.moor.misses + 1) % 2 ^ 48 } }

/-- A fill can start now: its set has a way to give, and fewer than 128 are outstanding. -/
def fillCan (s : State) (i : Nat) : Bool :=
  s.moor.fills.contains i || (!setFull s i && decide (s.moor.fills.length < 128))

/-- Start a fill (R215): one per index, which takes its way at once. -/
def startFill (i : Nat) (s : State) : State :=
  if s.moor.fills.contains i then s
  else
    let t := setWays i (evict s i) s
    { t with moor := { t.moor with fills := t.moor.fills ++ [i] } }

/-- A wait for a full set is counted once (R215, R225). -/
def countSetHold (s : State) : State := { s with moor := { s.moor with setHolds := (s.moor.setHolds + 1) % 2 ^ 48 } }

/-! ## The free list (R194, R203) -/

/-- The quarantined slots among the indices never allocated (R220). -/
def freshLost (s : State) : Nat :=
  (s.moor.slots.filter fun e => s.moor.nextFresh ≤ e.1 && e.2.state == .quarantined).length

/-- The length of the free list. -/
def freeCount (s : State) : Nat := mooringCount s.part - s.moor.nextFresh - freshLost s + s.moor.freed.length

/-- The first index from `i` on that is not quarantined. -/
def skipLost (s : State) : Nat → Nat → Nat
  | 0, i => i
  | n + 1, i => if (getMoor s i).state = .quarantined then skipLost s n (i + 1) else i

/-- Take the head of the free list. -/
def takeFree (s : State) : Option (Nat × State) :=
  let i := skipLost s s.moor.slots.length s.moor.nextFresh
  if i < mooringCount s.part then some (i, { s with moor := { s.moor with nextFresh := i + 1 } })
  else match s.moor.freed with
    | [] => none
    | j :: r => some (j, { s with moor := { s.moor with freed := r } })

/-- A released slot joins the tail of the free list. -/
def giveFree (i : Nat) (s : State) : State := { s with moor := { s.moor with freed := s.moor.freed ++ [i] } }

/-- Moorings a domain holds (R115, R203, R220): its slots out of FREE, and those whose identity was lost while it held
them. -/
def moorHeld (s : State) (d : Nat) : Nat :=
  (s.moor.slots.filter fun e => e.2.state != .free && e.2.state != .quarantined && e.2.owner == d).length +
  mget 0 s.moor.lostHeld d

/-- Slots in a state, device-wide (R222, R223). -/
def slotsIn (s : State) (st : MoorState) : Nat := (s.moor.slots.filter fun e => e.2.state == st).length

/-- The words of the DRAM windows written under memory keys that are gone: no line of them passes its check (R218). -/
def loseDram (s : State) : State :=
  { s with keeper := { s.keeper with dram := s.keeper.dram.map fun e => (e.1, ⟨0, .err⟩) } }

/-- The region becomes FREE with generation 1 everywhere (R194, R221). -/
def regionInit (s : State) : State :=
  { s with moor := { s.moor with slots := [], nextFresh := 0, freed := [], lostHeld := [], sets := [], fills := [] } }

/-- Zeroed keys, window and statistics (R210). -/
def wipe (m : Mooring) : Mooring :=
  { m with
    shareA0 := [], shareB0 := [], shareA1 := [], shareB1 := [], window := 0, winValid := false, ctr := 0, keySel := 0
    sealed_ := 0, opened := 0, authFails := 0, replays := 0, aborts := 0, dmaErrors := 0, bytes := 0, lastUse := 0 }

/-- The slot of a released mooring: FREE with its generation, at the tail of the free list, or RETIRED (R194, R210).
`readBackOk` is the read-back of a POISONED slot. -/
def releaseSlot (i : Nat) (readBackOk : Bool) (s : State) : State :=
  let m := getMoor s i
  if m.wasPoisoned && !readBackOk then
    setMoor i { wipe m with state := .quarantined, unmooring := false, wasPoisoned := false } s
    |> fun t => { t with moor := { t.moor with lostHeld := mset 0 t.moor.lostHeld m.owner (mget 0 t.moor.lostHeld m.owner + 1) } }
    |> recordDram 3 2 2
  else if m.gen < 1023 then giveFree i (setMoor i { state := .free, gen := m.gen } s)
  else setMoor i { state := .retired, gen := m.gen, owner := m.owner } s

/-! ## Poisoning (R219, R220) -/

/-- The failing lines of a fill, with their kind. -/
def badLines (l : List LineRes) : List (Nat × LineRes) :=
  (l.zipIdx).filterMap fun p => if p.1 = .mac || p.1 = .ecc then some (p.2, p.1) else none

/-- SES_LAST_POISON (R224). -/
def lastPoisonWord (i : Nat) (bad : List (Nat × LineRes)) : Nat :=
  match bad with
  | [] => i
  | (line, k) :: _ => i + shl line 22 + shl (b2n (k == .ecc)) 25

/-- A slot whose lines 0 and 7 failed: QUARANTINED, off the free list, and counted in HELD of the domain that held it
(R220). A slot that held a mooring pends DRAM_INTEGRITY. -/
def quarantine (i : Nat) (m : Mooring) (s : State) : State :=
  let s1 := { s with moor := { s.moor with
    freed := s.moor.freed.filter (fun j => j != i)
    lostHeld := if m.state = .free then s.moor.lostHeld
      else mset 0 s.moor.lostHeld m.owner (mget 0 s.moor.lostHeld m.owner + 1) } }
  let s2 := setMoor i { m with state := .quarantined } s1
  recordDram 3 2 2 (if m.state = .active then raise 5 s2 else s2)

/-- A mooring whose line failed (R219): its keys are zeroed and it is POISONED, or QUARANTINED when lines 0 and 7 both fail.
(Log entry 63: DEDUCED.) -/
def poison (i : Nat) (lines : List LineRes) (s : State) : State :=
  let bad := badLines lines
  let m := getMoor s i
  if bad.isEmpty || m.state = .quarantined then s
  else
    let m0 : Mooring := { m with shareA0 := [], shareB0 := [], shareA1 := [], shareB1 := [] }
    let s1 := if m.state = .active then { s with moor := { s.moor with lastPoison := lastPoisonWord i bad } } else s
    if bad.any (fun p => p.1 == 0) && bad.any (fun p => p.1 == 7) then quarantine i m0 s1
    else if m.state = .active then recordDram 2 1 1 (raise 5 (setMoor i { m0 with state := .poisoned } s1))
    else s1

/-! ## The mooring stage (R204) -/

/-- The nonce of an outbound counter (R205). -/
def nonceOf (salt ctr : Nat) : Bytes := le 4 salt ++ be 8 ctr

/-- The counter, salt and key area that an operation takes when R204 lets it continue. -/
def stageTake (o : Op) (h side : Nat) (s : State) : Op × State :=
  let i := h % 2 ^ 22
  let m := getMoor s i
  if side = 0 then
    ({ o with ctr := some m.ctr, salt := m.salt, area := m.keySel, rekeyDue := decide (m.rekeyAt ≤ m.ctr),
              moored := true, result := nonceOf m.salt m.ctr },
     touch i true (setMoor i { m with ctr := m.ctr + 1 } s))
  else if side = 1 then ({ o with areaIn := m.keySel, moored := true }, touch i false s)
  else ({ o with moored := true, area := m.keySel }, touch i false s)

/-! ## The inbound check and the window (R206, R207) -/

/-- An operation has not yet passed the check of R206. -/
def inboundPending (o : Op) : Bool :=
  (dOpcode o.desc == 2 || dOpcode o.desc == 3) && o.heldCtr.isNone && o.pass == 1 &&
  (match o.stage with | .scrubbing => false | .held => false | _ => true)

/-- Every inbound operation admitted earlier on the mooring has passed the check of R206, or ended (R208). -/
def inboundTurn (s : State) (o : Op) : Bool :=
  !(s.ops.any fun p => p.seqNo < o.seqNo && inboundPending p && dRef p.desc % 2 ^ 22 == dRef o.desc % 2 ^ 22)

/-- R206 for nonce bytes `n`. -/
def inboundCheck (s : State) (o : Op) (n : Bytes) : StageAns :=
  let i := dRef o.desc % 2 ^ 22
  let m := getMoor s i
  let c := unbe (slice n 4 8)
  if leAt n 0 4 ≠ m.salt || 2 ^ 40 ≤ c then some (stAuthFail, 0)
  else if m.winValid && c + 1024 ≤ m.ctr then some (stReplay, 0)
  else if m.winValid && c ≤ m.ctr && nbit m.window (m.ctr - c) then some (stReplay, 0)
  else if s.ops.any (fun p => p.tag != o.tag && (opMoors p).contains i && p.heldCtr == some c && p.areaIn == o.areaIn)
    then some (stReplay, 0)
  else none

/-- R207 once the inbound tag has verified: the window of the mooring whose key area the operation used. -/
def markWindow (m : Mooring) (area c : Nat) : Mooring :=
  if area ≠ m.keySel then m
  else if !m.winValid then { m with ctr := c, winValid := true, window := 1 }
  else if m.ctr < c then { m with ctr := c, window := (m.window * 2 ^ (c - m.ctr)) % 2 ^ 1024 ||| 1 }
  else if m.ctr - c < 1024 then { m with window := setBit m.window (m.ctr - c) }
  else m

/-- Mark the counter an operation holds. -/
def windowUpdate (o : Op) (s : State) : State :=
  match o.heldCtr with
  | none => s
  | some c => modMoor (dRef o.desc % 2 ^ 22) (fun m => markWindow m o.areaIn c) s

/-! ## The record as MOOR_QUERY writes it (R196, R199, R213) -/

def moorStateCode : MoorState → Nat
  | .free => 0 | .active => 1 | .retired => 2 | .poisoned => 3 | .quarantined => 4

def moorHeader (m : Mooring) : Bytes :=
  le 1 (moorStateCode m.state) ++ le 1 m.alg ++ le 1 m.dir ++ le 1 m.tagLen ++ le 2 m.gen ++ le 1 m.owner ++
  le 1 (m.pinQ + shl (b2n m.pinValid) 7) ++ le 4 m.salt ++ le 1 m.mflags ++
  le 1 (m.keySel + shl (b2n m.winValid) 1) ++ zeros 2 ++ le 8 m.ctr ++ le 8 m.rekeyAt ++ le 8 m.moorTime ++
  le 8 m.rekeyTime ++ le 4 m.rekeyCount ++ zeros 12

def moorStats (m : Mooring) : Bytes :=
  le 8 m.sealed_ ++ le 8 m.opened ++ le 8 m.authFails ++ le 8 m.replays ++ le 8 m.aborts ++ le 8 m.dmaErrors ++
  le 8 m.bytes ++ le 8 m.lastUse

def moorRecord (m : Mooring) : Bytes := moorHeader m ++ moorStats m ++ le 128 m.window

/-- The shares of a mooring's key area (R195). -/
def areaOf (m : Mooring) (area : Nat) : Shares :=
  if area = 0 then { a := m.shareA0, b := m.shareB0 } else { a := m.shareA1, b := m.shareB1 }

/-- The key of a mooring's area: share A XOR share B (R195). -/
def keyOf (m : Mooring) (area : Nat) : Bytes := (areaOf m area).value

/-- Key length of a mooring algorithm (R197), or 0 for a value not listed. -/
def moorKeyLen (alg : Nat) : Nat :=
  if alg = 0x01 || alg = 0x11 then 16 else if alg = 0x02 || alg = 0x12 then 24
  else if alg = 0x03 || alg = 0x13 then 32 else 0

/-- A TAG_LEN that R197 allows. -/
def moorTagOk (alg t : Nat) : Bool := if alg < 16 then t == 16 else t == 8 || t == 16

end Sys2Proof.Machine
end

