-- ==== Sys2Proof/Machine/KeyOps.lean ====
section
/-! DEFINITION. The key store seen by the data plane (14 of spec/): resolution of a key reference, and usage policies. -/
namespace Sys2Proof.Machine

/-- A slot whose image entry is gone. -/
def KeySlot.unimage (k : KeySlot) : KeySlot := { k with imaged := false, img := {} }

def getKey (s : State) (n : Nat) : KeySlot := mget {} s.keys.slots n
def setKey (n : Nat) (k : KeySlot) (s : State) : State :=
  { s with keys := { s.keys with slots := mset {} s.keys.slots n k } }

/-- A slot's new record is not yet complete, so that it carries no MAC (R359). -/
def keyPending (s : State) (n : Nat) : Bool := recordWaits s 1 n

/-- A slot holds an ACTIVE key: a record whose MAC verifies (R344). -/
def keyActive (s : State) (n : Nat) : Bool := (getKey s n).st == .active && !keyPending s n

/-- No record of the key waits to be programmed any more. -/
def dropKeyJobs (n : Nat) (s : State) : State :=
  { s with flash := { s.flash with jobs := s.flash.jobs.filter fun j => !(j.kind == 1 && j.id == n) } }

/-- A key's end (R356): a tombstone, whose programming zeroes the record's copies, and the slot EMPTY; its image entry is
scrubbed once no admitted operation holds the key. The entry of the change has just been staged. -/
def eraseKey (n : Nat) (s : State) : State :=
  let s1 := setKey n {} (appendUndo 2 n 1 [] (.key (getKey s n) (s.log.nextSeq - 1)) (dropKeyJobs n s))
  if (getKey s n).imaged then { s1 with keys := { s1.keys with scrubs := s1.keys.scrubs ++ [n] } } else s1

/-- The slot of a key reference (R170). -/
def refSlot (r : Nat) : Nat := r % 65536

/-! The policy block (R347). -/
/-- Log entry 91: DEDUCED. -/
def usageBit (k : KeySlot) (b : Nat) : Bool := nbit (leAt k.policy 0 4) b
def modeBit (k : KeySlot) (m : Nat) : Bool := nbit (byteAt k.policy 4) (m - 1)
def hashBit (k : KeySlot) (a : Nat) : Bool := nbit (byteAt k.policy 5) (a % 16 - 1)
def pinBit (k : KeySlot) (f : Nat) : Bool := nbit (byteAt k.policy 6) (if f = 0 then 0 else f - 2)
def quorumM (k : KeySlot) : Nat := byteAt k.policy 7
def quorumRoles (k : KeySlot) : Nat := leAt k.policy 8 2
def quorumExport (k : KeySlot) : Bool := nbit (byteAt k.policy 10) 0
def quorumDestroy (k : KeySlot) : Bool := nbit (byteAt k.policy 10) 1

/-- A key reference resolves for a domain, or gives STALE_HANDLE or NOT_OWNER (R102, R344). (Log entry 88: DEDUCED.) -/
def keyResolve (s : State) (dom r : Nat) : StageAns :=
  let k := getKey s (refSlot r)
  if !keyActive s (refSlot r) then some (stStale, 0)
  else if k.owner ≠ dom then some (stNotOwner, 0)
  else none

/-- The key slots a descriptor names. -/
def keyRefs (d : Bytes) : List Nat :=
  (if refIsKey d || (refIsKeyOr0 d && dRef d != 0) then [dRef d] else []) ++
  (if dOpcode d = 8 then [dRef2 d] else []) ++
  (if (dOpcode d = 0x10 || dOpcode d = 0x11) && dRef2 d != 0 then [dRef2 d] else [])

/-- The first of the descriptor's key references that does not resolve (R191 step 5). -/
def keysResolve (s : State) (dom : Nat) : List Nat → StageAns
  | [] => none
  | r :: rest => match keyResolve s dom r with
    | some a => some a
    | none => keysResolve s dom rest

/-- Key slots that a domain owns (R108, R115). -/
def keysHeld (s : State) (d : Nat) : Nat :=
  (s.keys.slots.filter fun e => e.2.st != .empty && e.2.owner == d).length

/-- ACTIVE slots (R362), and DAMAGED ones (R364). -/
def keysActive (s : State) : Nat := (s.keys.slots.filter fun e => keyActive s e.1).length
def keysDamaged (s : State) : Nat := (s.keys.slots.filter fun e => e.2.st == .damaged).length

/-- The usage bit that a PK opcode needs (R349). -/
def pkUsage (o : Nat) : Nat :=
  match o with
  | 0x20 => 8 | 0x21 => 9 | 0x22 => 10 | 0x23 => 12 | 0x24 => 11 | 0x25 => 13 | _ => 14

/-- R191 step 6 for the keys a descriptor names (R242, R245, R257, R258, R264, R280, R349): BAD_PARAMETER with DETAIL 4
for a key of the wrong kind, POLICY_DENIED by its usage policy. (Log entry 67: DEDUCED.) -/
def keyPolicy (s : State) (d : Bytes) : StageAns :=
  let o := dOpcode d
  let a := dAlg d
  let k := getKey s (refSlot (dRef d))
  let k2 := getKey s (refSlot (dRef2 d))
  if o = 4 then
    if k.kind ≠ 1 then (if k.kind = 2 then some (stBadParameter, 4) else some (stPolicyDenied, 0))
    else if usageBit k (if a < 128 then 1 else 2) && modeBit k (a % 16) then none else some (stPolicyDenied, 0)
  else if o = 6 then
    if k.kind = 2 then some (stBadParameter, 4)
    else if usageBit k (if a < 128 then 3 else 4) && hashBit k a then none else some (stPolicyDenied, 0)
  else if o = 7 then
    if k.kind = 2 then some (stBadParameter, 4)
    else if usageBit k 5 && hashBit k a then none else some (stPolicyDenied, 0)
  else if o = 8 then
    let i := a % 16
    let x := a / 16
    if k.kind ≠ (if i = 4 then 1 else 2) || k2.kind ≠ (if x = 4 then 1 else 2) then some (stBadParameter, 4)
    else if usageBit k 6 && pinBit k i && usageBit k2 7 && pinBit k2 x then none else some (stPolicyDenied, 0)
  else if o = 0x10 || o = 0x11 then
    if dRef2 d = 0 || usageBit k2 0 then none else some (stPolicyDenied, 0)
  else if isPkOp d && dRef d ≠ 0 then
    if k.alg ≠ a || dRef2 d ≠ 0 then some (stBadParameter, 4)
    else if usageBit k (pkUsage o) then none else some (stPolicyDenied, 0)
  else none

/-- A key named by a descriptor has no image entry yet, so the descriptor waits at its queue's head (R350). -/
def keyNotImaged (s : State) (d : Bytes) : Bool :=
  (keyRefs d).any fun r => keyActive s (refSlot r) && !(getKey s (refSlot r)).imaged

end Sys2Proof.Machine
end

