-- ==== Sys2Proof/Machine/CurveOps.lean ====
section
/-! DEFINITION. Curve slots (12 of spec/): which curve an operation uses, and the checks of R305 and R306. -/
namespace Sys2Proof.Machine

def getCurve (s : State) (i : Nat) : CurveSlot := mget {} s.curves i
def setCurve (i : Nat) (c : CurveSlot) (s : State) : State := { s with curves := mset {} s.curves i c }

/-- The slot's entry in a policy bank. -/
def curveSel (b : Bank) (i : Nat) : CurveSel := mget {} b.curves i

/-- A copy of a slot. -/
def curveCopy (s : State) (i c : Nat) : CurveCopy := if c = 0 then (getCurve s i).copy0 else (getCurve s i).copy1

/-- The 472-byte body a copy holds, or none while it is empty (R299). -/
def copyBody (i : Nat) : CurveCopy → Option Bytes
  | .loaded b => some b
  | .asReset => if i < 5 then some (builtinBody i) else none

/-- Byte lengths of the field prime of the built-in curves (R299). -/
def builtinL (i : Nat) : Nat := match i with | 0 => 32 | 1 => 48 | 2 => 66 | 3 => 32 | _ => 48

/-- L of the curve a copy holds (R304). -/
def copyL (i : Nat) : CurveCopy → Nat
  | .loaded b => byteAt b 2
  | .asReset => builtinL i

/-- LN of the curve a copy holds (R304); on the built-in curves it equals L (R277). -/
def copyLn (i : Nat) : CurveCopy → Nat
  | .loaded b => byteAt b 3
  | .asReset => builtinL i

/-- P_BITS of the curve a copy holds. -/
def copyBits (i : Nat) : CurveCopy → Nat
  | .loaded b => leAt b 0 2
  | .asReset => match i with | 0 => 256 | 1 => 384 | 2 => 521 | 3 => 256 | _ => 384

/-- The copy of slot `i` that bank `bank` names (R301). -/
def liveCopy (s : State) (bank i : Nat) : CurveCopy := curveCopy s i (curveSel (bankOf s bank) i).copy

/-- The curve slot of an operation: the key record's, or REF2's (R280). -/
def opCurve (s : State) (d : Bytes) : Nat :=
  if refIsKeyOr0 d && dRef d ≠ 0 then (getKey s (refSlot (dRef d))).curveSlot else dRef2 d % 64

/-- L and LN for a PK operation under the bank of its admission. -/
def opL (s : State) (bank : Nat) (d : Bytes) : Nat := copyL (opCurve s d) (liveCopy s bank (opCurve s d))
def opLn (s : State) (bank : Nat) (d : Bytes) : Nat := copyLn (opCurve s d) (liveCopy s bank (opCurve s d))

/-- The curve body that an operation computes with, for the functions of Config. -/
def opCurveBody (s : State) (bank : Nat) (d : Bytes) : Bytes :=
  (copyBody (opCurve s d) (liveCopy s bank (opCurve s d))).getD []

/-- R280, R299: ALG 0x01 and 0x02 take a slot that the bank marks valid, the key record's or REF2's; REF2 is zero
otherwise. -/
def curveRefOk (s : State) (bank : Nat) (d : Bytes) : Bool :=
  if !isPkOp d then true
  else if dAlg d = 1 || dAlg d = 2 then (curveSel (bankOf s bank) (opCurve s d)).valid
  else dRef d != 0 || dRef2 d == 0

/-- The fingerprint of a body: SHA-256 with NAME zero (R303). -/
def curveFingerprint (b : Bytes) : Bytes := primBytes (.hash 1) 32 [b.take 8 ++ zeros 32 ++ b.drop 40]

/-! ## The checks of R306 -/

/-- `n - 1 = d · 2^s` with d odd. -/
def splitTwo : Nat → Nat → Nat × Nat
  | 0, d => (d, 0)
  | fuel + 1, d => if d % 2 = 0 && d ≠ 0 then let r := splitTwo fuel (d / 2); (r.1, r.2 + 1) else (d, 0)

/-- Some repeated square of `x` reaches n - 1. -/
def reachesMinusOne (n : Nat) : Nat → Nat → Bool
  | 0, _ => false
  | r + 1, x => x == n - 1 || reachesMinusOne n r (x * x % n)

/-- One Miller–Rabin round with base `b`. -/
def mrRound (n b : Nat) : Bool :=
  let a := b % (n - 3) + 2
  let d := splitTwo 600 (n - 1)
  let x := powMod 600 a d.1 n
  x == 1 || reachesMinusOne n d.2 x

/-- 64 Miller–Rabin rounds with bases from SHAKE256 of the body (R306). -/
def millerRabin (body : Bytes) (n : Nat) : Bool :=
  let bases := primBytes (.hash 0x22) (64 * 72) [body]
  n == 2 || n == 3 || (n % 2 == 1 && 3 < n && (List.range 64).all fun i => mrRound n (unbe (slice bases (72 * i) 72)))

/-- p^k ≡ 1 mod n for some k from 1 to `k`. -/
def smallEmbedding (p n : Nat) : Nat → Bool
  | 0 => false
  | k + 1 => powMod 600 (p % n) (k + 1) n == 1 % n || smallEmbedding p n k

/-- R305: the LOAD body's form. -/
def curveBodyOk (b : Bytes) : Bool :=
  let p := unbe (slice b 40 72)
  let n := unbe (slice b 400 72)
  let name := slice b 8 32
  let len := (name.takeWhile fun c => c != 0).length
  b.length == 472 && leAt b 5 3 == 0 &&
  byteAt b 2 == (bitLen 576 p + 7) / 8 && byteAt b 3 == (bitLen 576 n + 7) / 8 &&
  leAt b 0 2 == bitLen 576 p && 1 ≤ len && (name.take len).all (fun c => 0x20 ≤ c.toNat && c.toNat ≤ 0x7E) &&
  allZero (name.drop len) && byteAt b 3 ≤ byteAt b 2 + 1

/-- The reason code of the first check of R306 that the body fails after check 1, or 0. -/
def curveReason (b : Bytes) : Nat :=
  let bits := leAt b 0 2
  let p := unbe (slice b 40 72)
  let a := unbe (slice b 112 72)
  let c := unbe (slice b 184 72)
  let gx := unbe (slice b 256 72)
  let gy := unbe (slice b 328 72)
  let n := unbe (slice b 400 72)
  let h := byteAt b 4
  let hn : Int := h * n
  let t : Int := hn - p - 1
  if bits < 160 || 521 < bits then 2
  else if !millerRabin b p then 3
  else if p ≤ a || p ≤ c then 4
  else if (4 * a * a * a + 27 * c * c) % p = 0 then 5
  else if p ≤ gx || p ≤ gy || gy * gy % p ≠ (gx * gx * gx + a * gx + c) % p then 6
  else if !millerRabin b n then 7
  else if ecMul p a 600 n (some (gx, gy)) ≠ none then 8
  else if h = 0 || 8 < h || 4 * (p : Int) < t * t then 9
  else if n = p then 10
  else if smallEmbedding p n 20 then 11
  else 0

/-- A key record names the slot (R306 check 1, R343). -/
def curveInUse (s : State) (i : Nat) : Bool :=
  s.keys.slots.any fun e => e.2.st != .empty && (e.2.alg == 1 || e.2.alg == 2) && e.2.curveSlot == i

end Sys2Proof.Machine
end

