-- ==== Sys2Proof/Machine/Params.lean ====
section
/-! DEFINITION. What a parameter block and the lengths of an operation must hold before it runs (R171, R200 to R202, R237,
R242 to R244, R256 to R259, R276, R279, R280). -/
namespace Sys2Proof.Machine

/-! ## CIPHER (R171, R242, R243) -/

def cipherMode (d : Bytes) : Nat := dAlg d % 16
def cipherDec (d : Bytes) : Bool := 128 ≤ dAlg d
def isAead (m : Nat) : Bool := m == 2 || m == 4

/-- The bytes of CIPHER data: input without its associated data and, on AEAD decryption, its tag. -/
def cipherData (d pb : Bytes) : Nat :=
  let body := dInLen d - dSplit d
  if cipherDec d then body - byteAt pb 9 else body

/-- DETAIL of a CIPHER block that breaks R242, or 0. -/
def cipherBad (d pb : Bytes) : Nat :=
  let b := pbBody pb
  let m := cipherMode d
  let iv := byteAt b 0
  let t := byteAt b 1
  let data := cipherData d pb
  let ivOk := if m = 4 then iv == 12 else if m = 2 then 7 ≤ iv && iv ≤ 13 else iv == 16
  let tOk := if m = 4 then t == 16 else if m = 2 then 4 ≤ t && t ≤ 16 && t % 2 == 0 else t == 0
  if b.length ≠ 24 || !ivOk || !tOk || leAt b 2 6 ≠ 0 || !allZero ((b.drop 8).drop iv) then 2
  else if cipherDec d && isAead m && dInLen d - dSplit d < t then 3
  else if m = 1 && data % 16 ≠ 0 then 3
  else if m = 2 && 2 ^ (8 * (15 - iv)) ≤ data then 3
  else if cipherDec d && isAead m && 65536 < data then 3
  else 0

/-- Output length of CIPHER. -/
def cipherNeed (d pb : Bytes) : Nat :=
  if isAead (cipherMode d) && !cipherDec d then cipherData d pb + byteAt pb 9 else cipherData d pb

/-! ## KDF (R259) and PIN_TRANSLATE (R244) -/

def kdfBad (d pb : Bytes) : Nat :=
  let b := pbBody pb
  let la := leAt b 0 2
  let lb := leAt b 2 2
  if (if dAlg d < 16 then 128 else 255) < la || 1024 < lb || leAt b 4 4 ≠ 0 || pb.length ≠ 16 + pad8 la + pad8 lb ||
      !allZero ((slice b 8 (pad8 la)).drop la) || !allZero ((slice b (8 + pad8 la) (pad8 lb)).drop lb) then 2
  else 0

/-- Nibble `i` of packed BCD, high half first. -/
def nibble (b : Bytes) (i : Nat) : Nat := if i % 2 = 0 then byteAt b (i / 2) / 16 else byteAt b (i / 2) % 16

def pinBad (pb : Bytes) : Nat :=
  let b := pbBody pb
  let n := byteAt b 0
  let pan := slice b 8 10
  if b.length ≠ 24 || n < 12 || 19 < n || leAt b 1 7 ≠ 0 || leAt b 18 6 ≠ 0 ||
      !((List.range 20).all fun i => if i < n then nibble pan i ≤ 9 else nibble pan i == 15) then 2
  else 0

/-! ## MOOR and REKEY (R200 to R202, R209) -/

def mAlg (b : Bytes) : Nat := byteAt b 0
def mDir (b : Bytes) : Nat := byteAt b 1
def mTagLen (b : Bytes) : Nat := byteAt b 2
def mKeySrc (b : Bytes) : Nat := byteAt b 3
def mFlags (b : Bytes) : Nat := byteAt b 4
def mPinQ (b : Bytes) : Nat := byteAt b 5
def mSalt (b : Bytes) : Nat := leAt b 8 4
def mRekeyAt (b : Bytes) : Nat := leAt b 16 8

/-- The zero fields and ranges of R200 and R202, DETAIL 2. -/
def moorBodyBad (b : Bytes) : Bool :=
  let src := mKeySrc b
  moorKeyLen (mAlg b) == 0 || 1 < mDir b || !moorTagOk (mAlg b) (mTagLen b) || 2 < src ||
  15 < mFlags b || 63 < mPinQ b || (!nbit (mFlags b) 1 && mPinQ b != 0) ||
  leAt b 6 2 != 0 || leAt b 12 4 != 0 || leAt b 24 8 != 0 ||
  (nbit (mFlags b) 0 && (mSalt b != 0 || mDir b == 1)) || (nbit (mFlags b) 3 && mDir b == 0) ||
  2 ^ 40 < mRekeyAt b || (mDir b == 1 && mRekeyAt b != 0) ||
  (b.length != if src == 2 then 136 else 32) ||
  (src == 2 && (32 < byteAt b 32 || 64 < byteAt b 33 || leAt b 34 6 != 0 ||
    !allZero ((slice b 40 32).drop (byteAt b 32)) || !allZero ((slice b 72 64).drop (byteAt b 33))))

/-- IN_LEN as R201 asks. -/
def moorInputBad (d b : Bytes) : Bool :=
  let k := moorKeyLen (mAlg b)
  match mKeySrc b with
  | 0 => dInLen d != k
  | 1 => dInLen d != k + 8
  | _ => dInLen d < 16 || 64 < dInLen d

/-- The statuses of R202 and R209 for a MOOR or REKEY block, in that order. -/
def moorBad (s : State) (o : Op) (pb : Bytes) : StageAns :=
  let b := pbBody pb
  let rekey := dOpcode o.desc == 0x11
  let m := getMoor s (dRef o.desc % 2 ^ 22)
  if moorBodyBad b then some (stBadParameter, 2)
  else if rekey && (nbit (mFlags b) 1 || mPinQ b != 0) then some (stBadParameter, 2)
  else if moorInputBad o.desc b then some (stBadParameter, 3)
  else if (mKeySrc b == 1) != (dRef2 o.desc != 0) then some (stBadParameter, 4)
  else if rekey && (mAlg b != m.alg || mDir b != m.dir || mTagLen b != m.tagLen) then some (stBadParameter, 4)
  else if mKeySrc b == 0 && !nbit (effPerms (bankOf s o.bank) o.dom) 2 then some (stPolicyDenied, 0)
  else none

/-! ## PK blocks (R276, R279) -/

def pkPubLen (pb : Bytes) : Nat := leAt pb 8 2
def pkBlobN (pb : Bytes) : Nat := byteAt pb 10
def pkCtxLen (pb : Bytes) : Nat := byteAt pb 11
def pkE (pb : Bytes) : Nat := leAt pb 12 4
def pkPub (pb : Bytes) : Bytes := slice pb 16 (pkPubLen pb)
def pkBlob (pb : Bytes) : Bytes := slice pb (16 + pad8 (pkPubLen pb)) 128
def pkCtx (pb : Bytes) : Bytes := slice pb (16 + pad8 (pkPubLen pb) + 128 * pkBlobN pb) (pkCtxLen pb)

/-- Which fields the case uses: PUB, BLOB, E (R276). -/
def pkWants (d : Bytes) : Bool × Bool × Bool :=
  let o := dOpcode d
  let z := dRef d == 0
  (o == 0x22 || (z && (o == 0x21 || o == 0x23 || o == 0x26)),
   z && (o == 0x20 || o == 0x22 || o == 0x24),
   z && o == 0x26)

/-- Schemes with contexts (R276). -/
def hasCtx (a : Nat) : Bool := a == 5 || (0x28 ≤ a && a ≤ 0x2A)

def pkBad (d pb : Bytes) : Bool :=
  let w := pkWants d
  let n := pkPubLen pb
  let c := pkCtxLen pb
  let ctxOk := hasCtx (dAlg d) && (dOpcode d == 0x20 || dOpcode d == 0x21)
  2592 < n || 1 < pkBlobN pb ||
  pb.length != 16 + pad8 n + 128 * pkBlobN pb + pad8 c ||
  (w.1 != (n != 0)) || (w.2.1 != (pkBlobN pb == 1)) || (c != 0 && !ctxOk) ||
  (if w.2.2 then pkE pb % 2 == 0 || pkE pb < 3 else pkE pb != 0) ||
  !allZero ((slice pb 16 (pad8 n)).drop n) ||
  !allZero ((slice pb (16 + pad8 n + 128 * pkBlobN pb) (pad8 c)).drop c)

/-- The blob key of a domain: drawn at boot and at each release (R278). -/
def blobKey (s : State) (d : Nat) : Bytes :=
  slice ((getDom s d).blobKey.getD (slice s.boot.blobKeys (32 * d) 32)) 0 32

/-- The secret of a blob, and its tag (R278). -/
def blobSecret (s : State) (d : Nat) (blob : Bytes) (n : Nat) : Bytes :=
  (gcmCtr (blobKey s d) (slice blob 16 12) (slice blob 28 80)).take n
def blobTag (s : State) (d : Nat) (blob : Bytes) : Bytes :=
  gcmTag 16 (blobKey s d) (slice blob 16 12) (slice blob 0 16) (slice blob 28 80)

/-- R279: the checks of a blob, in order. -/
def blobCheck (s : State) (o : Op) (blob : Bytes) : StageAns :=
  let slot := byteAt blob 2
  let weier := byteAt blob 1 == 1 || byteAt blob 1 == 2
  let epoch := if weier then (getCurve s slot).epoch else 0
  if leAt blob 4 2 ≠ o.dom then some (stNotOwner, 0)
  else if byteAt blob 0 ≠ 1 || leAt blob 8 4 ≠ s.backup.bootCount || leAt blob 12 4 ≠ epoch || byteAt blob 3 ≠ 0 ||
      leAt blob 6 2 ≠ 0 || leAt blob 108 4 ≠ 0 || slice blob 112 16 ≠ blobTag s o.dom blob then some (stStale, 0)
  else if byteAt blob 1 ≠ dAlg o.desc || (weier && slot ≠ dRef2 o.desc % 64) then some (stBadParameter, 4)
  else none

/-! ## Lengths that need DETAIL 3 (R236, R237, R256 to R258, R280, R281, R333) -/

/-- The modulus length of an RSA operation. -/
def rsaK (o : Op) : Nat := if dRef o.desc = 0 then pkPubLen o.pb else o.keyPub.length - 4

/-- The public key an operation takes: the record's or the block's. -/
def opPub (o : Op) : Bytes := if dRef o.desc = 0 then pkPub o.pb else o.keyPub

/-- A length that disagrees completes with BAD_PARAMETER and DETAIL 3 before anything runs. -/
def lengthBad (s : State) (o : Op) : Bool :=
  let d := o.desc
  let a := dAlg d
  let body := dInLen d - dSplit d
  let m := getMoor s (dRef d % 2 ^ 22)
  match dOpcode d with
  | 1 => 16 ≤ m.alg && 16777215 < body
  | 2 => body < m.tagLen || (16 ≤ m.alg && 16777215 < body - m.tagLen)
  | 3 => body < m.tagLen
  | 5 => (a == 0x21 || a == 0x22) && 65536 < dOutLen d
  | 6 => 128 ≤ a && (dAuxLen d < 16 || hashLen a < dAuxLen d)
  | 7 => dOutLen d == 0 || (if a < 16 then 255 * hashLen a else 65536) < dOutLen d
  | 0x20 => a == 1 && (dInLen d == 0 || 64 < dInLen d)
  | 0x21 => (a == 1 && (dInLen d == 0 || 64 < dInLen d)) || dAuxLen d != sigLen a o.cLn ||
      (dRef d == 0 && pkPubLen o.pb != pubLen a o.cL)
  | 0x22 => pkPubLen o.pb != pubLen a o.cL
  | 0x23 => dRef d == 0 && pkPubLen o.pb != pubLen a o.cL
  | 0x24 => dInLen d != ctLen a
  | 0x25 => dInLen d != o.keyPub.length - 4
  | 0x26 => dInLen d != rsaK o || rsaK o < 128 || 512 < rsaK o
  | 0x30 => dOutLen d == 0 || 16777216 < dOutLen d
  | _ => false

/-- The block of an admitted operation, judged by its opcode. -/
def blockAns (s : State) (o : Op) (pb : Bytes) : StageAns :=
  let d := o.desc
  let two (n : Nat) : StageAns := if n = 0 then none else some (stBadParameter, n)
  match dOpcode d with
  | 4 => match cipherBad d pb with
    | 0 => if dOutLen d < cipherNeed d pb then some (stBadParameter, 1) else none
    | n => some (stBadParameter, n)
  | 7 => two (kdfBad d pb)
  | 8 => two (pinBad pb)
  | 0x10 => moorBad s o pb
  | 0x11 => moorBad s o pb
  | _ =>
    if pkBad d pb then some (stBadParameter, 2)
    else if (pkWants d).2.1 then
      match blobCheck s o (pkBlob pb) with
      | some a => some a
      | none => none
    else if dOpcode d = 0x26 && dOutLen d < pkPubLen pb then some (stBadParameter, 1)
    else none

end Sys2Proof.Machine
end

