-- ==== Sys2Proof/Machine/QueueOps.lean ====
section
/-! DEFINITION. The queue engine (06 of spec/): which queues are served, polling intervals, check_doorbell, fetches and
their rollback, the logging of host register writes, and AER counts. -/
namespace Sys2Proof.Machine

/-! ## What is served (R105, R136, R142) -/

/-- The device is LOCKED: the lifecycle state is LOCKED or ZEROISED (R8). -/
def devLocked (s : State) : Bool := s.lifecycle == .locked || s.lifecycle == .zeroised

/-- The owner domain, once commissioning has fixed the owner port (R104). Port 4 stands for none. -/
def isOwner (s : State) (d : Nat) : Bool := decide (s.ownerPort < 4) && d == 64 * s.ownerPort

/-- A domain's admin queue is served (R105). -/
def adminServed (s : State) (d : Nat) : Bool := queueOn s d 64 && (domOn s d || (devLocked s && isOwner s d))

/-- A queue pair is ON, or an admin queue is served. -/
def polled (s : State) (d q : Nat) : Bool := if q = 64 then adminServed s d else queueOn s d q

/-- The domains of a port. -/
def portDoms (n : Nat) : List Nat := (List.range 64).map fun f => 64 * n + f

/-- The queues of a domain, the admin queue (64) last. -/
def allQueues : List Nat := List.range 65

/-- The queues of a port that its loop polls. -/
def polledQueues (s : State) (n : Nat) : List (Nat × Nat) :=
  ((portDoms n).map fun d => (allQueues.filter (polled s d)).map fun q => (d, q)).flatten

/-- The interval a queue contributes, in units of 250 ns (R139). -/
def classInterval (s : State) (d q : Nat) : Nat :=
  match effClass s d q with
  | 0 => 1
  | 1 => (getPort s (domPort d)).w250
  | _ => 256

/-- The port interval, in units of 250 ns (R140). -/
def portInterval (s : State) (n : Nat) : Nat :=
  (polledQueues s n).foldl (fun m p => min m (classInterval s p.1 p.2)) 256

/-! ## Errors and round trips (R89, R90, R100, R143, R164) -/

/-- An error that PCIe classes as uncorrectable and not fatal, reported by a function through AER. -/
def aerUncorr (d : Nat) (s : State) : State :=
  let p := getPort s (domPort d)
  let s1 := modFunc d (fun f => { f with aerNonFatal := f.aerNonFatal + 1 }) s
  recCluster 0 1 6 (setPort (domPort d) { p with events := setBit p.events 6 } s1)

/-- A round trip the port has measured: the last 1,024 are kept (R164). -/
def noteRtt (n rtt : Nat) (s : State) : State :=
  modPort n (fun p => { p with rtts := (rtt :: p.rtts).take 1024 }) s

/-- A failed beacon or doorbell read (R143). -/
def noteReadErr (d : Nat) (s : State) : State :=
  aerUncorr d (modPort (domPort d) (fun p => { p with readErr := satAdd 65535 p.readErr 1 }) s)

/-! ## Fetches (R147, R148, R165) -/

/-- Descriptors of a queue held fetched, handed off and not taken, or on their way. -/
def fetchHeld (s : State) (d q : Nat) : Nat :=
  (getQueue s d q).fetched.length +
  (if q = 64 then (s.engine.handoff.filter fun a => a.dom == d).length else 0) +
  ((s.engine.fetches.filter fun f => f.dom == d && f.q == q && !f.stale).map Fetch.count).foldl (· + ·) 0

/-- How many descriptors the next read of a queue covers. -/
def fetchCount (s : State) (d q : Nat) : Nat :=
  let x := getQueue s d q
  let size := 2 ^ x.sqLog2
  let dist := (x.sqTail + size - x.fetchPtr) % size
  min (min dist (size - x.fetchPtr)) (min (min ((getPort s (domPort d)).mrrs / 64) 64) (64 - fetchHeld s d q))

/-- Issue one descriptor read; FETCH_PTR advances. -/
def fetchOne (d q : Nat) (s : State) : State :=
  let n := fetchCount s d q
  if n = 0 || !polled s d q || !portUp s (domPort d) then s
  else
    let x := getQueue s d q
    let e := s.engine
    emit (.hostRead d (x.sqBase + 64 * x.fetchPtr) (64 * n))
      (setQueue d q { x with fetchPtr := (x.fetchPtr + n) % 2 ^ x.sqLog2 }
        { s with engine := { e with fetches := e.fetches ++ [⟨d, q, x.fetchPtr, n, false⟩] } })

/-- Issue every descriptor read that may be issued now. -/
def issueFetches : Nat → Nat → Nat → State → State
  | 0, _, _, s => s
  | n + 1, d, q, s => issueFetches n d q (fetchOne d q s)

/-- Log entries 48, 50: DESIGN CHOICE, DEDUCED. -/
def fetchAll (d q : Nat) (s : State) : State := issueFetches 64 d q s

/-- Descriptors at a queue's head whose read failed complete in their turn (R89, R107, R149). -/
def settleQueue (d q : Nat) : Nat → State → State
  | 0, s => s
  | n + 1, s =>
    let x := getQueue s d q
    match x.fetched with
    | f :: r => if f.failed then
        settleQueue d q n (rejectDesc d q f.idx stDmaError 1 0 (setQueue d q { x with fetched := r } s)) else s
    | [] => s

/-- The same of a domain's admin descriptors in the hand-off ring. -/
def settleAdmin (d : Nat) : Nat → State → State
  | 0, s => s
  | n + 1, s =>
    let e := s.engine
    match e.handoff.find? fun a => a.dom == d with
    | none => s
    | some a => if a.failed then
        settleAdmin d n (writeEntry d 64 a.idx 0 stDmaError 1 0 0 0 0 [] 0
          { s with engine := { e with handoff := e.handoff.erase a } }) else s

/-- The oldest descriptor fetched, or being fetched, and not admitted. -/
def oldestFetched (s : State) (d q : Nat) : Option Nat :=
  let handed := if q = 64 then s.engine.handoff.find? fun a => a.dom == d else none
  match handed, (getQueue s d q).fetched with
  | some a, _ => some a.idx
  | none, f :: _ => some f.idx
  | none, [] => (s.engine.fetches.find? fun f => f.dom == d && f.q == q && !f.stale).map Fetch.start

/-- A queue or its domain leaves ON: what is fetched and not admitted, or handed off and not taken, is discarded, and
FETCH_PTR goes back to it (R127, R148). -/
def rollback (d q : Nat) (s : State) : State :=
  let x := getQueue s d q
  let e := s.engine
  let fp := (oldestFetched s d q).getD x.fetchPtr
  setQueue d q { x with fetched := [], fetchPtr := fp, sqTail := fp, recheckDue := false }
    { s with engine := { e with
        handoff := if q = 64 then e.handoff.filter fun a => a.dom != d else e.handoff
        fetches := e.fetches.map fun f => if f.dom = d && f.q = q then { f with stale := true } else f } }

/-! ## Faults of a queue (R24, R155) -/


/-- A queue enters FAULTED: its admitted operations end with ABORTED and DETAIL 4 and its fetched descriptors go back. -/
def faultQueue (d q cause : Nat) (s : State) : State :=
  if (getQueueUnit s d q).st = .faulted then s
  else
    let s1 := setUnit (queueId d q) (unitStep (getQueueUnit s d q) (.fault cause)) (rollback d q s)
    recTile 1 0 1 cause (abortWhere (fun o => o.dom == d && o.q == q) stAborted 4 s1)

/-! ## Doorbells (R134, R142) -/

/-- The address of a queue's doorbell record; the admin queue's follows the domain beacon block (R161). -/
def dbAddrOf (s : State) (d q : Nat) : Nat :=
  if q = 64 then (getFunc s d).domBeacon + 64 else (getQueue s d q).dbAddr

/-- Read a queue's doorbell record. -/
def readDoorbell (d q : Nat) (c : DbCause) (s : State) : State :=
  if !portUp s (domPort d) then s
  else
    let e := s.engine
    emit (.hostRead d (dbAddrOf s d q) 16) { s with engine := { e with dbReads := e.dbReads ++ [⟨d, q, c⟩] } }

/-- check_doorbell of R142. -/
def checkDoorbell (d q : Nat) (rec : Bytes) (s : State) : State :=
  let x := getQueue s d q
  let tail := leAt rec 0 2
  let seq := byteAt rec 2
  let s1 :=
    if 2 ^ x.sqLog2 ≤ tail then faultQueue d q 3 s
    else if tail ≠ x.fetchPtr then fetchAll d q (setQueue d q { x with sqTail := tail, rechecks := 0 } s)
    else if seq = x.seenSeq && x.rechecks < 4 then
      setQueue d q { x with rechecks := x.rechecks + 1, stale := satAdd 255 x.stale 1, recheckDue := true } s
    else s
  modQueue d q (fun y => { y with seenSeq := seq }) s1

/-- A doorbell record's read for each queue given. -/
def readDoorbells (c : DbCause) (l : List (Nat × Nat)) (s : State) : State :=
  l.foldl (fun t p => readDoorbell p.1 p.2 c t) s

/-! ## Host register writes (R10, R82, R492, R500) -/

/-- A write to one half, or the whole, of an 8 B register. -/
def mergeHalf (old : Nat) (h : Half) (v : Nat) : Nat :=
  match h with
  | .whole => v % 2 ^ 64
  | .lo => setFld old 31 0 v
  | .hi => setFld old 63 32 v

/-- The entry of a host register write of function `d`. -/
def hostWriteEntry (d off old new : Nat) (applied : Bool) : LogEntry :=
  { seq := 0, time := 0
    origin := { source := 0, port := domPort d, fn := domFn d, ring := 0, core := 0, custodian := 255 }
    cls := 0x01, code := if applied then 1 else 2, sev := 1, status := if applied then 0 else 0x13
    object := off + shl (domFn d) 16 + shl (domPort d) 22, old := old, new := new }

/-- A discarded host write that the spec marks as logged. (Log entry 15: DEDUCED.) -/
def logDiscard (d off old new : Nat) (s : State) : State := logExempt (hostWriteEntry d off old new false) s

/-- A logged host write: discarded while the logbook refuses ordinary changes, unless it stops work (R500).
(Log entry 45: DEDUCED.) -/
def loggedWrite (d off old new : Nat) (stops : Bool) (f : State → State) (s : State) : State :=
  if !stops && (logRefusal s).isSome then countRefused s
  else f (logExempt (hostWriteEntry d off old new true) s)

/-- BAR0 offset of a queue register (R154, R161). -/
def qpOff (q r : Nat) : Nat := if q = 64 then 0x200 + r else 0x1000 + 0x40 * q + r

/-- The function of a domain exists: its port is present. -/
def domPresent (s : State) (d : Nat) : Bool := portPresent s (domPort d)

end Sys2Proof.Machine
end

