-- ==== Sys2Proof/Machine/Admission.lean ====
section
/-! DEFINITION. Admission (R107, R148, R149, R176, R177, R190, R191, R204, R209, R210, R215, R350) and the reads that
follow it. -/
namespace Sys2Proof.Machine

/-- RESTRICT or a debug attach is in force (R8). -/
def restricted (s : State) : Bool := s.watch.restrict || s.tap.attached

/-- The random source counts as FAULTED (R331, R335). -/
def rngFaulted (s : State) : Bool :=
  match unitSt s .rng with
  | .on => false
  | .starting => s.rng.afterFault
  | _ => true

/-! ## Tags and quotas (R107, R149) -/

/-- Which free tag is taken is not fixed: the first free one from a free value on. (Log entry 62: DESIGN CHOICE.) -/
def pickTag (s : State) : Option Nat :=
  ((List.range 4096).map fun i => (freeNow s + i) % 4096).find? fun t => !(s.ops.any fun o => o.tag == t)

/-- Reserved tags that other ON domains have not used (R107). -/
def unusedReserve (s : State) : Nat :=
  ((activeBank s).shares.map fun e => if domOn s e.1 then e.2.reserve - inFlight s e.1 else 0).foldl (· + ·) 0

/-- The rule of R107: the domain's next descriptor may be admitted. -/
def mayAdmit (s : State) (d : Nat) : Bool :=
  let sh := getShare (activeBank s) d
  let n := inFlight s d
  if sh.quota ≤ n then false
  else if n < sh.reserve then true
  else decide (unusedReserve s < 4096 - s.ops.length)

/-! ## Holds at the head of a queue -/

/-- A FENCE of the queue pair is in flight (R176), or an operation of it waits for a fill (R215). -/
def queueBlocked (s : State) (d q : Nat) : Bool :=
  s.ops.any fun o => o.dom == d && o.q == q &&
    (dOpcode o.desc == 0x31 || (match o.stage with | .waitFill _ => true | _ => false))

/-- The indices a descriptor's handles name. -/
def descMoors (d : Bytes) : List Nat :=
  (if refIsHandle d then [dRef d % 2 ^ 22] else []) ++ (if dOpcode d = 3 then [dRef2 d % 2 ^ 22] else [])

/-- A REKEY in flight on a mooring the descriptor names holds it (R209). -/
def heldByRekey (s : State) (d : Bytes) : Bool :=
  (descMoors d).any fun i => s.ops.any fun o => dOpcode o.desc == 0x11 && (opMoors o).contains i

/-- A REKEY waits while an operation uses the key area not selected, and on an IN mooring while an earlier inbound
operation has not passed R206 (R209). -/
def rekeyWaits (s : State) (d : Bytes) : Bool :=
  dOpcode d == 0x11 &&
  (let i := dRef d % 2 ^ 22
   let m := getMoor s i
   s.ops.any fun o => (opMoors o).contains i &&
     ((o.moored && (if dOpcode o.desc = 2 || (dOpcode o.desc = 3 && dRef o.desc % 2 ^ 22 = i) then o.areaIn ≠ m.keySel
        else dOpcode o.desc != 0x13 && dOpcode o.desc != 0x12 && o.area ≠ m.keySel)) ||
      (m.dir == 1 && inboundPending o)))

/-- The mooring in REF is not cached and its fill cannot start now (R215). -/
def fillBlocked (s : State) (d : Bytes) : Bool :=
  let i := dRef d % 2 ^ 22
  refIsHandle d && decide (i < mooringCount s.part) && !cached s i && !fillCan s i

/-! ## Lengths known before execution (R175) -/

/-- The output and auxiliary lengths an operation needs, where they are known before its parameter block is read. -/
def needLens (s : State) (bank : Nat) (d : Bytes) : Nat × Nat :=
  let o := dOpcode d
  let a := dAlg d
  let k := getKey s (refSlot (dRef d))
  if o = 5 then (if a = 0x21 || a = 0x22 then 1 else hashLen a, 0)
  else if o = 6 then (if a < 128 then hashLen a else 0, 0)
  else if o = 8 then (if a / 16 = 4 then 16 else 8, 0)
  else if o = 0x20 then (sigLen a (opLn s bank d), 0)
  else if o = 0x22 then (if a = 2 then opL s bank d else 32, 0)
  else if o = 0x23 then (ctLen a, 32)
  else if o = 0x24 then (0, 32)
  else if o = 0x25 then (k.pub.length - 4, 0)
  else if o = 0x26 then (if dRef d = 0 then 0 else k.pub.length - 4, 0)
  else if o = 0x27 then (pubLen a (opL s bank d), 128)
  else (0, 0)

/-- R175: a capacity is too small. -/
def lensShort (d : Bytes) (need : Nat × Nat) : Bool := dOutLen d < need.1 || dAuxLen d < need.2

/-! ## The active lists of arbitration (R109, R262, R275, R333, R643) -/

/-- A domain joins the tail of a list unless it is on it. -/
def joinList (d : Nat) (l : List Nat) : List Nat := if l.contains d then l else l ++ [d]

/-- Another operation of the domain, of a kind, waits for dispatch. -/
def othersWait (s : State) (o : Op) (kind : Bytes → Bool) : Bool :=
  s.ops.any fun p => p.dom == o.dom && p.tag != o.tag && p.stage == .ready && kind p.desc

/-- A domain with nothing else waiting joins the tail with a deficit of 0 (R109). -/
def joinFresh (others : Bool) (d : Nat) (l : List Nat) : List Nat :=
  if others then joinList d l else l.filter (fun x => x != d) ++ [d]

/-- An operation waits for dispatch: its domain joins the list of its kind. -/
def makeReady (o : Op) (s : State) : State :=
  let a := s.arb
  let d := o.dom
  let t :=
    if isLaneOp o.desc then
      let w := othersWait s o isLaneOp
      modDom d (fun x => { x with laneDef := if w then x.laneDef else 0 })
        { s with arb := { a with lane := joinFresh w d a.lane } }
    else if isHashOp o.desc then
      let w := othersWait s o isHashOp
      modDom d (fun x => { x with hashDef := if w then x.hashDef else 0 })
        { s with arb := { a with hash := joinFresh w d a.hash } }
    else
      let w := othersWait s o isPkOp
      modDom d (fun x => { x with pkDef := if w then x.pkDef else 0 })
        { s with arb := { a with pk := joinFresh w d a.pk } }
  putOp { o with stage := .ready } t

/-! ## Reads (R133, R171, R234) -/

/-- The opcode reads its auxiliary buffer (R172). -/
def readsAux (d : Bytes) : Bool :=
  let o := dOpcode d
  o == 2 || o == 3 || (o == 6 && 128 ≤ dAlg d) || o == 0x21

/-- The read of an operation's auxiliary input, and of its input. -/
def auxRead (o : Op) : List Out :=
  if readsAux o.desc && dAuxLen o.desc ≠ 0 then [.hostRead o.dom (dAuxAddr o.desc) (dAuxLen o.desc)] else []
def inRead (o : Op) : List Out :=
  if usesIn o.desc && dInLen o.desc ≠ 0 then [.hostRead o.dom (dInAddr o.desc) (dInLen o.desc)] else []

/-- The reads of an operation's input and auxiliary input are issued; with none to wait for it can run. -/
def startReads (o : Op) (s : State) : State :=
  let r := auxRead o ++ inRead o
  if r.isEmpty then putOp { o with stage := .running } s
  else emitAll r (putOp { o with stage := .dispatched } s)

/-- After steps 1 to 7 of R191: to the scheduler of its engines, or straight to its reads. A RESEAL first reads its nonce
(R240). -/
def afterParams (o : Op) (s : State) : State :=
  if dOpcode o.desc = 3 then emitAll (auxRead o) (putOp { o with stage := .waitNonce } s)
  else if isLaneOp o.desc || isHashOp o.desc || isPkOp o.desc then makeReady o s
  else startReads o s

/-- After step 7: the DETAIL 3 lengths, then on to the scheduler or the reads. -/
def proceed (o : Op) (s : State) : State :=
  if lengthBad s o then endOp o stBadParameter 3 s else afterParams o s

/-- Step 7 of R191: the parameter block's read is issued, or there is none. -/
def toParams (o : Op) (s : State) : State :=
  if dPbLen o.desc = 0 then proceed o s
  else emit (.hostRead o.dom (dPbAddr o.desc) (dPbLen o.desc)) (putOp { o with stage := .waitPb } s)

/-- The end of step 6: UNMOOR's generation advances (R210), MOOR_QUERY takes its snapshot (R213). -/
def afterStage (o : Op) (s : State) : State :=
  let i := dRef o.desc % 2 ^ 22
  if dOpcode o.desc = 0x12 then
    toParams o (commitUnmoor o s)
  else if dOpcode o.desc = 0x13 && dAlg o.desc = 0 then toParams { o with out := moorRecord (getMoor s i) } s
  else if dOpcode o.desc = 0x11 then
    match keysResolve s o.dom (keyRefs o.desc) with
    | some (st, dt) => endOp o st dt s
    | none => match keyPolicy s o.desc with
      | some (st, dt) => endOp o st dt s
      | none => toParams o s
  else toParams o s

/-- The handles an operation resolves, in order, with their sides (R204). -/
def stageSides (d : Bytes) : List (Nat × Nat) :=
  match dOpcode d with
  | 1 => [(dRef d, 0)]
  | 2 => [(dRef d, 1)]
  | 3 => [(dRef d, 1), (dRef2 d, 0)]
  | _ => [(dRef d, 2)]

/-- A miss waits for its fill, which starts as soon as the cache can take it. -/
def awaitFill (k i : Nat) (o : Op) (s : State) : State :=
  let full := setFull s i && !s.moor.fills.contains i
  let s1 := putOp { o with stage := .waitFill k, setWait := full } s
  if fillCan s i then startFill i s1 else if full then countSetHold s1 else s1

/-- The mooring stage from side number `k` on (R204, R215). -/
def runStage : List (Nat × Nat) → Nat → Op → State → State
  | [], _, o, s => afterStage o s
  | (h, side) :: rest, k, o, s =>
    let i := h % 2 ^ 22
    let s1 := if i < mooringCount s.part then countAccess i s else s
    if i < mooringCount s.part && !cached s1 i then awaitFill k i o s1
    else match stageCheck s1 o h side with
      | some (st, dt) => endOp { o with needOut := moorNeed s1 o } st dt s1
      | none =>
        let r := stageTake o h side s1
        runStage rest (k + 1) r.1 (putOp r.1 r.2)

/-- The stage again after a fill, from the side that waited, without counting a second access. -/
def resumeStage : List (Nat × Nat) → Nat → Op → State → State
  | [], _, o, s => afterStage o s
  | (h, side) :: rest, k, o, s =>
    match stageCheck s o h side with
    | some (st, dt) => endOp { o with needOut := moorNeed s o } st dt s
    | none =>
      let r := stageTake o h side s
      runStage rest (k + 1) r.1 (putOp r.1 r.2)

/-! ## The conditions of R191 -/

/-- Steps 1 to 4: UNIT_ABSENT, POLICY_DENIED, RESTRICTED, NO_ENTROPY. -/
def earlyStatus (s : State) (bank dom : Nat) (d : Bytes) : Option Nat :=
  let permitted := match permBit (dOpcode d) with
    | none => true
    | some b => nbit (effPerms (bankOf s bank) dom) b
  if isPkOp d && isLatticeAlg (dAlg d) && !latticePresent s.part then some stUnitAbsent
  else if !permitted then some stPolicyDenied
  else if isPrivateOp d && restricted s then some stRestricted
  else if needsRandom d && rngFaulted s then some stNoEntropy
  else none

/-- The weight of its domain, and the keys and curve an operation names, as they stand at its admission (R16). -/
def captureKeys (s : State) (o : Op) : Op :=
  let d := o.desc
  let named := refIsKey d || (refIsKeyOr0 d && dRef d != 0)
  let k := getKey s (refSlot (dRef d))
  let k2 := getKey s (refSlot (dRef2 d))
  { o with
    weight := (getShare (bankOf s o.bank) o.dom).weight
    key1 := if named then k.img else {}
    keyPub := if named then k.pub else []
    key2 := if dOpcode d = 8 || ((dOpcode d = 0x10 || dOpcode d = 0x11) && dRef2 d ≠ 0) then k2.img else {}
    curveB := if isPkOp d && (dAlg d = 1 || dAlg d = 2) then opCurveBody s o.bank d else []
    curveSlot := if isPkOp d && (dAlg d = 1 || dAlg d = 2) then opCurve s d else 0
    curveEp := if isPkOp d && (dAlg d = 1 || dAlg d = 2) then (getCurve s (opCurve s d)).epoch else 0
    cL := opL s o.bank d
    cLn := opLn s o.bank d }

/-- Steps 1 to 6 for an admitted operation, then step 7. -/
def runConditions (o : Op) (s : State) : State :=
  match earlyStatus s o.bank o.dom o.desc with
  | some st => endOp o st 0 s
  | none =>
    if refIsHandle o.desc then runStage (stageSides o.desc) 0 o s
    else match keysResolve s o.dom (keyRefs o.desc) with
      | some (st, dt) => endOp o st dt s
      | none => match keyPolicy s o.desc with
        | some (st, dt) => endOp o st dt s
        | none =>
          if !curveRefOk s o.bank o.desc then endOp o stBadParameter 4 s
          else
            let need := needLens s o.bank o.desc
            if lensShort o.desc need then endOp { o with needOut := need.1, needAux := need.2 } stBadParameter 1 s
            else toParams o s

/-- ABORT_PRIOR at the FENCE's admission marks the earlier operations of its queue pair (R177). -/
def markPrior (o : Op) (s : State) : State :=
  if dOpcode o.desc = 0x31 && nbit (dFlags o.desc) 2 then
    { s with ops := s.ops.map fun p =>
        if p.dom = o.dom && p.q = o.q && p.seqNo < o.seqNo && p.stage ≠ .held then { p with marked := true } else p }
  else s

/-- The key slots a descriptor waits for are imaged next (R350). -/
def imageNext (d : Bytes) (s : State) : State :=
  { s with keys := { s.keys with next := (keyRefs d).map refSlot } }

/-- A head that its mooring's set or the number of fills holds; its wait for a full set is counted once (R215, R225). -/
def waitAtHead (d q : Nat) (f : Fetched) (rest : List Fetched) (s : State) : State :=
  if f.setWait || !setFull s (dRef f.desc % 2 ^ 22) then s
  else countSetHold (modQueue d q (fun x => { x with fetched := { f with setWait := true } :: rest }) s)

/-- The mooring whose fill an operation waits for. -/
def waitIdx (o : Op) : Option Nat :=
  match o.stage with
  | .waitFill k => ((stageSides o.desc)[k]?).map fun hs => hs.1 % 2 ^ 22
  | _ => none

/-- The operation of a queue that waits for a fill not yet started tries again (R215). -/
def retryFill (d q : Nat) (s : State) : State :=
  match s.ops.find? fun o => o.dom == d && o.q == q && (waitIdx o).isSome with
  | none => s
  | some o => match waitIdx o with
    | none => s
    | some i =>
      if fillCan s i then startFill i s
      else if setFull s i && !o.setWait then countSetHold (putOp { o with setWait := true } s)
      else s

/-- The head descriptor of a queue is rejected, held or admitted. -/
def admitHead (d q : Nat) (s : State) : State :=
  let x := getQueue s d q
  match x.fetched with
  | [] => s
  | f :: rest =>
    if !(queueOn s d q && domOn s d) || 64 ≤ q then s
    else if queueBlocked s d q then retryFill d q s
    else
      let pop := setQueue d q { x with fetched := rest } s
      let c := formatCheck f.desc
      if c ≠ 0 then rejectDesc d q f.idx stBadDescriptor c (dOpcode f.desc) pop
      else if !mayAdmit s d || heldByRekey s f.desc || rekeyWaits s f.desc then s
      else if keyNotImaged s f.desc then imageNext f.desc s
      else if fillBlocked s f.desc && (earlyStatus s s.policy.active d f.desc).isNone then waitAtHead d q f rest s
      else match pickTag s with
        | none => s
        | some t =>
          let o : Op := {
            tag := t, dom := d, q := q, idx := f.idx, desc := f.desc, bank := s.policy.active
            epoch := s.policy.epoch, seqNo := s.opSeq }
          let s1 := useFree { pop with ops := pop.ops ++ [o], opSeq := pop.opSeq + 1 }
          runConditions (captureKeys s o) (putOp (captureKeys s o) (markPrior o s1))

/-- DESCRIPTOR_ADMISSION (R107, R148, R149, R190, R191); the room it leaves lets further reads be issued (R147). -/
def execDescriptorAdmission (d : Fin 256) (q : Fin 64) (s : State) : Host.Outcome State Fault Refusal :=
  .next (whenRuns dpRuns (fun t => fetchAll d.val q.val (settleQueue d.val q.val 64 (admitHead d.val q.val t))) s)

/-! ## Fills -/

/-- The operations that wait for a mooring's fill go on in admission order (R204, R215, R226). -/
def resumeWaiting : Nat → Nat → State → State
  | 0, _, s => s
  | n + 1, i, s =>
    match s.ops.find? (fun o => waitIdx o == some i) with
    | none => s
    | some o => match o.stage with
      | .waitFill k => resumeWaiting n i (resumeStage ((stageSides o.desc).drop k) k o s)
      | _ => s

/-- MOORING_CACHE_FILL (R204, R215, R218 to R220): the lines of a fill, each read, corrected or failed. -/
def execMooringCacheFill (i : Fin 4194304) (lines : List LineRes) (s : State) : Host.Outcome State Fault Refusal :=
  if !s.moor.fills.contains i.val || !dramRuns s then .next s
  else
    let corr := (lines.filter fun l => l == .corrected).length
    let s1 := { s with moor := { s.moor with
      fills := s.moor.fills.filter (fun x => x != i.val), eccCorr := (s.moor.eccCorr + corr) % 2 ^ 48 } }
    let s2 := cacheInsert i.val (poison i.val lines s1)
    .next (resumeWaiting s2.ops.length i.val s2)

/-- PARAMETER_BLOCK_RESULT (R171, R191 step 7, R279). -/
def execParameterBlockResult (tag : Fin 4096) (pb : Bytes) (rtt : Nat) (s : State) : Host.Outcome State Fault Refusal :=
  .next (match findLive s tag.val with
    | none => s
    | some o =>
      if o.stage ≠ .waitPb then s
      else
        let s := noteRtt (domPort o.dom) rtt s
        let p := slice pb 0 (dPbLen o.desc)
        if !pbHeaderOk (dOpcode o.desc) (dPbLen o.desc) p then endOp o stBadParameter 2 s
        else
          let o1 := { o with pb := p }
          match blockAns s o1 p with
          | some (st, dt) =>
            let need := if dOpcode o.desc = 4 then cipherNeed o.desc p else pkPubLen p
            endOp { o1 with needOut := need } st dt s
          | none => proceed o1 (putOp o1 s))

end Sys2Proof.Machine
end

