-- ==== Sys2Proof/Machine/Arb.lean ====
section
/-! DEFINITION. Deficit round robin (R109, R262, R275, R333, R643) and the allotment of lanes and pairs (R35, R37). -/
namespace Sys2Proof.Machine

/-- The four loops. -/
inductive ArbKind where
  | lane | hash | pk | rng
  deriving DecidableEq, Repr, Inhabited

def arbList (k : ArbKind) (s : State) : List Nat :=
  match k with
  | .lane => s.arb.lane
  | .hash => s.arb.hash
  | .pk => s.arb.pk
  | .rng => s.arb.rng

def setArbList (k : ArbKind) (l : List Nat) (s : State) : State :=
  match k with
  | .lane => { s with arb := { s.arb with lane := l } }
  | .hash => { s with arb := { s.arb with hash := l } }
  | .pk => { s with arb := { s.arb with pk := l } }
  | .rng => { s with arb := { s.arb with rng := l } }

def deficit (k : ArbKind) (s : State) (d : Nat) : Int :=
  match k with
  | .lane => (getDom s d).laneDef
  | .hash => (getDom s d).hashDef
  | .pk => (getDom s d).pkDef
  | .rng => (getDom s d).rngDef

def setDeficit (k : ArbKind) (d : Nat) (v : Int) (s : State) : State :=
  modDom d (fun x => match k with
    | .lane => { x with laneDef := v }
    | .hash => { x with hashDef := v }
    | .pk => { x with pkDef := v }
    | .rng => { x with rngDef := v }) s

/-- An operation has not been dispatched yet. -/
def undispatched (o : Op) : Bool :=
  match o.stage with
  | .waitFill _ => true
  | .waitPb => true
  | .waitNonce => true
  | .ready => true
  | _ => false

/-- The oldest operation of a domain, of a kind, that waits for dispatch, once it can be dispatched: later ones never
overtake it (R109, R234, R262, R274, R643). (Log entry 75: DEDUCED.) -/
def oldestOf (kind : Bytes → Bool) (s : State) (d : Nat) : Option Op :=
  (s.ops.find? fun o => o.dom == d && kind o.desc && undispatched o).filter fun o => o.stage == .ready

/-- The first domain on the list that can be taken, with what stands before and behind it. -/
def splitFirst (p : Nat → Bool) : List (Nat × Int) → Option (List (Nat × Int) × (Nat × Int) × List (Nat × Int))
  | [] => none
  | e :: r => if p e.1 then some ([], e, r) else (splitFirst p r).map fun x => (e :: x.1, x.2.1, x.2.2)

/-- The loop of R109 with the passing over of R643: domains that cannot be taken keep their deficit and place. -/
def drrLoop (canTake : Nat → Bool) (quantum : Nat → Int) : Nat → List (Nat × Int) → Option (Nat × List (Nat × Int))
  | 0, _ => none
  | fuel + 1, l =>
    match splitFirst canTake l with
    | none => none
    | some (pre, (d, v), post) =>
      if v ≤ 0 then drrLoop canTake quantum fuel (pre ++ post ++ [(d, v + quantum d)])
      else some (d, l)

/-- The quantum of a domain: WEIGHT × 1,024, with the weight captured at its oldest item's admission (R16, R109). -/
def quantumOf (oldest : Nat → Option Op) (d : Nat) : Int := (((oldest d).map Op.weight).getD 16 : Int) * 1024

/-- Rounds enough for any deficit a charge can leave. -/
def drrFuel : Nat := 20000000

/-- Run a loop: the domain selected, and the state with the list and deficits as the loop leaves them. -/
def drrRun (k : ArbKind) (oldest : Nat → Option Op) (canTake : Nat → Bool) (s : State) : Option (Nat × State) :=
  let l := (arbList k s).map fun d => (d, deficit k s d)
  (drrLoop canTake (quantumOf oldest) drrFuel l).map fun r =>
    (r.1, r.2.foldl (fun t e => setDeficit k e.1 e.2 t) (setArbList k (r.2.map Prod.fst) s))

/-- Charge the selected domain; with nothing more waiting it leaves the list and its deficit is 0. -/
def drrCharge (k : ArbKind) (d charge : Nat) (more : Bool) (s : State) : State :=
  if more then setDeficit k d (deficit k s d - charge) s
  else setDeficit k d 0 (setArbList k ((arbList k s).filter fun x => x != d) s)

/-! ## The allotment (R35, R37) -/

/-- Lanes and pairs allowed in a row of R35. -/
def lanesInRow (p : Part) (row : Nat) : Nat :=
  if p = .g0810 then (if row = 0 then 4 else 8)
  else match row with | 0 => 3 | 1 => 6 | 2 => 8 | 3 => 10 | 4 => 12 | _ => 16

def pairsInRow (p : Part) (row : Nat) : Nat :=
  if p = .g0810 then (if row ≤ 1 then 3 else 6)
  else match row with | 0 => 2 | 1 => 3 | 2 => 5 | 3 => 7 | 4 => 8 | _ => 12

/-- The lower of the VIN band and the thermal row applies (R40). -/
def allotRow (s : State) : Nat := min s.power.band s.power.thermalRow

/-- Log entry 25: DESIGN CHOICE. -/
def lanesAllowed (s : State) : Nat := if s.power.governed then lanesInRow s.part (allotRow s) else 0
def pairsAllowed (s : State) : Nat := if s.power.governed then pairsInRow s.part (allotRow s) else 0

/-- The allotment order of lanes (R37): lane l of each present tile, tile by tile. -/
def laneOrder (p : Part) : List Nat :=
  ((List.range 4).map fun l => ((List.range 4).filter fun t => cipherTilePresent p t).map fun t => 4 * t + l).flatten

/-- The allotment order of pairs (R37): pair j of tiles 3, 2, 1, 0. -/
def pairOrder (p : Part) : List Nat :=
  ((List.range 3).map fun j => ([3, 2, 1, 0].filter fun t => pkTilePresent p t).map fun t => 3 * t + j).flatten

/-- The units that may be allotted: EN is 1 and they are not FAULTED (R37). -/
def allottable (r : UnitRec) : Bool := r.en && r.st != .faulted

def allottedLanes (s : State) : List Nat :=
  ((laneOrder s.part).filter fun n => allottable (laneUnit s n)).take (lanesAllowed s)
def allottedPairs (s : State) : List Nat :=
  ((pairOrder s.part).filter fun n => allottable (pairUnit s n)).take (pairsAllowed s)

/-- A unit inside or outside the allotment moves as R38 gives; EN stays 1. (Log entry 12: DEDUCED.) -/
def allotMove (inside : Bool) (r : UnitRec) : UnitRec :=
  if !r.en || r.st = .faulted then r
  else if inside then
    match r.st with
    | .off => moveTo r .starting
    | .draining => moveTo r .enablePending
    | _ => r
  else
    match r.st with
    | .on => moveTo r .draining
    | .starting => moveTo r .off
    | _ => r

/-- Move every lane and pair to where the allotment puts it (R38). -/
def applyAllotment (s : State) : State :=
  let l := allottedLanes s
  let p := allottedPairs s
  let s1 := (laneOrder s.part).foldl (fun t n =>
    moveUnit (laneId n) (allotMove (l.contains n) (laneUnit t n)) 1 t) s
  (pairOrder s.part).foldl (fun t n =>
    moveUnit (pairId n) (allotMove (p.contains n) (pairUnit t n)) 1 t) s1

end Sys2Proof.Machine
end

