-- ==== Sys2Proof/Machine/Lanes.lean ====
section
/-! DEFINITION. The cipher lanes and the legacy cipher unit (09 and 10 of spec/): dispatch, passes, seeds, and the data flow
of SEAL, OPEN, RESEAL, CIPHER and PIN_TRANSLATE. -/
namespace Sys2Proof.Machine
open Sys2Proof (primBytes primOk)

def getLane (s : State) (n : Nat) : Lane := mget {} s.lanes n
def setLane (n : Nat) (l : Lane) (s : State) : State := { s with lanes := mset {} s.lanes n l }


/-- The lane an operation was dispatched to. -/
def laneOf (o : Op) : Option Nat := match o.unit with | some (.lane i) => some i.val | _ => none

/-- The operations dispatched to a lane, in admission order. -/
def laneOps (s : State) (n : Nat) : List Op := s.ops.filter fun o => laneOf o == some n && o.stage != .held

/-- A pass of the operation runs. -/
def inPass (o : Op) : Bool := o.stage == .running || o.stage == .computed

/-! ## Classes and buffers (R228, R229, R234) -/

/-- A format 0 or 3 translation, which needs the legacy unit (R266). -/
def needsLegacy (d : Bytes) : Bool := dOpcode d == 8 && !(dAlg d == 0x44)

/-- The chained class of R228. The one or two blocks of PIN_TRANSLATE take a stage slot (DESIGN CHOICE).
(Log entry 72: DESIGN CHOICE.) -/
def opChained (s : State) (o : Op) : Bool :=
  let d := o.desc
  let ccm (h : Nat) : Bool := 16 ≤ (getMoor s (h % 2 ^ 22)).alg
  match dOpcode d with
  | 1 => ccm (dRef d)
  | 2 => ccm (dRef d)
  | 3 => ccm (dRef d) || ccm (dRef2 d)
  | 4 =>
    let m := cipherMode d
    m == 2 || m == 5 || m == 6 || m == 7 || (m == 1 && !cipherDec d)
  | _ => true

/-- The buffered messages of R234. -/
def opBuffered (d : Bytes) : Bool :=
  match dOpcode d with
  | 2 => nbit (dFlags d) 0
  | 3 => true
  | 4 => cipherDec d && isAead (cipherMode d)
  | _ => false

def blocksOf (n : Nat) : Nat := (n + 15) / 16

/-- Payload bytes of a lane operation. -/
def lanePayload (s : State) (o : Op) : Nat :=
  let d := o.desc
  if dOpcode d = 4 then cipherData d o.pb
  else if dOpcode d = 8 then dInLen d
  else payloadLen s o

/-- Blocks of associated data; CCM's carry their length prefix (R236). -/
def aadBlocks (ccm : Bool) (n : Nat) : Nat :=
  if ccm && n ≠ 0 then blocksOf (n + if n < 0xFF00 then 2 else 6) else blocksOf n

/-- Blocks one pass processes (R229): AAD and payload blocks, B0 of CCM, and one for each byte in CFB-8.
(Log entry 73: DEDUCED.) -/
def passBlocks (s : State) (o : Op) : Nat :=
  let d := o.desc
  let m := cipherMode d
  if dOpcode d = 4 then
    if m = 5 then cipherData d o.pb
    else aadBlocks (m == 2) (dSplit d) + blocksOf (cipherData d o.pb) + b2n (m == 2)
  else
    let h := if dOpcode d = 3 && o.pass = 2 then dRef2 d else dRef d
    let ccm := decide (dOpcode d ≠ 8) && decide (16 ≤ (getMoor s (h % 2 ^ 22)).alg)
    aadBlocks ccm (dSplit d) + blocksOf (lanePayload s o) + b2n ccm

/-- The lane can run a pass of the operation now (R228). -/
def classFree (s : State) (o : Op) (n : Nat) : Bool :=
  let run := (laneOps s n).filter fun p => inPass p && p.tag != o.tag
  if opChained s o then run.all (opChained s) && decide (run.length < 16) else run.isEmpty

/-- Another message holds the lane's release buffer (R229). -/
def bufferTaken (s : State) (o : Op) (n : Nat) : Bool :=
  (laneOps s n).any fun p => p.tag != o.tag && opBuffered p.desc

/-- The lane is ON and able to take the message (R234). -/
def laneAble (s : State) (o : Op) (n : Nat) : Bool :=
  (laneUnit s n).st == .on && classFree s o n && !(opBuffered o.desc && bufferTaken s o n)

/-- The lane that takes the message: the earliest in allotment order (R234, R248). -/
def laneFor (s : State) (o : Op) : Option Nat := (laneOrder s.part).find? (laneAble s o)

/-! ## Mask generators (R230, R231, R265) -/

/-- The mask generator of a lane, or with 16 the legacy unit's. -/
def getMask (s : State) (n : Nat) : MaskGen := if n < 16 then (getLane s n).mask else s.legacy.mask
def setMask (n : Nat) (g : MaskGen) (s : State) : State :=
  if n < 16 then setLane n { getLane s n with mask := g } s else { s with legacy := { s.legacy with mask := g } }

/-- Output of a unit's generator from byte `off` on. -/
def maskFrom (s : State) (n off len : Nat) : Bytes :=
  (List.range len).map fun i => Config.maskByte (getMask s n).state (off + i)

/-- A message seed mixed into the state. -/
def MaskGen.mix (g : MaskGen) : MaskGen :=
  match g.seeds with
  | [] => g
  | x :: r => { g with state := Config.maskMix g.state (unle x), seeds := r }

/-- The state replaced by the full seed. -/
def MaskGen.reseed (g : MaskGen) : MaskGen :=
  match g.full with
  | none => g
  | some f => { g with state := unle f, full := none, since := 0, reseeds := (g.reseeds + 1) % 65536 }

/-- A message seed leaves the buffer, which is refilled at once while the source generates. -/
def refillSeed (n : Nat) (g : MaskGen) (s : State) : State :=
  if rngOn s then useDrbg 4 (setMask n { g with seeds := g.seeds ++ [drbgBytes s 4] } s) else setMask n g s

/-- The start of a pass mixes 32 fresh bits into the generator. -/
def useSeed (n : Nat) (s : State) : State := refillSeed n (getMask s n).mix s

/-- A message seed taken as random fill (R245). -/
def takeSeed (n : Nat) (s : State) : Bytes × State :=
  let g := getMask s n
  (slice (g.seeds.headD []) 0 4, refillSeed n { g with seeds := g.seeds.drop 1 } s)

/-- A full reseed; the full seed is drawn anew while the source generates. -/
def fullReseed (n : Nat) (s : State) : State :=
  let g := (getMask s n).reseed
  if rngOn s then useDrbg 32 (setMask n { g with full := some (drbgBytes s 32) } s) else setMask n g s

/-- `k` blocks of `rounds` rounds processed: every round consumes generator output (R230), and the blocks count towards the
next full reseed and in the unit's register (R231, R251, R270). -/
def addBlocks (n k rounds : Nat) (s : State) : State :=
  let g := getMask s n
  let t := setMask n { g with state := Config.maskAfter g.state (k * rounds), since := g.since + k } s
  if n < 16 then setLane n { getLane t n with blocks := ((getLane t n).blocks + k) % 2 ^ 48 } t
  else { t with legacy := { t.legacy with blocks := (t.legacy.blocks + k) % 2 ^ 48 } }

/-- Process `k` blocks, with a full reseed after every 2^20; what stays where a due reseed finds no full seed, so that no
block is processed with masks that cannot be renewed (R231, R232). -/
def runBlocks (n rounds : Nat) : Nat → Nat → State → Nat × State
  | 0, k, s => (k, s)
  | fuel + 1, k, s =>
    let room := 2 ^ 20 - (getMask s n).since
    if k ≤ room then (0, addBlocks n k rounds s)
    else
      let t := addBlocks n room rounds s
      if (getMask t n).full.isNone then (k - room, t) else runBlocks n rounds fuel (k - room) (fullReseed n t)

/-- A lane that may still run passes: ON, or finishing admitted work. -/
def worksOn (st : UnitState) : Bool := st == .on || st == .draining || st == .enablePending

/-! ## Dispatch (R109, R234, R266) -/

/-- The oldest operation of a domain that waits for a lane; while the legacy unit starts, a translation that needs it
is passed by later messages (R266). -/
def oldestLane (s : State) (d : Nat) : Option Op :=
  let starting := unitSt s .legacy == .starting || unitSt s .legacy == .enablePending
  oldestOf (fun x => isLaneOp x && !(starting && needsLegacy x)) s d

/-- The domain's oldest message has a lane. -/
def laneTakeable (s : State) (d : Nat) : Bool :=
  match oldestLane s d with
  | none => false
  | some o => (laneFor s o).isSome

/-- The charge of R109. -/
def laneCharge (d : Bytes) : Nat :=
  let c := max 64 ((dInLen d + 15) / 16 * 16)
  if dOpcode d = 3 then 2 * c else c

/-- Another lane message of the domain waits. -/
def laneMore (s : State) (o : Op) : Bool :=
  s.ops.any fun p => p.dom == o.dom && p.tag != o.tag && p.stage == .ready && isLaneOp p.desc

/-- The reads a dispatched operation issues; a RESEAL has read its nonce (R240). -/
def issueReads (o : Op) (s : State) : State :=
  let r := (if dOpcode o.desc = 3 then [] else auxRead o) ++ inRead o
  emitAll r (putOp { o with stage := .dispatched, arrived := r.isEmpty } s)

/-! ## Passes (R228, R229, R234) -/

/-- Message seeds a pass takes: one for its masks, and 64 bits of random fill for a PIN block of format 3 or 4 (R245). -/
def seedsFor (d : Bytes) : Nat := if dOpcode d = 8 && dAlg d / 16 ≠ 0 then 3 else 1

/-- The seeds and masks that a message waiting at lane `n` needs to start a pass are there (R231, R265). -/
def masksReady (s : State) (o : Op) (n : Nat) : Bool :=
  decide (seedsFor o.desc ≤ (getMask s n).seeds.length) && decide ((getMask s n).since < 2 ^ 20) &&
  (!needsLegacy o.desc || (worksOn (unitSt s .legacy) && !(getMask s 16).seeds.isEmpty && decide ((getMask s 16).since < 2 ^ 20)))

/-- The shares of the key of the operation's next pass (R195, R204, R350). -/
def passKey (s : State) (o : Op) : Shares :=
  let m := getMoor s (dRef o.desc % 2 ^ 22)
  match dOpcode o.desc with
  | 1 => areaOf m o.area
  | 2 => areaOf m o.areaIn
  | 3 => if o.pass = 1 then areaOf m o.areaIn else areaOf (getMoor s (dRef2 o.desc % 2 ^ 22)) o.area
  | _ => o.key1

/-- The lane takes the keys of a pass: re-masked with generator output before their first use, and GHASH's key made from
them (R230). -/
def loadKeys (n : Nat) (o : Op) (s : State) : Op :=
  let k := passKey s o
  { o with
    stage := .running
    laneKey := k.remask (maskFrom s n 0 k.a.length)
    laneH := splitBy (aesEnc k.value (zeros 16)) (maskFrom s n 32 16)
    key2 := if dOpcode o.desc = 8 then o.key2.remask (maskFrom s n 48 o.key2.a.length) else o.key2 }

/-- Start a pass of a message that waits at its lane, if its data has arrived, the lane can run it, and a message seed
is in the buffer (R231); a full reseed that is due comes first (R248). -/
def tryStart (n : Nat) (s : State) (tag : Nat) : State :=
  match findOp s tag with
  | none => s
  | some o =>
    if o.stage = .dispatched && o.arrived && worksOn (laneUnit s n).st && classFree s o n && masksReady s o n then
      let s1 := useSeed n s
      let s2 := putOp (loadKeys n o s1) s1
      if needsLegacy o.desc then useSeed 16 s2 else s2
    else s

/-- Start every pass the lane can run, in admission order. -/
def startPasses (n : Nat) (s : State) : State := ((laneOps s n).map Op.tag).foldl (tryStart n) s

/-- Give a message to a lane. -/
def dispatchLane (o : Op) (n : Nat) (s : State) : State :=
  startPasses n (issueReads { o with unit := some (laneId n) } s)

/-- Select a message by R109 and hand it, with the state the loop leaves, to `k`. -/
def selectLane (want : Op → Bool) (k : Op → Nat → State → State) (s : State) : State :=
  match drrRun .lane (oldestLane s) (laneTakeable s) s with
  | none => s
  | some (d, s1) =>
    match oldestLane s d with
    | none => s
    | some o =>
      if !want o then s
      else match laneFor s o with
        | none => s
        | some n => k o n (drrCharge .lane d (laneCharge o.desc) (laneMore s o) s1)

/-- LANE_DISPATCH (R109, R234, R643). A translation that needs the legacy unit is LEGACY_UNIT_TRANSLATION's step. -/
def execLaneDispatch (s : State) : Host.Outcome State Fault Refusal :=
  .next (whenRuns dpRuns (selectLane (fun o => !needsLegacy o.desc) dispatchLane) s)

/-- LEGACY_UNIT_TRANSLATION (R266). -/
def execLegacyUnitTranslation (s : State) : Host.Outcome State Fault Refusal :=
  .next (whenRuns dpRuns (selectLane (fun o => needsLegacy o.desc) (fun o n t =>
    if unitSt s .legacy = .on then dispatchLane o n t else endOp o stAborted 4 t)) s)

/-! ## Opcodes -/

/-- Run `f` on the operation a tag names while a pass of it, of the opcode given, has its data. -/
def onRunning (op : Nat) (tag : Nat) (f : Op → State → State) (s : State) : State :=
  match findLive s tag with
  | none => s
  | some o => if o.stage = .running && dOpcode o.desc = op then f o s else s

/-- Write bytes to the output buffer; an empty run writes nothing. -/
def writeOut (o : Op) (b : Bytes) (s : State) : State :=
  if b.isEmpty then s else emit (dataWrite s o.dom (dOutAddr o.desc) b) s

/-- Rounds of AES under a key of `n` bytes (R227). -/
def aesRounds (n : Nat) : Nat := n / 4 + 6

/-- Process what is left of a pass's blocks; with them all done `f` gives its output. A pass that meets a due full reseed
without a seed stays, with the blocks done so far and what it has streamed out (R231, R232).
(Log entry 74: DESIGN CHOICE.) -/
def runPass (f : Op → State → State) (o : Op) (s : State) : State :=
  match laneOf o with
  | none => s
  | some n =>
    let k := passBlocks s o
    let r := runBlocks n (aesRounds o.laneKey.a.length) (k / 2 ^ 20 + 2) (k - o.blocksDone) s
    if r.1 = 0 then f { o with blocksDone := 0, starved := false } r.2
    else putOp { o with
      blocksDone := k - r.1, starved := true
      outWritten := o.outWritten || (!opBuffered o.desc && decide (blocksOf (dSplit o.desc) + 1 < k - r.1)) } r.2

def aadOf (o : Op) : Bytes := o.input.take (dSplit o.desc)
def bodyOf (o : Op) : Bytes := o.input.drop (dSplit o.desc)

/-- SEAL's output (R236): the nonce is the salt and the counter assigned at admission (R205). The shares of the key meet
only in what leaves the lane. -/
def sealOut (m : Mooring) (o : Op) (aad pt : Bytes) : Bytes :=
  let r := aeadSeal (16 ≤ m.alg) m.tagLen o.laneKey.value (nonceOf o.salt (o.ctr.getD 0)) aad pt
  r.1 ++ r.2

/-- An inbound message's plaintext, and whether its tag matches (R237). -/
def openIn (m : Mooring) (o : Op) : Bytes × Bool :=
  let body := bodyOf o
  let c := body.length - m.tagLen
  let r := aeadOpen (16 ≤ m.alg) m.tagLen o.laneKey.value (slice o.auxIn 0 12) (aadOf o) (body.take c)
  (r.1, r.2 == body.drop c)

/-- The pass has produced its output and written it as it left the lane. -/
def computedOut (o : Op) (b : Bytes) (match_ : Bool) (s : State) : State :=
  writeOut o b (putOp { o with
    stage := .computed, compareOk := match_, outWritten := !b.isEmpty, written := b.length } s)

/-- The pass has filled the release buffer, as two shares (R230, R239). -/
def computedBuf (o : Op) (b : Bytes) (match_ : Bool) (s : State) : State :=
  putOp { o with
    stage := .computed, buf := splitBy b (maskFrom s ((laneOf o).getD 0) 128 b.length), compareOk := match_ } s

/-- SEAL (R205, R236): ciphertext and tag are written as they leave the lane. -/
def execOpSeal (tag : Fin 4096) (s : State) : Host.Outcome State Fault Refusal :=
  .next (onRunning 1 tag.val (runPass fun o t =>
    computedOut o (sealOut (getMoor t (dRef o.desc % 2 ^ 22)) o (aadOf o) (bodyOf o)) true t) s)

/-- OPEN (R237, R239): plaintext is written as it leaves the pipeline, or held in the release buffer with VERIFY_FIRST. -/
def execOpOpen (tag : Fin 4096) (s : State) : Host.Outcome State Fault Refusal :=
  .next (onRunning 2 tag.val (runPass fun o t =>
    let r := openIn (getMoor t (dRef o.desc % 2 ^ 22)) o
    if opBuffered o.desc then computedBuf o r.1 r.2 t else computedOut o r.1 r.2 t) s)

/-- RESEAL (R240): pass 1 opens into the release buffer, pass 2 seals it under the OUT mooring. -/
def execOpReseal (tag : Fin 4096) (s : State) : Host.Outcome State Fault Refusal :=
  .next (onRunning 3 tag.val (runPass fun o t =>
    if o.pass = 1 then
      let r := openIn (getMoor t (dRef o.desc % 2 ^ 22)) o
      computedBuf o r.1 r.2 t
    else computedOut o (sealOut (getMoor t (dRef2 o.desc % 2 ^ 22)) o (aadOf o) o.buf.value) true t) s)

/-- CIPHER (R242, R243). -/
def cipherRun (o : Op) (s : State) : State :=
  let d := o.desc
  let b := pbBody o.pb
  let m := cipherMode d
  let iv := slice b 8 (byteAt b 0)
  let t := byteAt b 1
  let body := bodyOf o
  let key := o.laneKey.value
  if isAead m then
    if cipherDec d then
      let c := body.length - t
      let r := aeadOpen (m == 2) t key iv (aadOf o) (body.take c)
      computedBuf o r.1 (r.2 == body.drop c) s
    else
      let r := aeadSeal (m == 2) t key iv (aadOf o) body
      computedOut o (r.1 ++ r.2) true s
  else computedOut o (plainMode m (cipherDec d) key iv body) true s

def execOpCipher (tag : Fin 4096) (s : State) : Host.Outcome State Fault Refusal :=
  .next (onRunning 4 tag.val (runPass cipherRun) s)

/-! ## PIN blocks (R245). The field, the fill and the PAN combination of each format are ISO 9564-1's. -/

/-- Nibbles packed into bytes, high half first. -/
def packNib : List Nat → Bytes
  | a :: b :: r => BitVec.ofNat 8 (16 * a + b) :: packNib r
  | [a] => [BitVec.ofNat 8 (16 * a)]
  | [] => []

/-- The PAN field of formats 0 and 3: the 12 rightmost digits without the check digit, after four zeros. -/
def panField0 (n : Nat) (pan : Bytes) : Bytes :=
  packNib ([0, 0, 0, 0] ++ (List.range 12).map fun j => if 13 ≤ n + j then nibble pan (n + j - 13) else 0)

/-- The PAN field of format 4: the number of digits beyond 12, the digits, and zeros. -/
def panField4 (n : Nat) (pan : Bytes) : Bytes :=
  packNib ((n - 12) :: (List.range 31).map fun j => if j < n then nibble pan j else 0)

/-- The PIN field that a block of a format holds. -/
def pinDecipher (fmt : Nat) (key : Bytes) (n : Nat) (pan blk : Bytes) : Bytes :=
  if fmt = 4 then aesDec key (xorB (aesDec key blk) (panField4 n pan)) else xorB (tdesDec key blk) (panField0 n pan)

/-- The block of a PIN field. -/
def pinEncipher (fmt : Nat) (key : Bytes) (n : Nat) (pan f : Bytes) : Bytes :=
  if fmt = 4 then aesEnc key (xorB (aesEnc key f) (panField4 n pan)) else tdesEnc key (xorB f (panField0 n pan))

/-- A PIN field of a format with the digits of field `f` and the random fill `r`: F in format 0, a random nibble from A to F
in format 3, and A, then 16 random nibbles, in format 4. -/
def pinField (fmt : Nat) (f r : Bytes) : Bytes :=
  let len := nibble f 1
  let fill (i : Nat) : Nat := if fmt = 0 then 15 else if fmt = 3 then 10 + nibble r i % 6 else 10
  packNib ([fmt, len] ++ (List.range 14).map fun i => if i < len then nibble f (i + 2) else fill i) ++
  (if fmt = 4 then slice r 0 8 else [])

/-- The recovered PIN field is well formed: format nibble, length 4 to 12, decimal digits, the format's fill. -/
def pinFieldGood (fmt : Nat) (f : Bytes) : Bool :=
  let len := nibble f 1
  nibble f 0 == fmt && decide (4 ≤ len) && decide (len ≤ 12) &&
  (List.range len).all (fun i => decide (nibble f (i + 2) ≤ 9)) &&
  (List.range (14 - len)).all fun i =>
    let x := nibble f (len + 2 + i)
    if fmt = 0 then x == 15 else if fmt = 3 then decide (10 ≤ x) else x == 10

/-- The random fill of a translation: two message seeds of the lane for formats 3 and 4. -/
def pinFill (o : Op) (s : State) : Bytes × State :=
  let n := (laneOf o).getD 0
  if seedsFor o.desc = 1 then ([], s)
  else
    let a := takeSeed n s
    let b := takeSeed n a.2
    (a.1 ++ b.1, b.2)

/-- PIN_TRANSLATE (R244, R245): the recovered field stands in the lane as two shares. (Log entry 71: PRESUMED.) -/
def pinRun (o : Op) (s : State) : State :=
  let d := o.desc
  let n := byteAt (pbBody o.pb) 0
  let pan := slice (pbBody o.pb) 8 10
  let f := pinDecipher (dAlg d % 16) o.laneKey.value n pan o.input
  let fill := pinFill o s
  let s1 := if needsLegacy d then addBlocks 16 1 48 fill.2 else fill.2
  let o1 := { o with buf := splitBy f (maskFrom s1 ((laneOf o).getD 0) 128 f.length) }
  if pinFieldGood (dAlg d % 16) f then
    computedOut o1 (pinEncipher (dAlg d / 16) o.key2.value n pan (pinField (dAlg d / 16) f fill.1)) true s1
  else putOp { o1 with stage := .computed, compareOk := false } s1

def execOpPinTranslate (tag : Fin 4096) (s : State) : Host.Outcome State Fault Refusal :=
  .next (onRunning 8 tag.val (runPass pinRun) s)

/-! ## The end of a pass (R207, R229, R239, R240, R241) -/

/-- A lane operation completes. -/
def laneDone (o : Op) (status detail : Nat) (s : State) : State :=
  finishOp { o with status := status, detail := detail, heldCtr := none, laneKey := {}, laneH := {}, buf := {} } s

/-- The release of a verified buffer begins: each block is unmasked as it is written (R230, R239). -/
def release (o : Op) (s : State) : State :=
  let b := o.buf.value
  writeOut o b (putOp { o with stage := .releasing, outWritten := !b.isEmpty, written := b.length } s)

/-- Its last byte is written, and the counter is marked (R207, R239). -/
def releaseEnd (o : Op) (s : State) : State :=
  laneDone o stOK 0 (if dOpcode o.desc = 2 then windowUpdate o s else s)

/-- Pass 2 of a RESEAL: the associated data is read again, now that the inbound tag has verified (R240). -/
def secondPass (o : Op) (s : State) : State :=
  let n := dSplit o.desc
  let s1 := putOp { o with pass := 2, stage := .dispatched, arrived := n == 0, input := [] } s
  if n = 0 then s1 else emit (.hostRead o.dom (dInAddr o.desc) n) s1

/-- REKEY_REQUIRED where the counter assigned reached REKEY_AT (R205). -/
def okOrRekey (o : Op) : Nat := if o.rekeyDue then stRekeyRequired else stOK

/-- What the end of a pass does. -/
def passEnd (o : Op) (s : State) : State :=
  match dOpcode o.desc with
  | 1 => laneDone o (okOrRekey o) 0 s
  | 2 =>
    if o.compareOk then
      if opBuffered o.desc then release o s else laneDone o stOK 0 (windowUpdate o s)
    else if opBuffered o.desc then toScrub o stAuthFail 0 s
    else laneDone o stAuthFail 0 s
  | 3 =>
    if o.pass = 1 then
      if o.compareOk then secondPass o s else toScrub o stAuthFail 0 s
    else laneDone o (okOrRekey o) 0 (windowUpdate o s)
  | 4 =>
    if opBuffered o.desc then
      if o.compareOk then release o s else toScrub o stAuthFail 0 s
    else laneDone o stOK 0 s
  | _ => if o.compareOk then laneDone o stOK 0 s else laneDone o stBadParameter 3 s

/-- LANE_PASS_COMPLETE (R229, R239): the end of a pass, or of the release of its buffer. -/
def execLanePassComplete (tag : Fin 4096) (s : State) : Host.Outcome State Fault Refusal :=
  .next (match findLive s tag.val with
    | none => s
    | some o => match laneOf o with
      | none => s
      | some n =>
        if o.stage = .computed then startPasses n (passEnd o s)
        else if o.stage = .releasing then startPasses n (releaseEnd o s)
        else s)

/-- LANE_SCRUB_COMPLETE (R235): generator output is overwritten with zero, and the completion of an ended message is
written. -/
def execLaneScrubComplete (tag : Fin 4096) (s : State) : Host.Outcome State Fault Refusal :=
  .next (match findLive s tag.val with
    | none => s
    | some o => match laneOf o with
      | none => s
      | some n =>
        if o.stage = .scrubbing then startPasses n (finishOp { o with laneKey := {}, laneH := {}, buf := {} } s) else s)

/-! ## Reseeds and faults (R231, R232) -/

/-- A lane, or with 16 the legacy unit, may still run passes. -/
def maskUnitWorks (s : State) (n : Nat) : Bool := worksOn (if n < 16 then (laneUnit s n).st else unitSt s .legacy)

/-- Start what a unit's masks held back: the passes of a lane, or with the legacy unit those of every lane. -/
def startMasked (n : Nat) (s : State) : State :=
  if n < 16 then startPasses n s else (laneOrder s.part).foldl (fun t l => startPasses l t) s

/-- LANE_FULL_RESEED (R231, R265): 256 fresh bits replace the generator's state once 2^20 blocks have passed. Unit 16 is the
legacy cipher unit. -/
def execLaneFullReseed (n : Fin 17) (s : State) : Host.Outcome State Fault Refusal :=
  .next (if dpRuns s && 2 ^ 20 ≤ (getMask s n.val).since && (getMask s n.val).full.isSome && maskUnitWorks s n.val then
    startMasked n.val (fullReseed n.val s)
  else s)

/-- A lane enters FAULTED (R24, R232): its messages end with ABORTED and DETAIL 4, and another unit takes its place in
the allotment (R37). -/
def faultLane (n cause : Nat) (s : State) : State :=
  if (laneUnit s n).st = .faulted then s
  else
    let s1 := moveUnit (laneId n) (unitStep (laneUnit s n) (.fault cause)) 2 s
    let s2 := abortWhere (fun o => laneOf o == some n) stAborted 4 s1
    let s3 := if cause = 1 || cause = 2 then raise 7 s2 else s2
    applyAllotment (recordFault 3 (n / 4) 2 cause s3)

/-- ENGINE of the legacy unit: kind 3 with index 8 (R184). -/
def legacyEngine : Nat := 0xC8

/-- The legacy unit enters FAULTED: its translations end with ABORTED and DETAIL 4. The recorder entry names the unit by its
ENGINE in the first byte of its data (R265). (Log entry 208: DESIGN CHOICE.) -/
def faultLegacy (cause : Nat) (s : State) : State :=
  if unitSt s .legacy = .faulted then s
  else
    let s1 := moveUnit .legacy (unitStep (getUnit s .legacy) (.fault cause)) 2 s
    let s2 := abortWhere (fun o => needsLegacy o.desc) stAborted 4 s1
    let p := placeTile 0 4 3 4
    logExempt (hwEntry 0x08 4 2 p)
      (recData 4 3 2 cause p (le 1 legacyEngine) (if cause = 1 || cause = 2 then raise 7 s2 else s2))

/-- A seed of the lane, or with 16 of the legacy unit, is due and its buffer does not hold it (R232). -/
def seedMissing (s : State) (n : Nat) : Bool :=
  let g := getMask s n
  let waits (p : Op → Bool) : Bool := s.ops.any fun o => o.stage == .dispatched && o.arrived && p o
  (decide (2 ^ 20 ≤ g.since) && g.full.isNone) ||
  (if n < 16 then waits fun o => laneOf o == some n && decide (g.seeds.length < seedsFor o.desc)
   else g.seeds.isEmpty && waits fun o => (laneOf o).isSome && needsLegacy o.desc)

/-- LANE_SEED_TIMEOUT (R232, R265): MASK_RESEED after 10 µs. -/
def execLaneSeedTimeout (n : Fin 17) (s : State) : Host.Outcome State Fault Refusal :=
  .next (if dpRuns s && maskUnitWorks s n.val && seedMissing s n.val then
    if n.val < 16 then faultLane n.val 1 s else faultLegacy 1 s
  else s)

end Sys2Proof.Machine
end

