-- ==== Sys2Proof/Machine/MoorCmds.lean ====
section
/-! DEFINITION. MOOR, REKEY, UNMOOR, MOOR_QUERY and FENCE (07 and 08 of spec/). -/
namespace Sys2Proof.Machine
open Sys2Proof (primBytes primOk)

/-- MOOR_ALLOW of a domain (R106): from flash, or its default. -/
def moorAllow (s : State) (d : Nat) : Nat :=
  (mget {} s.domCfg d).moorAllow.getD (if isOwner s d then mooringCount s.part else 0)

/-- The key that a MOOR or REKEY block and its input give (R201), or none where an unwrap fails its integrity check. -/
def newKey (o : Op) : Option Bytes :=
  let b := pbBody o.pb
  let k := moorKeyLen (mAlg b)
  match mKeySrc b with
  | 0 => some (slice o.input 0 k)
  | 1 =>
    let kek := o.key2.value
    if primOk .keyUnwrapOk [kek, o.input] then some (primBytes .keyUnwrap k [kek, o.input]) else none
  | _ => some (hkdf 2 k o.input (slice b 40 (byteAt b 32)) (slice b 72 (byteAt b 33)))

/-- One draw of 36 B (R214): share B of a key of `k` bytes, and the salt with SALT_RANDOM; else SALT of the block (R198,
R200). -/
def drawKey (o : Op) (k : Nat) (s : State) : Nat × Bytes × State :=
  let b := pbBody o.pb
  let r := drbgBytes s 36
  (if nbit (mFlags b) 0 then unle (r.drop 32) else mSalt b, r.take k, useDrbg 36 s)

/-- REKEY_AT as stored: the default for 0 on OUT, zero on IN (R200). -/
def rekeyAtOf (b : Bytes) : Nat :=
  if mDir b = 1 then 0 else if mRekeyAt b = 0 then 0xFF00000000 else mRekeyAt b

/-- The handle of a mooring (R193). -/
def handleOf (i gen : Nat) : Nat := i + gen * 2 ^ 22

/-- Complete an operation that needs no scrub. -/
def opDone (o : Op) (status detail : Nat) (result : Bytes) (s : State) : State :=
  finishOp { o with status := status, detail := detail, result := result } s

/-- Once its key is made, a MOOR or REKEY takes its draws (R331, R334), or completes with NO_ENTROPY while the source counts
as FAULTED; a key that an unwrap does not give, or that `same` finds in use, completes with BAD_PARAMETER (R202, R209). -/
def withKey (o : Op) (same : Bytes → Bool) (f : Bytes → Nat × Bytes → State → State) (s : State) : State :=
  match newKey o with
  | none => opDone o stBadParameter 3 [] s
  | some key =>
    if same key then opDone o stBadParameter 3 [] s
    else if drawWaits s then s
    else if !rngOn s then opDone o stNoEntropy 0 [] s
    else
      let r := drawKey o key.length s
      f key (r.1, r.2.1) r.2.2

/-- MOOR (R108, R203, R334). -/
def moorRun (o : Op) (s : State) : State :=
  let b := pbBody o.pb
  withKey o (fun _ => false) (fun key r s =>
    if moorAllow s o.dom ≤ moorHeld s o.dom then opDone o stQuota 0 [] s
    else match takeFree s with
      | none => opDone o stQuota 0 [] s
      | some (i, s1) =>
        let g := (getMoor s i).gen
        let m : Mooring := {
          state := .active, alg := mAlg b, dir := mDir b, tagLen := mTagLen b, gen := g, owner := o.dom
          pinValid := nbit (mFlags b) 1, pinQ := mPinQ b, salt := r.1, mflags := mFlags b
          rekeyAt := rekeyAtOf b, moorTime := rtcStamp s
          shareA0 := key.zipWith (· ^^^ ·) r.2, shareB0 := r.2 }
        opDone o stOK 0 (le 4 (handleOf i g)) (setMoor i m s1)) s

/-- REKEY (R209): the key goes to the area not selected, which is then selected. -/
def rekeyRun (o : Op) (s : State) : State :=
  let b := pbBody o.pb
  let i := dRef o.desc % 2 ^ 22
  let m := getMoor s i
  withKey o (fun key => key == keyOf m m.keySel) (fun key r s =>
    let a := key.zipWith (· ^^^ ·) r.2
    let m1 : Mooring := { m with
      keySel := 1 - m.keySel, salt := r.1, ctr := 0, winValid := false, window := 0
      rekeyAt := rekeyAtOf b, rekeyCount := (m.rekeyCount + 1) % 2 ^ 32, rekeyTime := rtcStamp s
      mflags := m.mflags % 4 + mFlags b / 4 % 4 * 4 }
    let m2 : Mooring := if m.keySel = 0 then { m1 with shareA1 := a, shareB1 := r.2 }
      else { m1 with shareA0 := a, shareB0 := r.2 }
    opDone o stOK 0 (le 4 (dRef o.desc)) (touch i true (setMoor i m2 s))) s

/-- Log entry 64: DEDUCED. -/
def execOpMoor (tag : Fin 4096) (s : State) : Host.Outcome State Fault Refusal := .next (onRunning 0x10 tag.val moorRun s)

def execOpRekey (tag : Fin 4096) (s : State) : Host.Outcome State Fault Refusal :=
  .next (onRunning 0x11 tag.val rekeyRun s)

/-- UNMOOR (R210): the generation advanced at its admission, and the slot now waits for its release. -/
def execOpUnmoor (tag : Fin 4096) (s : State) : Host.Outcome State Fault Refusal :=
  .next (onRunning 0x12 tag.val (fun o t => putOp { o with stage := .draining } t) s)

/-- The UNMOOR in flight on a mooring. -/
def unmoorOp (s : State) (i : Nat) : Option Op :=
  s.ops.find? fun o => dOpcode o.desc == 0x12 && o.moored && dRef o.desc % 2 ^ 22 == i

/-- Every other operation that passed the mooring stage on the mooring has completed, and its UNMOOR has run or ended. -/
def releaseReady (s : State) (i : Nat) : Bool :=
  (getMoor s i).unmooring &&
  !(s.ops.any fun o => o.moored && dOpcode o.desc != 0x12 && (opMoors o).contains i) &&
  (match unmoorOp s i with | none => true | some o => o.stage == .draining)

/-- UNMOOR_RELEASE (R194, R210, R220). `readBackOk` says that the rewritten lines of a POISONED slot read back. -/
def execUnmoorRelease (i : Fin 4194304) (readBackOk : Bool) (s : State) : Host.Outcome State Fault Refusal :=
  .next (if dpRuns s && releaseReady s i.val then
    match unmoorOp s i.val with
    | none => releaseSlot i.val readBackOk s
    | some o => opDone { o with moored := false } stOK 0 [] (releaseSlot i.val readBackOk s)
  else s)

/-- MOOR_QUERY with ALG 0 (R213) writes the record as it stood at its admission. -/
def execOpMoorQuery (tag : Fin 4096) (s : State) : Host.Outcome State Fault Refusal :=
  .next (onRunning 0x13 tag.val (fun o t =>
    if dAlg o.desc = 0 then
      opDone { o with outWritten := true, written := o.out.length } stOK 0 [] (writeOut o o.out t)
    else t) s)

/-- The RETIRED slots of a domain that no operation names, in index order. -/
def sweepable (s : State) (d : Nat) : List Nat :=
  (s.moor.slots.filter fun e => e.2.state == .retired && e.2.owner == d && !locked s e.1).map Prod.fst

/-- A sweep (R211): each such slot becomes FREE with generation 1 and joins the tail of the free list. -/
def sweep (d : Nat) (s : State) : State :=
  (sweepable s d).foldl (fun t i => giveFree i (setMoor i {} t)) s

/-- MOOR_QUERY with ALG 1 (R211). -/
def execMoorQuerySweep (tag : Fin 4096) (s : State) : Host.Outcome State Fault Refusal :=
  .next (onRunning 0x13 tag.val (fun o t =>
    if dAlg o.desc = 1 then opDone o stOK 0 (le 4 (sweepable t o.dom).length) (sweep o.dom t) else t) s)

/-! ## FENCE (R176, R177) -/

/-- The operations that a FENCE with ABORT_PRIOR ends: marked ones that are not held for completion order. One that its
port's loss ends gets no entry, and one whose engines disagreed keeps its COMPARE_FAIL (R284).
(Log entry 224: DESIGN CHOICE.) -/
def fenceEnds (f o : Op) : Bool :=
  o.marked && o.dom == f.dom && o.q == f.q && decide (o.seqNo < f.seqNo) && o.stage != .held && !o.lost &&
  o.status != stCompareFail

/-- A marked operation ends with ABORTED and DETAIL 1; one whose scrub runs already takes that status at its end. -/
def fenceEnd (s : State) (o : Op) : State :=
  match findOp s o.tag with
  | none => s
  | some x =>
    if x.stage = .scrubbing then putOp { x with status := stAborted, detail := 1 } s else abortOp x stAborted 1 s

/-- FENCE (R176, R177). -/
def execOpFence (tag : Fin 4096) (s : State) : Host.Outcome State Fault Refusal :=
  .next (onRunning 0x31 tag.val (fun f t =>
    if nbit (dFlags f.desc) 2 then
      let l := t.ops.filter (fenceEnds f)
      l.foldl fenceEnd (putOp { f with stage := .draining, result := le 2 l.length } t)
    else putOp { f with stage := .draining } t) s)

/-- FENCE_COMPLETE (R176): every earlier operation of the queue pair has had its completion issued. -/
def execFenceComplete (tag : Fin 4096) (s : State) : Host.Outcome State Fault Refusal :=
  .next (match findLive s tag.val with
    | none => s
    | some f =>
      if f.stage = .draining && dOpcode f.desc = 0x31 &&
          !(s.ops.any fun o => o.dom == f.dom && o.q == f.q && decide (o.seqNo < f.seqNo)) then
        opDone f stOK 0 f.result s
      else s)

end Sys2Proof.Machine
end

