-- ==== Sys2Proof/Machine/Hash.lean ====
section
/-! DEFINITION. The hash unit (10 of spec/): dispatch to pipe contexts, HASH, MAC and KDF. -/
namespace Sys2Proof.Machine
open Sys2Proof (primBytes primOk)

def getPipe (s : State) (n : Nat) : Pipe := mget {} s.pipes n
def setPipe (n : Nat) (p : Pipe) (s : State) : State := { s with pipes := mset {} s.pipes n p }

/-- The operations whose message or hash stream a pipe carries. -/
def pipeOps (s : State) (n : Nat) : List Op := s.ops.filter fun o => o.pipe == some n && o.stage != .held

/-- A context of a pipe is idle. -/
def ctxFree (s : State) (n c : Nat) : Bool := !((pipeOps s n).any fun o => o.ctx == c)

/-- The first pipe, and context of it, that is ON and idle among the contexts given. -/
def findCtx (s : State) (cs : List Nat) : Option (Nat × Nat) :=
  ((List.range 8).map fun n => cs.map fun c => (n, c)).flatten.find? fun p =>
    (pipeUnit s p.1).st == .on && ctxFree s p.1 p.2

/-- Where a host message goes (R253): contexts 2 and 3 first, then an idle context 0 or 1. -/
def hostCtx (s : State) : Option (Nat × Nat) :=
  match findCtx s [2, 3] with
  | some p => some p
  | none => findCtx s [0, 1]

/-- Where a public-key stream goes (R261): contexts 0 and 1 first, then an idle context of the other kind; the lowest
pipe is DEDUCED from R253. (Log entry 77: DEDUCED.) -/
def streamCtx (s : State) : Option (Nat × Nat) :=
  match findCtx s [0, 1] with
  | some p => some p
  | none => findCtx s [2, 3]

/-- No pipe is ON or STARTING (R263). -/
def noPipes (s : State) : Bool :=
  (List.range 8).all fun n => (pipeUnit s n).st != .on && (pipeUnit s n).st != .starting

/-- The oldest hash message of a domain that waits for a pipe. -/
def oldestHash (s : State) (d : Nat) : Option Op := oldestOf isHashOp s d

/-- The charge of R262. -/
def hashCharge (d : Bytes) : Nat :=
  let n := if dOpcode d = 7 then dOutLen d else dInLen d
  max 64 ((n + 63) / 64 * 64)

/-- With no input to wait for, a dispatched message runs at once. -/
def runIfArrived (tag : Nat) (s : State) : State :=
  match findOp s tag with
  | none => s
  | some o => if o.stage = .dispatched && o.arrived then putOp { o with stage := .running } s else s

/-- HASH_DISPATCH (R253, R262, R263, R643). -/
def dispatchHash (s : State) : State :=
  match drrRun .hash (oldestHash s) (fun d => (oldestHash s d).isSome && ((hostCtx s).isSome || noPipes s)) s with
  | none => s
  | some (d, s1) => match oldestHash s d with
    | none => s
    | some o =>
      let more := s.ops.any fun p => p.dom == d && p.tag != o.tag && p.stage == .ready && isHashOp p.desc
      let s2 := drrCharge .hash d (hashCharge o.desc) more s1
      match hostCtx s with
      | none => endOp o stAborted 4 s2
      | some (n, c) =>
        runIfArrived o.tag (issueReads { o with unit := some (pipeId n), pipe := some n, ctx := c } s2)

def execHashDispatch (s : State) : Host.Outcome State Fault Refusal := .next (whenRuns dpRuns dispatchHash s)

/-- Blocks that a hash absorbs (R254; the padding is that of FIPS 180-4 and FIPS 202). (Log entry 76: PRESUMED.) -/
def hashBlocks (alg len : Nat) : Nat :=
  match alg with
  | 1 => (len + 9 + 63) / 64
  | 2 => (len + 17 + 127) / 128
  | 3 => (len + 17 + 127) / 128
  | 0x12 => len / 104 + 1
  | 0x13 => len / 72 + 1
  | 0x21 => len / 168 + 1
  | _ => len / 136 + 1

/-- Output blocks of a SHAKE beyond the one its absorption ends with. -/
def squeezeBlocks (alg n : Nat) : Nat := if alg = 0x21 then (n - 1) / 168 else if alg = 0x22 then (n - 1) / 136 else 0

/-- Blocks of an HMAC over `n` bytes: two are added for each message (R254). -/
def hmacBlocks (alg n : Nat) : Nat := hashBlocks (alg % 16) n + 2

/-- Blocks of a derivation (R254): HKDF takes two HMACs of the key for extraction, and one HMAC for each output block; the
counter mode takes one for each output block (R260). -/
def kdfBlocks (alg key la lb n : Nat) : Nat :=
  let m := (n + hashLen alg - 1) / hashLen alg
  if alg < 16 then
    2 * hmacBlocks alg key +
      ((List.range m).map fun i => hmacBlocks alg ((if i = 0 then 0 else hashLen alg) + lb + 1)).foldl (· + ·) 0
  else m * hmacBlocks alg (la + lb + 9)

/-- Blocks a message takes. -/
def messageBlocks (o : Op) : Nat :=
  let d := o.desc
  let a := dAlg d
  match dOpcode d with
  | 5 => hashBlocks a (dInLen d) + squeezeBlocks a (dOutLen d)
  | 6 => hmacBlocks a (dInLen d)
  | _ => kdfBlocks a o.key1.a.length (leAt (pbBody o.pb) 0 2) (leAt (pbBody o.pb) 2 2) (dOutLen d)

/-- HASH (R256). -/
def execOpHash (tag : Fin 4096) (s : State) : Host.Outcome State Fault Refusal :=
  .next (onRunning 5 tag.val (fun o t =>
    let a := dAlg o.desc
    let n := if a = 0x21 || a = 0x22 then dOutLen o.desc else hashLen a
    putOp { o with stage := .computed, out := primBytes (.hash a) n [o.input] } t) s)

/-- MAC (R257): generate makes the whole MAC, verify compares its leading AUX_LEN bytes. The shares of the key join at the
pipe's round input (R255). -/
def execOpMac (tag : Fin 4096) (s : State) : Host.Outcome State Fault Refusal :=
  .next (onRunning 6 tag.val (fun o t =>
    let m := hmac (dAlg o.desc % 128) o.key1.value o.input
    if dAlg o.desc < 128 then putOp { o with stage := .computed, out := m } t
    else putOp { o with stage := .computed, compareOk := m.take (dAuxLen o.desc) == o.auxIn } t) s)

/-- The bytes that a derivation gives (R258 to R260). -/
def kdfOut (o : Op) : Bytes :=
  let a := dAlg o.desc
  let b := pbBody o.pb
  let la := leAt b 0 2
  let x := slice b 8 la
  let y := slice b (8 + pad8 la) (leAt b 2 2)
  if a < 16 then hkdf a (dOutLen o.desc) o.key1.value x y else kbkdf a (dOutLen o.desc) o.key1.value x y

/-- KDF (R258 to R260). -/
def execOpKdf (tag : Fin 4096) (s : State) : Host.Outcome State Fault Refusal :=
  .next (onRunning 7 tag.val (fun o t => putOp { o with stage := .computed, out := kdfOut o } t) s)

/-- A pipe has processed blocks (R270). -/
def addPipeBlocks (n k : Nat) (s : State) : State :=
  let p := getPipe s n
  setPipe n { p with blocks := (p.blocks + k) % 2 ^ 48 } s

end Sys2Proof.Machine
end

