-- ==== Sys2Proof/Machine/Pk.lean ====
section
/-! DEFINITION. The public-key engines (11 of spec/): dispatch and reservation, the operations, compare and validity, and
early endings. -/
namespace Sys2Proof.Machine
open Sys2Proof (primBytes primOk)

def getPair (s : State) (n : Nat) : Pair := mget {} s.pairs n
def setPair (n : Nat) (p : Pair) (s : State) : State := { s with pairs := mset {} s.pairs n p }

/-- The pair an operation was dispatched to, or has reserved. -/
def pairOf (o : Op) : Option Nat := match o.unit with | some (.pair i) => some i.val | _ => none

/-- The operations on a pair's engines. -/
def pairOps (s : State) (n : Nat) : List Op :=
  s.ops.filter fun o => pairOf o == some n && !o.reserved && o.stage != .held

/-- A pair is reserved (R274). -/
def pairReserved (s : State) (n : Nat) : Bool := s.ops.any fun o => pairOf o == some n && o.reserved

/-- The operation runs on both engines (R169, R283). -/
def opDup (d : Bytes) : Bool := isPrivateOp d || nbit (dFlags d) 1

/-! ## Charges (R275, R292, R646) -/

/-- Occupancies of the Weierstrass operations of slots 0 to 4, in units of 10 ns: sign and key generation, verify, ECDH. -/
def ecOcc (slot : Nat) : Nat × Nat × Nat :=
  match slot with
  | 0 => (1500, 3000, 1710)
  | 1 => (4000, 8000, 4560)
  | 2 => (10000, 20000, 11400)
  | 3 => (3420, 6840, 3900)
  | _ => (9120, 18200, 10400)

/-- The built-in curve that a loaded curve is charged as: the smallest field at or above its own (R275). -/
def chargeSlot (bits : Nat) : Nat := if bits ≤ 256 then 0 else if bits ≤ 384 then 1 else 2

/-- The number of 1 bits of a number below 2^fuel. -/
def popCount : Nat → Nat → Nat
  | 0, _ => 0
  | fuel + 1, n => n % 2 + popCount fuel (n / 2)

/-- RSA public occupancy: the next larger listed modulus, scaled by the squarings and multiplications of e. -/
def rsaPubOcc (k e : Nat) : Nat :=
  let base := if k ≤ 128 then 200 else if k ≤ 256 then 800 else if k ≤ 384 then 1800 else 3200
  if e = 65537 then base else (base * (bitLen 64 e - 1 + (popCount 64 e - 1)) + 16) / 17

/-- RSA_PUBLIC's exponent (R276, R345). -/
def rsaE (o : Op) : Nat := if dRef o.desc = 0 then pkE o.pb else unbe (o.keyPub.drop (o.keyPub.length - 4))

/-- The nominal occupancy of an operation, in units of 10 ns. -/
def pkOcc (s : State) (o : Op) : Nat :=
  let d := o.desc
  let op := dOpcode d
  let w := match liveCopy s o.bank o.curveSlot with
    | .asReset => ecOcc o.curveSlot
    | .loaded b => ecOcc (chargeSlot (leAt b 0 2))
  match dAlg d with
  | 1 => if op = 0x21 then w.2.1 else w.1
  | 2 => if op = 0x22 then w.2.2 else w.1
  | 3 => 1200
  | 4 => if op = 0x21 then 2400 else 1330
  | 5 => if op = 0x21 then 7200 else 4000
  | 0x10 => if op = 0x26 then rsaPubOcc (rsaK o) (rsaE o) else
      (if rsaK o ≤ 256 then 20000 else if rsaK o ≤ 384 then 60800 else 133300)
  | 0x20 => if op = 0x23 then 666 else 800
  | 0x21 => if op = 0x23 then 1000 else 1200
  | 0x22 => if op = 0x23 then 1500 else 1800
  | 0x28 => if op = 0x20 then 3000 else if op = 0x21 then 1000 else 1300
  | 0x29 => if op = 0x20 then 4800 else if op = 0x21 then 1500 else 2000
  | _ => if op = 0x20 then 7500 else if op = 0x21 then 2400 else 3000

/-- The charge of R275. (Log entry 80: DEDUCED.) -/
def pkCharge (s : State) (o : Op) : Nat := if opDup o.desc then pkOcc s o else (pkOcc s o + 1) / 2

/-! ## Start of an operation (R263, R280, R281, R289) -/

/-- The operation needs a hash stream (R261). -/
def needsStream (d : Bytes) : Bool := isLatticeAlg (dAlg d) || dAlg d == 4 || dAlg d == 5

/-- The curve an operation was admitted under (R301). -/
def curveFor (o : Op) : Curve := curveOf o.curveB

/-- The public key an operation takes; a lattice key record holds only the seed it is regenerated from (R343). -/
def pubOf (o : Op) : Bytes :=
  if dRef o.desc = 0 then pkPub o.pb
  else if o.keyPub.isEmpty then publicWith (dAlg o.desc) (curveFor o) (pubLen (dAlg o.desc) o.cL) o.key1.value
  else o.keyPub

/-- The private value an operation uses: the key record's, or the blob's. -/
def privOf (s : State) (o : Op) : Bytes :=
  if dRef o.desc = 0 then blobSecret s o.dom (pkBlob o.pb) (secretLen (dAlg o.desc) o.cLn) else o.key1.value

/-- The modulus of an RSA operation. -/
def rsaN (o : Op) : Nat := unbe ((opPub o).take (rsaK o))

/-- An input value out of range, or a public key that fails its validation (R280, R281). -/
def pkInputBad (o : Op) : Bool :=
  let d := o.desc
  let bad := !pubValidWith (dAlg d) (curveFor o) (pkPub o.pb)
  match dOpcode d with
  | 0x21 => dRef d == 0 && bad
  | 0x22 => bad
  | 0x23 => dRef d == 0 && bad
  | 0x25 => decide (rsaN o ≤ unbe o.input)
  | 0x26 => decide (rsaN o ≤ unbe o.input) ||
      (dRef d == 0 && (rsaN o % 2 == 0 || byteAt (pkPub o.pb) 0 == 0))
  | _ => false

/-! ## Draws (R283, R289, R315) -/

/-- Units of 8 B in the one draw that a scheme takes from the DRBG: k, m, rnd, or the seed of a key with the nonce of its
blob. Their lengths, but for the seeds of R277, are not specified. (Log entry 79: DESIGN CHOICE.) -/
def schemeUnits (d : Bytes) : Nat :=
  let a := dAlg d
  match dOpcode d with
  | 0x20 => if a = 1 then 8 else if isLatticeAlg a then 4 else 0
  | 0x23 => 4
  | 0x27 => 2 + (if a ≤ 2 then 9 else (secretLen a 0 + 7) / 8)
  | _ => 0

/-- A masked operation, which reseeds the mask generator of each engine with 16 B (R288, R315). -/
def isMasked (d : Bytes) : Bool :=
  isLatticeAlg (dAlg d) && (dOpcode d == 0x20 || dOpcode d == 0x24 || dOpcode d == 0x27)

/-- Units that each engine draws at an operation's start: not specified, at most 128 B (R289). -/
def drawUnits (s : State) (d : Bytes) : Nat :=
  let least := schemeUnits d + (if isMasked d then 2 else 0)
  if isPrivateOp d || dOpcode d = 0x23 then least + freeNow s % (17 - least) else 0

/-- The engines an operation runs on. -/
def engines (o : Op) : List Nat := if o.eng = 2 then [0, 1] else [o.eng]

/-- Units that an operation takes from its pair's buffer: the scheme's draw once, and for each engine its own. -/
def drawTotal (o : Op) : Nat :=
  let own := o.draw - schemeUnits o.desc
  schemeUnits o.desc + own * (engines o).length

/-- The pair's buffer can supply the operation's draws. -/
def drawReady (s : State) (o : Op) (n : Nat) : Bool := decide (drawTotal o ≤ (getPair s n).rand.length)

/-- The randomness buffer is filled while the source generates (R271, R289). -/
def refillPair (n : Nat) (s : State) : State :=
  let p := getPair s n
  let m := 8 * (32 - p.rand.length)
  if rngOn s then useDrbg m (setPair n { p with rand := p.rand ++ blocks 8 (drbgBytes s m) } s) else s

/-- What an engine's operand memory holds of an operation. -/
def operands (s : State) (o : Op) : Bytes := privOf s o ++ pubOf o ++ pkCtx o.pb ++ o.input ++ o.auxIn

/-- A pair at the start of an operation: its operands loaded, its draws taken from the buffer, and a masked operation's
generators reseeded (R289, R315). -/
def pairStart (s : State) (o : Op) (p : Pair) : Pair :=
  let own := o.draw - schemeUnits o.desc
  let seed (i : Nat) : Nat := unle ((p.rand.drop (schemeUnits o.desc + own * i)).take 2).flatten
  let a := o.eng != 1
  let b := o.eng != 0
  let m := isMasked o.desc
  { p with
    rand := p.rand.drop (drawTotal o)
    memA := if a then .data (operands s o) else p.memA
    memB := if b then .data (operands s o) else p.memB
    maskA := if m && a then seed 0 else p.maskA
    maskB := if m && b then seed ((engines o).length - 1) else p.maskB }

/-- Start an operation on its engines. -/
def startOnPair (o : Op) (n : Nat) (c : Option (Nat × Nat)) (s : State) : State :=
  let p := getPair s n
  let o1 := { o with
    stage := .running, dup := opDup o.desc, pipe := c.map Prod.fst, ctx := (c.map Prod.snd).getD 0
    drawn := (p.rand.take (schemeUnits o.desc)).flatten }
  refillPair n (putOp o1 (setPair n (pairStart s o p) s))

/-- Start an operation whose data has arrived: its inputs are judged, its hash context taken, its draws supplied. -/
def tryStartPk (s : State) (tag : Nat) : State :=
  match findOp s tag with
  | none => s
  | some o => match pairOf o with
    | none => s
    | some n =>
      if !(o.stage == .dispatched && o.arrived && !o.reserved && worksOn (pairUnit s n).st) then s
      else if pkInputBad o then endOp o stBadParameter 3 s
      else if needsStream o.desc && noPipes s then endOp o stAborted 4 s
      else
        let c := if needsStream o.desc then streamCtx s else none
        if (needsStream o.desc && c.isNone) || !drawReady s o n then s else startOnPair o n c s

/-- Start every operation that can start, in admission order. -/
def startPk (s : State) : State :=
  ((s.ops.filter fun o => (pairOf o).isSome && o.stage == .dispatched).map Op.tag).foldl tryStartPk s

/-! ## Dispatch (R274, R275, R643) -/

/-- No operation runs on the pair, and none is scrubbed there. -/
def pairIdle (s : State) (n : Nat) : Bool := (pairOps s n).isEmpty

/-- A scrub runs on the pair. -/
def pairScrubbing (s : State) (n : Nat) : Bool := (pairOps s n).any fun o => o.stage == .scrubbing

/-- An engine of the pair that runs nothing. -/
def freeEngine (s : State) (n : Nat) : Option Nat :=
  [0, 1].find? fun e => !((pairOps s n).any fun o => o.eng == e || o.eng == 2)

def pairOnNow (s : State) (n : Nat) : Bool := (pairUnit s n).st == .on

/-- The earliest ON pair able to take the operation, with the engines it gets. -/
def pairFor (s : State) (d : Bytes) : Option (Nat × Nat) :=
  if opDup d then
    ((pairOrder s.part).find? fun n => pairOnNow s n && !pairReserved s n && pairIdle s n).map fun n => (n, 2)
  else
    (pairOrder s.part).findSome? fun n =>
      if pairOnNow s n && !pairReserved s n && !pairScrubbing s n then (freeEngine s n).map fun e => (n, e) else none

/-- The earliest ON pair that holds no reservation. -/
def reservable (s : State) : Option Nat := (pairOrder s.part).find? fun n => pairOnNow s n && !pairReserved s n

/-- The oldest PK operation of a domain that waits and holds no reservation. -/
def oldestPk (s : State) (d : Nat) : Option Op := oldestOf isPkOp s d

/-- A domain can be taken: it has no reserved operation waiting, and a pair can take or be reserved for its oldest. -/
def pkTakeable (s : State) (d : Nat) : Bool :=
  match oldestPk s d with
  | none => false
  | some o => !o.reserved && ((pairFor s o.desc).isSome || (opDup o.desc && (reservable s).isSome))

/-- Dispatch to the pair and engines given. -/
def dispatchPk (o : Op) (n e : Nat) (s : State) : State :=
  let o1 := { o with unit := some (pairId n), eng := e, reserved := false, draw := drawUnits s o.desc }
  tryStartPk (issueReads o1 (useFree s)) o.tag

/-- A reserved operation starts once its pair is idle; when the pair has left ON it takes or reserves the next. -/
def stepReserved (s : State) (tag : Nat) : State :=
  match findOp s tag with
  | none => s
  | some o =>
    let keeps := match pairOf o with | some n => pairOnNow s n | none => false
    let free := putOp { o with unit := none } s
    if keeps then
      match pairOf o with
      | some n => if pairIdle s n then dispatchPk o n 2 s else s
      | none => s
    else match pairFor free o.desc with
      | some (n, e) => dispatchPk o n e free
      | none => match reservable free with
        | some n => putOp { o with unit := some (pairId n) } free
        | none => free

/-- Reserved operations, in admission order. -/
def stepAllReserved (s : State) : State := ((s.ops.filter Op.reserved).map Op.tag).foldl stepReserved s

/-- Reserved operations first, then one selection by the PK loop. -/
def dispatchPks (s : State) : State :=
  let s0 := stepAllReserved (startPk s)
  match drrRun .pk (oldestPk s0) (pkTakeable s0) s0 with
  | none => s0
  | some (d, s1) => match oldestPk s0 d with
    | none => s0
    | some o =>
      let more := s0.ops.any fun p => p.dom == d && p.tag != o.tag && p.stage == .ready && isPkOp p.desc
      match pairFor s0 o.desc with
      | some (n, e) => dispatchPk o n e (drrCharge .pk d (pkCharge s0 o) more s1)
      | none => match reservable s0 with
        | some n => putOp { o with reserved := true, unit := some (pairId n) } (drrCharge .pk d (pkCharge s0 o) true s1)
        | none => s0

/-- PK_DISPATCH (R274, R275, R643); an operation that waits for a hash context takes one that has come free (R261). -/
def execPkDispatch (s : State) : Host.Outcome State Fault Refusal := .next (whenRuns dpRuns dispatchPks s)

/-! ## The operations (R277, R278, R281) -/

/-- The engines have a result; nothing is written before the comparison (R283). -/
def pkResult (o : Op) (out aux : Bytes) (good : Bool) (s : State) : State :=
  putOp { o with stage := .computed, out := out, aux := aux, compareOk := good } s

/-- PK_SIGN: k and rnd are the one draw of the operation (R281, R283). -/
def execOpPkSign (tag : Fin 4096) (s : State) : Host.Outcome State Fault Refusal :=
  .next (onRunning 0x20 tag.val (fun o t =>
    let a := dAlg o.desc
    pkResult o (signWith a (curveFor o) (sigLen a o.cLn) (privOf t o) o.input (pkCtx o.pb) o.drawn) [] true t) s)

/-- PK_VERIFY (R282). -/
def execOpPkVerify (tag : Fin 4096) (s : State) : Host.Outcome State Fault Refusal :=
  .next (onRunning 0x21 tag.val (fun o t =>
    pkResult o [] [] (verifyWith (dAlg o.desc) (curveFor o) (pubOf o) o.input o.auxIn (pkCtx o.pb)) t) s)

/-- The shared secret of PK_AGREE, or nothing where the result is infinity or all zero (R281). -/
def agreeSecret (s : State) (o : Op) : Option Bytes :=
  if dAlg o.desc = 2 then ecdh (curveFor o) (privOf s o) (pkPub o.pb)
  else
    let z := primBytes (.agree 3) 32 [privOf s o, pkPub o.pb]
    if allZero z then none else some z

/-- PK_AGREE: a result at infinity or all zero is rejected (R281). -/
def execOpPkAgree (tag : Fin 4096) (s : State) : Host.Outcome State Fault Refusal :=
  .next (onRunning 0x22 tag.val (fun o t =>
    let z := agreeSecret t o
    pkResult o (z.getD []) [] z.isSome t) s)

/-- KEM_ENCAPS: m is the one draw of the operation. -/
def execOpKemEncaps (tag : Fin 4096) (s : State) : Host.Outcome State Fault Refusal :=
  .next (onRunning 0x23 tag.val (fun o t =>
    let a := dAlg o.desc
    let args := [latticeSet a, pubOf o, o.drawn]
    pkResult o (primBytes (.encapsCt a) (ctLen a) args) (primBytes (.encapsSecret a) 32 args) true t) s)

/-- KEM_DECAPS, with implicit rejection. -/
def execOpKemDecaps (tag : Fin 4096) (s : State) : Host.Outcome State Fault Refusal :=
  .next (onRunning 0x24 tag.val (fun o t =>
    let a := dAlg o.desc
    pkResult o [] (primBytes (.decaps a) 32 [latticeSet a, privOf t o, o.input]) true t) s)

/-- RSA_PRIVATE: input ^ d mod n by CRT, big-endian (R281). -/
def execOpRsaPrivate (tag : Fin 4096) (s : State) : Host.Outcome State Fault Refusal :=
  .next (onRunning 0x25 tag.val (fun o t =>
    pkResult o (be (rsaK o) (rsaCrt (rsaK o) o.key1.value (unbe o.input))) [] true t) s)

/-- RSA_PUBLIC: input ^ e mod n, big-endian (R281). -/
def execOpRsaPublic (tag : Fin 4096) (s : State) : Host.Outcome State Fault Refusal :=
  .next (onRunning 0x26 tag.val (fun o t =>
    pkResult o (be (rsaK o) (powMod 33 (unbe o.input) (rsaE o) (rsaN o))) [] true t) s)

/-- The blob of a new key (R278). -/
def makeBlob (s : State) (o : Op) (secret nonce : Bytes) : Bytes :=
  let h := le 1 1 ++ le 1 (dAlg o.desc) ++ le 1 o.curveSlot ++ le 1 0 ++ le 2 o.dom ++ le 2 0 ++
    le 4 s.backup.bootCount ++ le 4 o.curveEp
  let enc := gcmCtr (blobKey s o.dom) nonce (slice secret 0 80)
  h ++ nonce ++ enc ++ zeros 4 ++ gcmTag 16 (blobKey s o.dom) nonce h enc

/-- The secret of a new key: a scalar by the scheme's rejection sampling, or the draw itself (R277, R281). -/
def newSecret (o : Op) : Bytes :=
  let a := dAlg o.desc
  if a ≤ 2 then be o.cLn (scalarOf (curveFor o) (o.drawn.drop 16)) else (o.drawn.drop 16).take (secretLen a o.cLn)

/-- PK_KEYGEN: the public key to the output, the blob to the auxiliary buffer. The blob's nonce and the key's seed are the
operation's draw. (Log entry 69: DESIGN CHOICE.) -/
def execOpPkKeygen (tag : Fin 4096) (s : State) : Host.Outcome State Fault Refusal :=
  .next (onRunning 0x27 tag.val (fun o t =>
    let a := dAlg o.desc
    let k := newSecret o
    pkResult o (publicWith a (curveFor o) (pubLen a o.cL) k) (makeBlob t o k (slice o.drawn 0 12)) true t) s)

/-! ## Endings (R283 to R285, R290, R291) -/

/-- A pair enters FAULTED (R24, R273): its operations end with ABORTED and DETAIL 4 after their scrub. -/
def faultPair (n cause : Nat) (s : State) : State :=
  if (pairUnit s n).st = .faulted then s
  else
    let s1 := moveUnit (pairId n) (unitStep (pairUnit s n) (.fault cause)) 2 s
    let s2 := abortWhere (fun o => pairOf o == some n && !o.reserved) stAborted 4 s1
    applyAllotment (recordFault 4 (n / 3) 2 cause s2)

/-- Write an operation's output and auxiliary output. -/
def writePk (o : Op) (s : State) : State :=
  let s1 := writeOut o o.out s
  if o.aux.isEmpty then s1 else emit (dataWrite s o.dom (dAuxAddr o.desc) o.aux) s1

/-- The status of an operation whose engines agreed. -/
def pkStatus (o : Op) : Nat × Nat :=
  if o.compareOk then (stOK, 0) else if dOpcode o.desc = 0x21 then (stAuthFail, 0) else (stBadParameter, 3)

/-- What a pair has done at an operation's normal end: its count, its stream's blocks, which are not specified, and its
zeroed operand memory (R270, R291, R297). (Log entry 225: DESIGN CHOICE.) -/
def pairDone (o : Op) (n : Nat) (s : State) : State :=
  let p := getPair s n
  let s1 := zeroMem o (setPair n { p with ops := (p.ops + 1) % 2 ^ 48 } s)
  match o.pipe with
  | none => s1
  | some i => useFree (addPipeBlocks i (freeNow s) s1)

/-- PK_OPERATION_COMPLETE (R151, R283 to R285, R291). (Log entry 81: DEDUCED.) -/
def execPkOperationComplete (tag : Fin 4096) (found : PkEnd) (s : State) : Host.Outcome State Fault Refusal :=
  .next (match findLive s tag.val with
    | none => s
    | some o => match pairOf o with
      | none => s
      | some n =>
        if o.stage ≠ .computed then s
        else match found with
        | .agree =>
          let s1 := pairDone o n s
          let st := pkStatus o
          if o.compareOk then
            let o1 := { o with outWritten := !(o.out.isEmpty && o.aux.isEmpty), written := o.out.length, drawn := [] }
            startPk (opDone o1 st.1 st.2 [] (writePk o s1))
          else startPk (opDone { o with out := [], aux := [], drawn := [] } st.1 st.2 [] s1)
        | .compare =>
          if !o.dup then s
          else
            let p := getPair s n
            let s1 := setPair n { p with compareFails := satAdd 255 p.compareFails 1 } s
            startPk (faultPair n 1 (raise 6 (toScrub o stCompareFail 0 s1)))
        | .validity =>
          let p := getPair s n
          let s1 := setPair n { p with validityFails := satAdd 255 p.validityFails 1 } s
          startPk (faultPair n 2 (toScrub o stAborted 4 s1)))

/-- PK_RAND_TIMEOUT (R289): 10 µs after the source has left ON, the buffer cannot supply the operation's draws. -/
def execPkRandTimeout (tag : Fin 4096) (s : State) : Host.Outcome State Fault Refusal :=
  .next (match findLive s tag.val with
    | none => s
    | some o => match pairOf o with
      | none => s
      | some n =>
        if o.stage = .dispatched && o.arrived && !o.reserved && rngFaulted s && !drawReady s o n then
          startPk (endOp o stNoEntropy 0 s)
        else s)

/-- A scrub that does not read back as zero: the pair enters FAULTED, or takes the cause where it is FAULTED already (R273,
R291). -/
def scrubFault (n : Nat) (s : State) : State :=
  if (pairUnit s n).st = .faulted then
    recordFault 4 (n / 3) 2 4 (setUnit (pairId n) { pairUnit s n with cause := 4 } s)
  else faultPair n 4 s

/-- PK_SCRUB_COMPLETE (R291): `zero` says that the operand memory read back as zero. -/
def execPkScrubComplete (tag : Fin 4096) (zero : Bool) (s : State) : Host.Outcome State Fault Refusal :=
  .next (match findLive s tag.val with
    | none => s
    | some o => match pairOf o with
      | none => s
      | some n =>
        if o.stage ≠ .scrubbing then s
        else
          let s1 := finishOp o (if zero then zeroMem o s else s)
          startPk (if zero then s1 else scrubFault n s1))

/-! ## Hash contexts come free (R255, R261, R263) -/

/-- HASH_MESSAGE_COMPLETE (R151, R255): the result is written, and the context is free again. -/
def execHashMessageComplete (tag : Fin 4096) (s : State) : Host.Outcome State Fault Refusal :=
  .next (match findLive s tag.val with
    | none => s
    | some o =>
      if o.stage = .computed && isHashOp o.desc then
        match o.pipe with
        | none => s
        | some n =>
          let s1 := addPipeBlocks n (messageBlocks o) s
          startPk (if o.compareOk then
            opDone { o with outWritten := !o.out.isEmpty, written := o.out.length } stOK 0 [] (writeOut o o.out s1)
          else opDone o stAuthFail 0 [] s1)
      else s)

/-- A pipe enters FAULTED (R24, R263): its messages, and the operations whose streams it carries, end with ABORTED and
DETAIL 4; so do operations that wait for a context once no pipe is left. -/
def faultPipe (n cause : Nat) (s : State) : State :=
  if (pipeUnit s n).st = .faulted then s
  else
    let s1 := moveUnit (pipeId n) (unitStep (pipeUnit s n) (.fault cause)) 2 s
    startPk (recordFault 4 3 2 cause (abortWhere (fun o => o.pipe == some n) stAborted 4 s1))

end Sys2Proof.Machine
end

