-- ==== Sys2Proof/Machine/Results.lean ====
section
/-! DEFINITION. The data an operation waited for arrives, or its read fails (R89, R186, R206, R234). -/
namespace Sys2Proof.Machine

/-- The data has arrived: the unit the operation stands at may start it. -/
def dataArrived (o : Op) (s : State) : State :=
  match o.unit with
  | some (.lane n) => startPasses n.val (putOp { o with arrived := true } s)
  | some (.pair _) => tryStartPk (putOp { o with arrived := true } s) o.tag
  | _ => putOp { o with stage := .running } s

/-- The check of R206 on the nonce that an inbound message has read; one that passes holds its counter and goes on. -/
def checkNonce (o : Op) (aux : Bytes) (next : Op → State → State) (s : State) : State :=
  let n := slice aux 0 12
  match inboundCheck s o n with
  | some (st, dt) => endOp { o with input := [] } st dt s
  | none => next { o with auxIn := n, heldCtr := some (unbe (slice n 4 8)) } s

/-- The input and auxiliary data of a dispatched operation, as its reads returned them. Pass 2 of a RESEAL reads only
its associated data again (R240). -/
def takeInput (o : Op) (input aux : Bytes) (s : State) : State :=
  let d := o.desc
  if dOpcode d = 3 then
    dataArrived { o with input := slice input 0 (if o.pass = 2 then dSplit d else dInLen d) } s
  else
    let o1 := { o with
      input := if usesIn d then slice input 0 (dInLen d) else []
      auxIn := if readsAux d then slice aux 0 (dAuxLen d) else [] }
    if dOpcode d = 2 then checkNonce { o1 with result := slice aux 0 12 } aux dataArrived s else dataArrived o1 s

/-- INPUT_READ_RESULT (R206, R234, R240, R253, R280). The data of an inbound message is taken once every earlier one of its
mooring has passed R206 (R208). (Log entry 207: DESIGN CHOICE.) -/
def execInputReadResult (tag : Fin 4096) (input aux : Bytes) (rtt : Nat) (s : State) : Host.Outcome State Fault Refusal :=
  .next (match findLive s tag.val with
    | none => s
    | some o =>
      let t := noteRtt (domPort o.dom) rtt s
      if inboundPending o && !inboundTurn s o then s
      else if o.stage = .waitNonce then checkNonce o aux makeReady t
      else if o.stage = .dispatched && !o.arrived && !o.reserved then takeInput o input aux t
      else s)

/-- The operation waits for a read of its input or auxiliary input. -/
def waitsData (o : Op) : Bool := o.stage == .waitNonce || (o.stage == .dispatched && !o.arrived && !o.reserved)

/-- DETAIL of a DMA_ERROR: the read of the parameter block or of the input (R186). -/
def dmaDetail (o : Op) : Nat := if o.stage = .waitPb then 2 else 3

/-- DMA_READ_ERROR (R89): a read that an operation waits for fails, and the operation ends with DMA_ERROR. -/
def execDmaReadError (tag : Fin 4096) (s : State) : Host.Outcome State Fault Refusal :=
  .next (match findLive s tag.val with
    | none => s
    | some o =>
      if o.stage = .waitPb || waitsData o then
        abortOp o stDmaError (dmaDetail o) (aerUncorr o.dom s)
      else s)

end Sys2Proof.Machine
end

