-- ==== Sys2Proof/Machine/Queues.lean ====
section
/-! DEFINITION. Queues and beacons (06 of spec/): polling, doorbells, sweeps, fetches, setup writes, and MSI-X. -/
namespace Sys2Proof.Machine

/-! ## Setup registers (R154 to R163) -/

/-- PORT_BEACON (R144, R163): a change of EN or ADDR discards what earlier reads return, and polling starts anew. -/
def writeBeacon (n v : Nat) (s : State) : State :=
  let p := getPort s n
  let en := nbit v 0
  let addr := v / 64 * 64
  if en == p.beaconEn && addr == p.beaconAddr then s
  else
    let starts := en && (!p.beaconEn || addr != p.beaconAddr)
    setPort n { p with
      beaconEn := en, beaconAddr := addr, gen := if en || p.beaconEn then p.gen + 1 else p.gen
      w250 := if en && !p.beaconEn then 1 else p.w250
      setsOnlyNext := starts || p.setsOnlyNext } s

/-- The queues of a port are swept (R143). -/
def sweepPort (n : Nat) (s : State) : State := readDoorbells .sweep (polledQueues s n) s

/-- The port beacon line is read (R140). -/
def readLine (n : Nat) (s : State) : State :=
  let p := getPort s n
  if !(p.beaconEn && p.linkUp) || p.beaconAddr = 0 then s
  else
    emit (.hostRead (64 * n) p.beaconAddr 64)
      (setPort n { p with
        l1 := false, setsOnlyNext := false, lineReads := p.lineReads ++ [⟨p.gen, p.setsOnlyNext⟩] } s)

/-- The register word of PORT_BEACON. -/
def beaconWord (p : Port) : Nat := b2n p.beaconEn + p.beaconAddr

/-- PORT_BEACON_WRITE (R82, R144, R163): the first read after EN rises is issued at once. (Log entry 46: DEDUCED.) -/
def execPortBeaconWrite (n : Fin 4) (h : Half) (v : Nat) (s : State) : Host.Outcome State Fault Refusal :=
  .next (whenRuns dpRuns (fun s => if !(portPresent s n.val && portUp s n.val) then s
  else
    let old := getPort s n.val
    let s1 := writeBeacon n.val (mergeHalf (beaconWord old) h v) s
    if (getPort s1 n.val).beaconEn && !old.beaconEn then readLine n.val s1 else s1) s)

/-- A setup address register's new value, and its old. -/
def setupField (x : Queue) (f : QpSetup) (h : Half) (v : Nat) : Queue × Nat × Nat :=
  match f with
  | .sqBase => let a := mergeHalf x.sqBase h v / 4096 * 4096; ({ x with sqBase := a }, x.sqBase, a)
  | .cqBase => let a := mergeHalf x.cqBase h v / 4096 * 4096; ({ x with cqBase := a }, x.cqBase, a)
  | .dbAddr => let a := mergeHalf x.dbAddr h v / 16 * 16; ({ x with dbAddr := a }, x.dbAddr, a)
  | .sizes => ({ x with sqLog2 := fld v 4 0, cqLog2 := fld v 9 5 }, x.sqLog2 + shl x.cqLog2 5, fld v 9 0)

def setupOff : QpSetup → Nat
  | .sqBase => 8
  | .cqBase => 16
  | .dbAddr => 24
  | .sizes => 32

/-- A write to a setup field (R158): logged, applied while the queue is OFF, and otherwise discarded and logged. A size
written with the value it holds changes nothing. -/
def writeSetup (d q : Nat) (f : QpSetup) (h : Half) (v : Nat) (s : State) : State :=
  let r := setupField (getQueue s d q) f h v
  let off := qpOff q (setupOff f)
  if f = .dbAddr && q = 64 then s
  else if (getQueueUnit s d q).st ≠ .off then
    (if f = .sizes && r.2.1 = r.2.2 then s else logDiscard d off r.2.1 r.2.2 s)
  else if r.2.1 = r.2.2 then s
  else loggedWrite d off r.2.1 r.2.2 false (setQueue d q r.1) s

/-- QP_SETUP_WRITE (R156 to R158, R161). -/
def execQpSetupWrite (d : Fin 256) (q : Fin 65) (f : QpSetup) (h : Half) (v : Nat) (s : State) :
    Host.Outcome State Fault Refusal :=
  .next (whenRuns dpRuns (fun s => if portUp s (domPort d.val) then writeSetup d.val q.val f h v s else s) s)

/-- The register word of QP_CONFIG (R157). -/
def configWord (x : Queue) : Nat :=
  x.sqLog2 + shl x.cqLog2 5 + shl x.pollClass 10 + shl (b2n x.irqEn) 12 + shl x.coalCount 14 + shl x.coalTime 22

/-- The fields of QP_CONFIG that take a write in any state (R153, R158, R161). (Log entry 213: DEDUCED.) -/
def writeConfig (d q v : Nat) (s : State) : State :=
  let x := getQueue s d q
  let c := fld v 11 10
  let irq := nbit v 12
  let s1 := if q ≠ 64 && c = 3 then logDiscard d (qpOff q 0x20) (configWord x) v s else s
  setQueue d q { x with
    pollClass := if q = 64 || c = 3 then x.pollClass else c, irqEn := irq, coalCount := fld v 21 14
    coalTime := fld v 31 22, irqPending := if irq then x.irqPending else 0, timerOn := irq && x.timerOn } s1

/-- QP_CONFIG_WRITE (R153, R158). -/
def execQpConfigWrite (d : Fin 256) (q : Fin 65) (v : BitVec 32) (s : State) : Host.Outcome State Fault Refusal :=
  .next (whenRuns dpRuns (fun s => if portUp s (domPort d.val) then
    writeConfig d.val q.val v.toNat (writeSetup d.val q.val .sizes .whole v.toNat s) else s) s)

/-- QP_DOM_BEACON_WRITE (R162). -/
def execQpDomBeaconWrite (d : Fin 256) (h : Half) (v : Nat) (s : State) : Host.Outcome State Fault Refusal :=
  let f := getFunc s d.val
  let a := mergeHalf f.domBeacon h v / 128 * 128
  .next (whenRuns dpRuns (fun s => if !portUp s (domPort d.val) then s
  else if (getDomUnit s d.val).st ≠ .off then logDiscard d.val 0x240 f.domBeacon a s
  else setFunc d.val { f with domBeacon := a } s) s)

/-! ## The poll loop (R140 to R144) -/

/-- PORT_LINE_READ (R140): the port interval has passed. -/
def execPortLineRead (n : Fin 4) (s : State) : Host.Outcome State Fault Refusal := .next (whenRuns dpRuns (fun s =>
    readLine n.val s) s)

/-- The first outstanding read that `p` picks, and the rest. -/
def takeFirst {α : Type} (p : α → Bool) : List α → Option (α × List α)
  | [] => none
  | a :: r => if p a then some (a, r) else (takeFirst p r).map fun x => (x.1, a :: x.2)

/-- A changed byte of the line: its block is read (R142). -/
def lineByte (n gen : Nat) (line : Bytes) (s : State) (f : Nat) : State :=
  let d := 64 * n + f
  let p := getPort s n
  let old := mget 0 p.seenPort f
  let b := byteAt line f
  if (domOn s d || adminServed s d) && b ≠ old then
    let s1 := setPort n { p with seenPort := mset 0 p.seenPort f b } s
    let a := (getFunc s d).domBeacon
    if a = 0 then s1
    else
      let e := s1.engine
      emit (.hostRead d a 128) { s1 with engine := { e with
        blockReads := e.blockReads ++ [⟨d, gen, old, false⟩] } }
  else s

/-- The line shows a changed byte of a function with an ON WARM queue or a served admin queue (R141). -/
def lineWarm (s : State) (n : Nat) (line : Bytes) : Bool :=
  (List.range 64).any fun f =>
    let d := 64 * n + f
    (domOn s d || adminServed s d) && byteAt line f ≠ mget 0 (getPort s n).seenPort f &&
      (adminServed s d || (List.range 64).any fun q => queueOn s d q && effClass s d q == 1)

/-- W after a port-line read (R141). -/
def nextW (warm : Bool) (w : Nat) : Nat := if warm then 1 else min 64 (2 * w)

/-- Every SEEN_PORT byte takes the line's (R144). -/
def seenAll (line : Bytes) : SMap Nat :=
  (List.range 64).foldl (fun m f => mset 0 m f (byteAt line f)) []

/-- PORT_LINE_RESULT (R141, R142, R144): results are processed in issue order.
(Log entries 47, 49: DEDUCED, DESIGN CHOICE.) -/
def execPortLineResult (n : Fin 4) (line : Bytes) (rtt : Nat) (s : State) : Host.Outcome State Fault Refusal :=
  let p := getPort s n.val
  .next (whenRuns dpRuns (fun s => match p.lineReads with
    | [] => s
    | r :: rest =>
      let s1 := noteRtt n.val rtt (setPort n.val { p with lineReads := rest } s)
      if r.gen ≠ p.gen then s1
      else if r.setsOnly then
        sweepPort n.val (modPort n.val (fun x => { x with seenPort := seenAll line, w250 := nextW false x.w250 }) s1)
      else
        let warm := lineWarm s1 n.val line
        (List.range 64).foldl (lineByte n.val r.gen line)
          (modPort n.val (fun x => { x with w250 := nextW warm x.w250 }) s1)) s)

/-- One toggle byte of a block (R142). -/
def blockByte (d gen : Nat) (blk : Bytes) (s : State) (q : Nat) : State :=
  let f := getFunc s d
  let old := mget 0 f.seenDom q
  let b := byteAt blk q
  if queueOn s d q && b ≠ old then
    readDoorbell d q (.block gen old) (setFunc d { f with seenDom := mset 0 f.seenDom q b } s)
  else s

/-- The SEEN_DOM bytes as a block holds them. -/
def seenBlock (blk : Bytes) : SMap Nat := (List.range 64).foldl (fun m q => mset 0 m q (byteAt blk q)) []

/-- DOMAIN_BLOCK_RESULT (R142, R144). -/
def execDomainBlockResult (d : Fin 256) (blk : Bytes) (rtt : Nat) (s : State) : Host.Outcome State Fault Refusal :=
  .next (whenRuns dpRuns (fun s => match takeFirst (fun r : BlockRead => r.dom == d.val) s.engine.blockReads with
    | none => s
    | some (r, rest) =>
      let e := s.engine
      let s1 := noteRtt (domPort d.val) rtt { s with engine := { e with blockReads := rest } }
      if r.initial then modFunc d.val (fun f => { f with seenDom := seenBlock blk }) s1
      else if r.gen ≠ (getPort s (domPort d.val)).gen || !(domOn s d.val || adminServed s d.val) then s1
      else
        let s2 := if adminServed s1 d.val then checkDoorbell d.val 64 (slice blk 64 16) s1 else s1
        (List.range 64).foldl (blockByte d.val r.gen blk) s2) s)

/-- The results of this doorbell read are discarded: its port-line read was issued before a change (R144), or its queue
is polled no more. -/
def dbStale (s : State) (r : DbRead) : Bool :=
  match r.cause with
  | .block g _ => !polled s r.dom r.q || g != (getPort s (domPort r.dom)).gen
  | .start => !queueOn s r.dom r.q
  | _ => !polled s r.dom r.q

/-- DOORBELL_RESULT (R142). -/
def execDoorbellResult (d : Fin 256) (q : Fin 65) (rec : Bytes) (rtt : Nat) (s : State) :
    Host.Outcome State Fault Refusal :=
  .next (whenRuns dpRuns (fun s => match takeFirst (fun r : DbRead => r.dom == d.val && r.q == q.val) s.engine.dbReads with
    | none => s
    | some (r, rest) =>
      let e := s.engine
      let s1 := noteRtt (domPort d.val) rtt { s with engine := { e with dbReads := rest } }
      if dbStale s r then s1
      else checkDoorbell d.val q.val rec (modQueue d.val q.val (fun x => { x with dbFails := 0 }) s1)) s)

/-- DOORBELL_RECHECK (R142): 250 ns after a stale read. -/
def execDoorbellRecheck (d : Fin 256) (q : Fin 65) (s : State) : Host.Outcome State Fault Refusal :=
  .next (whenRuns dpRuns (fun s => if (getQueue s d.val q.val).recheckDue && polled s d.val q.val then
    readDoorbell d.val q.val .recheck (modQueue d.val q.val (fun x => { x with recheckDue := false }) s) else s) s)

/-- QUEUE_SWEEP (R143). -/
def execQueueSweep (n : Fin 4) (s : State) : Host.Outcome State Fault Refusal := .next (whenRuns dpRuns (fun s =>
    sweepPort n.val s) s)

/-- A failed port-line read: SEEN_PORT is unchanged (R143), and W doubles (R141). -/
def lineFailed (n : Nat) (s : State) : State :=
  let p := getPort s n
  match p.lineReads with
  | [] => s
  | r :: rest =>
    let p1 := { p with
      lineReads := rest, setsOnlyNext := p.setsOnlyNext || (r.setsOnly && r.gen == p.gen)
      w250 := if r.gen = p.gen then nextW false p.w250 else p.w250 }
    noteReadErr (64 * n) (setPort n p1 s)

/-- A failed domain block read: SEEN_PORT[f] returns to its value before that read. -/
def blockFailed (d : Nat) (s : State) : State :=
  match takeFirst (fun r : BlockRead => r.dom == d) s.engine.blockReads with
  | none => s
  | some (r, rest) =>
    let e := s.engine
    let s1 := noteReadErr d { s with engine := { e with blockReads := rest } }
    if r.initial || r.gen ≠ (getPort s (domPort d)).gen then s1
    else modPort (domPort d) (fun p => { p with seenPort := mset 0 p.seenPort (domFn d) r.oldSeen }) s1

/-- A failed doorbell read: SEEN_DOM returns to its value before the block read that caused it; after 16 failures in a
row the queue faults with DB_READ (R155). -/
def doorbellFailed (d q : Nat) (s : State) : State :=
  match takeFirst (fun r : DbRead => r.dom == d && r.q == q) s.engine.dbReads with
  | none => s
  | some (r, rest) =>
    let e := s.engine
    let s1 := noteReadErr d { s with engine := { e with dbReads := rest } }
    if dbStale s r then s1
    else
      let s2 := match r.cause with
        | .block _ old => modFunc d (fun f => { f with seenDom := mset 0 f.seenDom q old }) s1
        | _ => s1
      let s3 := modQueue d q (fun x => { x with dbFails := x.dbFails + 1 }) s2
      if 16 ≤ (getQueue s3 d q).dbFails then faultQueue d q 4 s3 else s3

/-- BEACON_READ_FAILURE (R143). -/
def execBeaconReadFailure (r : PollRead) (s : State) : Host.Outcome State Fault Refusal :=
  .next (whenRuns dpRuns (fun s => match r with
    | .line n => lineFailed n.val s
    | .block d => blockFailed d.val s
    | .doorbell d q => doorbellFailed d.val q.val s) s)

/-! ## Fetches (R18, R89, R147) -/

/-- The descriptors of a fetch with their ring indices. -/
def fetchedList (log2 start count : Nat) (b : Bytes) : List Fetched :=
  (List.range count).map fun i => { idx := (start + i) % 2 ^ log2, desc := slice b (64 * i) 64 }

/-- Admin descriptors go to the hand-off ring, and ADMIN_QUEUE counts each (R18). -/
def handOff (d : Nat) (l : List Fetched) (s : State) : State :=
  let e := s.engine
  raiseTimes l.length 9 { s with engine := { e with handoff := e.handoff ++ l.map fun f => ⟨d, f.idx, f.desc, false⟩ } }

/-- Each descriptor that a failed fetch covered will complete with DMA_ERROR in its turn (R89, R107). -/
def failFetch (d q : Nat) (l : List Fetched) (s : State) : State :=
  let s1 := aerUncorr d s
  if q = 64 then
    let e := s1.engine
    settleAdmin d (e.handoff.length + l.length)
      { s1 with engine := { e with handoff := e.handoff ++ l.map fun f => ⟨d, f.idx, f.desc, true⟩ } }
  else
    let x := getQueue s1 d q
    settleQueue d q (x.fetched.length + l.length)
      (setQueue d q { x with fetched := x.fetched ++ l.map fun f => { f with failed := true } } s1)

/-- Fetched descriptors join their queue, or the hand-off ring. -/
def takeFetch (d q : Nat) (l : List Fetched) (s : State) : State :=
  if q = 64 then handOff d l s else modQueue d q (fun x => { x with fetched := x.fetched ++ l }) s

/-- DESCRIPTOR_FETCH_RESULT (R89, R147, R164, R165); what room there is lets further reads be issued.
(Log entry 51: DEDUCED.) -/
def execDescriptorFetchResult (d : Fin 256) (q : Fin 65) (data : Option Bytes) (rtt : Nat) (s : State) :
    Host.Outcome State Fault Refusal :=
  .next (whenRuns dpRuns (fun s =>
    match takeFirst (fun f : Fetch => f.dom == d.val && f.q == q.val) s.engine.fetches with
    | none => s
    | some (f, rest) =>
      let e := s.engine
      let s0 := { s with engine := { e with fetches := rest } }
      let s1 := if data.isSome then noteRtt (domPort d.val) rtt s0 else s0
      if f.stale then s1
      else
        let l := fetchedList (getQueue s d.val q.val).sqLog2 f.start f.count (data.getD [])
        fetchAll d.val q.val (if data.isSome then takeFetch d.val q.val l s1 else failFetch d.val q.val l s1)) s)

/-! ## MSI-X (R83, R153) -/

/-- COALESCE_TIMER (R153): COAL_TIME + 1 µs after the first pending entry. -/
def execCoalesceTimer (d : Fin 256) (q : Fin 64) (s : State) : Host.Outcome State Fault Refusal :=
  let x := getQueue s d.val q.val
  .next (whenRuns dpRuns (fun s => if x.timerOn && x.irqEn then
    sendMsix d.val (1 + q.val) (setQueue d.val q.val { x with irqPending := 0, timerOn := false } s) else s) s)

/-- Send the pending messages of vectors that nothing masks any more. -/
def sendUnmasked (d : Nat) (vs : List Nat) (s : State) : State :=
  vs.foldl (fun t v =>
    let f := getFunc t d
    if f.msixEn && !f.fnMask && nbit f.unmasked v && nbit f.pba v && portUp t (domPort d) then
      emit (msixOut t d v) (setFunc d { f with pba := clrBit f.pba v } t)
    else t) s

/-- MSIX_UNMASK (R153): a vector's mask bit, or with none the function mask, is cleared. -/
def execMsixUnmask (d : Fin 256) (v : Option (Fin 65)) (s : State) : Host.Outcome State Fault Refusal :=
  .next (whenRuns dpRuns (fun s => if !portUp s (domPort d.val) then s
  else match v with
    | some v => sendUnmasked d.val [v.val] (modFunc d.val (fun f => { f with unmasked := setBit f.unmasked v.val }) s)
    | none => sendUnmasked d.val (List.range 65) (modFunc d.val (fun f => { f with fnMask := false }) s)) s)

end Sys2Proof.Machine
end

