-- ==== Sys2Proof/Machine/DomainOps.lean ====
section
/-! DEFINITION. The life of domains and queues (R24, R27, R91, R111, R112, R127, R155, R160, R161): containment, starts,
stops, sessions, and the loss of functions and ports. -/
namespace Sys2Proof.Machine

/-! ## DOM_HOLD (R112, R130) -/

/-- The active policy bank permits the domain. -/
def domPermitted (s : State) (d : Nat) : Bool := nbit (effPerms (activeBank s) d) 0

/-- LIFECYCLE: the lifecycle state does not admit the domain. -/
def lifecycleHolds (s : State) (d : Nat) : Bool :=
  match s.lifecycle with
  | .factory => !(domFn d == 0 && domPresent s d)
  | .operational => false
  | _ => !isOwner s d

/-- A request to the stack is outstanding (R65). -/
def stackWanted (s : State) : Bool :=
  (List.range 256).any (fun d => (getDomUnit s d).st == .starting || domOn s d || (getDom s d).releasing) ||
  s.keys.building || !s.keys.scrubs.isEmpty || !s.moor.fills.isEmpty

/-- DRAM_WAKE: a request wakes the DRAM from self-refresh, or the domain waits in STARTING for the Mooring cluster (R64,
R112, R645). -/
def dramHolds (s : State) (d : Nat) : Bool :=
  (s.clocks.dramSr && stackWanted s) || ((getDomUnit s d).st == .starting && unitSt s .mooring != .on)

/-- DOM_HOLD's bits. -/
def domHold (s : State) (d : Nat) : Nat :=
  b2n (!domPermitted s d) + shl (b2n (lifecycleHolds s d)) 1 + shl (b2n (getDom s d).releasing) 2 +
  shl (b2n (dramHolds s d)) 3

/-! ## Queues (R24, R27, R155, R160, R161) -/

/-- The queue's container stops it (R27): the owner's admin queue stays while the device is LOCKED (R161). -/
def containedNow (s : State) (d q : Nat) : Bool := !(q == 64 && devLocked s && isOwner s d)

/-- A queue's move by the state table, with what it does to the queue's work. -/
def queueMove (d q : Nat) (ev : UnitEvent) (s : State) : State :=
  let r := getQueueUnit s d q
  let r' := unitStep r ev
  let s1 := if r.st = .on && r'.st ≠ .on then rollback d q s else s
  let s2 := setUnit (queueId d q) r' s1
  match ev with
  | .quiesce => if r.st = .on || r.st = .draining || r.st = .enablePending then
      abortWhere (fun o => o.dom == d && o.q == q) stAborted 2 s2 else s2
  | _ => s2

/-- Positions of a queue as after reset (R160). -/
def freshPositions (x : Queue) : Queue :=
  { x with fetchPtr := 0, sqTail := 0, cqTail := 0, phase := true, stale := 0, rechecks := 0, recheckDue := false
           dbFails := 0, resetPos := false, fetched := [] }

/-- Queue pairs of the device out of OFF, but for one; admin queues are not counted (R155). -/
def pairsOut (s : State) (d q : Nat) : Nat :=
  (s.units.filter fun e => 256 ≤ e.1 && e.1 < 256 + 256 * 65 && (e.1 - 256) % 65 != 64 && e.1 != 256 + d * 65 + q &&
    e.2.st != .off).length

/-- In the move from OFF to STARTING the positions take their reset values where host software's EN 1 caused it, and the
limit on queue pairs is judged. -/
def queueStarting (d q : Nat) (before : UnitState) (s : State) : State :=
  let x := getQueue s d q
  if (getQueueUnit s d q).st = .starting && before ≠ .starting then
    let x1 := { x with atLimit := decide (4096 ≤ pairsOut s d q) }
    setQueue d q (if x.resetPos then freshPositions x1 else x1) s
  else s

/-- A host write of EN to a queue (R24, R160). -/
def queueEn (d q : Nat) (v : Bool) (s : State) : State :=
  let st := (getQueueUnit s d q).st
  let s1 := if v && st != .on && st != .starting then modQueue d q (fun x => { x with resetPos := true }) s else s
  queueStarting d q st (queueMove d q (.enWrite v) s1)

/-- The stop of a queue that its domain contains; its EN stays as written (R27). -/
def containedStop (d : Nat) (s : State) (q : Nat) : State :=
  let r := getQueueUnit s d q
  if !containedNow s d q then s
  else
    let s1 := rollback d q s
    if r.st = .on then setUnit (queueId d q) (moveTo r .draining) s1 else s1

/-- The start of a queue that its domain contains, once the domain returns to ON (R27, R160). -/
def containedStart (d : Nat) (s : State) (q : Nat) : State :=
  let r := getQueueUnit s d q
  if r.en && r.st = .off then queueStarting d q .off (setUnit (queueId d q) (moveTo r .starting) s) else s

/-- The setup check of R155: no cause when it passes, and SETUP where both causes hold. (Log entry 211: DESIGN CHOICE.) -/
def setupCause (s : State) (d q : Nat) : Nat :=
  let x := getQueue s d q
  let sizeOk (n : Nat) : Bool := 6 ≤ n && n ≤ 16
  if !(sizeOk x.sqLog2 && sizeOk x.cqLog2) || x.cqLog2 < x.sqLog2 || x.sqBase = 0 || x.cqBase = 0 ||
      (q ≠ 64 && x.dbAddr = 0) || (getFunc s d).domBeacon = 0 then 1
  else if q ≠ 64 && x.atLimit then 2
  else 0

/-- A queue's initialisation ends (R155): ON, with one read of its doorbell record (R144), or FAULTED. -/
def queueInit (d q : Nat) (s : State) : State :=
  let r := getQueueUnit s d q
  if r.st ≠ .starting then s
  else
    let c := setupCause s d q
    if c ≠ 0 then recTile 1 1 1 c (setUnit (queueId d q) (unitStep r (.initFail c)) s)
    else readDoorbell d q .start (setUnit (queueId d q) (unitStep r .initDone) s)

/-- A queue's drain ends once nothing of it is in flight. -/
def queueDrained (d q : Nat) (s : State) : State :=
  let r := getQueueUnit s d q
  if queueInFlight s d q = 0 then queueStarting d q r.st (setUnit (queueId d q) (unitStep r .drained) s) else s

/-! ## Domains -/

/-- A domain's move by the state table, with what it does to its queues and its work (R24, R27, R127, R148). At ON its
beacon block is read (R144), and what its admin queue's doorbell record has shown is fetched (R105). -/
def domMove (d : Nat) (ev : UnitEvent) (s : State) : State :=
  let r := getDomUnit s d
  let r' := unitStep r ev
  let s1 := setUnit (domId d) r' s
  let s2 := if r.st = .on && r'.st ≠ .on then allQueues.foldl (containedStop d) s1 else s1
  let s3 := match ev with
    | .quiesce => if r.st = .on || r.st = .draining || r.st = .enablePending then
        abortWhere (fun o => o.dom == d) stAborted 2 s2 else s2
    | .fault _ => abortWhere (fun o => o.dom == d) stAborted 4 s2
    | _ => s2
  if r'.st = .on && r.st ≠ .on then
    let s4 := fetchAll d 64 (allQueues.foldl (containedStart d) s3)
    let a := (getFunc s4 d).domBeacon
    if a = 0 || !portUp s4 (domPort d) then s4
    else
      let e := s4.engine
      emit (.hostRead d a 128) { s4 with engine := { e with
        blockReads := e.blockReads ++ [⟨d, (getPort s4 (domPort d)).gen, 0, true⟩] } }
  else s3

/-- A domain's drain ends once nothing of it is in flight. With EN still 1 it passes to STARTING (R130). -/
def domDrained (d : Nat) (s : State) : State :=
  let r := getDomUnit s d
  if inFlight s d ≠ 0 then s
  else
    let r1 := unitStep r .drained
    setUnit (domId d) (if r.st = .draining && r.en then moveTo r1 .starting else r1) s

/-- The domain in STARTING reaches ON once no bit of DOM_HOLD is 1 (R111). (Log entry 40: DEDUCED.) -/
def domInit (d : Nat) (s : State) : State :=
  if domHold s d = 0 then domMove d .initDone s else s

/-- Clearing ENABLE of an ON domain acts as EN 0, but its EN stays as written (R130). -/
def permitStop (d : Nat) (s : State) : State :=
  let r := getDomUnit s d
  if r.st = .on && !domPermitted s d then
    let s1 := domMove d (.enWrite false) s
    setUnit (domId d) { getDomUnit s1 d with en := r.en } s1
  else s

/-- Every domain after a commit (R19, R130). -/
def permitStops (s : State) : State := (List.range 256).foldl (fun t d => permitStop d t) s

/-- A change of DEV_STATE or LIFECYCLE raises vector 0 of every function whose domain is ON (R83). -/
def announce (s : State) : State :=
  (List.range 256).foldl (fun t d => if domOn t d then sendMsix d 0 t else t) s

/-! ## Sessions (R123, R126) -/

/-- A class 0x04 entry (R492): 1 open, 2 close, 3 failure, 4 lock-out. -/
def sessionEntry (s : State) (d code cred : Nat) : LogEntry :=
  { adminEntry s d 0x04 code (if code = 4 then 2 else 1) (d + shl cred 8) 0 0 with status := 0 }

/-- A session event in the keeper cluster recorder and the logbook. -/
def logSession (d code cred : Nat) (s : State) : State :=
  recCluster 5 (if code = 4 then 2 else 1) code (logFw (sessionEntry s d code cred) s)

/-- The open ceremony ends without an unlock or recommissioning (R530). (Log entry 31: DEDUCED.) -/
def endCeremony (s : State) : State :=
  match s.watch.ceremony with
  | none => s
  | some _ => logFw (fwEntry s 0x05 0x07 3 0 0 0) { s with watch := { s.watch with ceremony := none } }

/-- The close of the owner domain's session ends a ceremony and discards a pending approval (R357, R530). -/
def ownerClosed (d : Nat) (s : State) : State :=
  if isOwner s d then endCeremony { s with keys := { s.keys with approval := none } } else s

/-- A session's end, with its entry (R126). -/
def dropSession (d : Nat) (s : State) : State :=
  match (getDom s d).session with
  | none => s
  | some x => logSession d 2 x.credential (modDom d (fun y => { y with session := none }) s)

/-- A session closes (R126). -/
def closeSession (d : Nat) (s : State) : State :=
  if (getDom s d).session.isNone then s else ownerClosed d (dropSession d s)

/-- A session closes with its port or function. A command that firmware has taken is still carried out (R95), so what the
session's close discards stands until that command ends. -/
def loseSession (d : Nat) (s : State) : State :=
  if s.engine.serving.any fun a => a.dom == d then dropSession d s else closeSession d s

/-! ## Losing a port or a function (R91 to R98) -/

/-- What a lost function's admin work, reads and queues become (R93, R95, R98). (Log entry 231: DEDUCED.) -/
def clearFunc (d : Nat) (s : State) : State :=
  let e := s.engine
  let s1 := { s with engine := { e with
    blockReads := e.blockReads.filter fun r => r.dom != d
    dbReads := e.dbReads.filter fun r => r.dom != d
    fetches := e.fetches.filter fun f => f.dom != d
    handoff := e.handoff.filter fun a => a.dom != d
    serving := e.serving.map fun a => if a.dom = d then { a with lost := true } else a } }
  let s2 := allQueues.foldl (fun t q => setUnit (queueId d q) {} (setQueue d q {} t)) s1
  modDom d (fun x => { x with challenge := none }) (loseSession d (setFunc d {} s2))

/-- A domain of a lost port or function: its operations end with DMA_ERROR, and it passes through DRAINING to OFF. -/
def loseDom (d : Nat) (s : State) : State :=
  let s1 := loseWhere (fun o => o.dom == d) s
  let r := unitStep (getDomUnit s1 d) .quiesce
  domDrained d (clearFunc d (setUnit (domId d) { r with en := false } s1))

/-- A port event other than a loss, with severity 1 in the host cluster recorder (R15, R100). -/
def portEvent (n b : Nat) (s : State) : State :=
  recCluster 0 1 b (modPort n (fun p => { p with events := setBit p.events b }) s)

/-- Port n is lost (R91, R100): `ev` is the bit of HPT_EVENTS. A link that was up leaves L0, which sets LINK_DOWN beside the
cause unless that is PERST#; where it was down, only the event is recorded. (Log entry 41: DEDUCED.) -/
def losePort (n ev : Nat) (s : State) : State :=
  let p := getPort s n
  if !p.linkUp then portEvent n ev s
  else
    let q : Port := {
      perst := p.perst, lossCount := satAdd 65535 p.lossCount 1, gen := p.gen + 1
      events := if ev = 1 then setBit p.events 1 else setBit (setBit p.events ev) 0 }
    let s1 := (portDoms n).foldl (fun t d => loseDom d t) (setPort n q s)
    logExempt (hwEntry 0x08 0x20 2 n) (recCluster 0 2 ev s1)

/-- The function keeps only what R98 names. (Log entry 44: DEDUCED.) -/
def flrFunc (d : Nat) (s : State) : State :=
  let s1 := loseDom d s
  let r := getDomUnit s1 d
  setUnit (domId d) (if r.st = .faulted then {} else { r with trans := 0, cause := 0 }) s1

end Sys2Proof.Machine
end

