-- ==== Sys2Proof/Machine/HostPorts.lean ====
section
/-! DEFINITION. The host ports (04 of spec/): links, losses, function resets, configuration requests and errors. -/
namespace Sys2Proof.Machine

/-! ## Strap and link (R71 to R77) -/

/-- The rate limit of a port's link, as a LINK_RATE (R73): 0 means 64 GT/s, and the reserved 7 sets no limit.
(Log entry 230: DESIGN CHOICE.) -/
def rateLimit (s : State) (n : Nat) : Nat :=
  let v := if n < 2 then fld s.strap 4 2 else fld s.strap 7 5
  if v = 0 || 6 < v then 6 else v

/-- The lanes of a port (R71). -/
def portLanes (s : State) (n : Nat) : Nat :=
  if n = 1 || n = 3 then 8
  else if n = 0 then (if nbit s.strap 0 then 8 else 16)
  else (if nbit s.strap 1 then 8 else 16)

/-- Boot has passed a step of R68. -/
def passed (s : State) (k : Nat) : Bool :=
  match s.power.phase with
  | .booting n => decide (k ≤ n)
  | .ready => true
  | _ => false

/-- A width that a port may train to (R74). -/
def widthOk (s : State) (n w : Nat) : Bool := (w == 1 || w == 2 || w == 4 || w == 8 || w == 16) && w ≤ portLanes s n

/-- LINK_TRAINING_COMPLETE (R76): the port reaches L0. -/
def execLinkTrainingComplete (n : Fin 4) (rate : Fin 7) (width : Fin 17) (flit : Bool) (s : State) :
    Host.Outcome State Fault Refusal :=
  let p := getPort s n.val
  .next (if portPresent s n.val && !p.linkUp && !p.perst && nbit s.clocks.portClk n.val && passed s 4 && rate.val ≠ 0 &&
      rate.val ≤ rateLimit s n.val && widthOk s n.val width.val then
    let s1 := setPort n.val { p with
      linkUp := true, rate := rate.val, width := width.val, negWidth := width.val, flit := flit || rate.val == 6 } s
    if rate.val < rateLimit s n.val || width.val < portLanes s n.val then portEvent n.val 4 s1 else s1
  else s)

/-- L0P_REQUEST (R75): granted; only the width changes. -/
def execL0pRequest (n : Fin 4) (width : Fin 17) (s : State) : Host.Outcome State Fault Refusal :=
  let p := getPort s n.val
  .next (if p.linkUp && p.flit && widthOk s n.val width.val && width.val ≤ p.negWidth then
    setPort n.val { p with width := width.val } s else s)

/-- No operation of the port's domains is in flight. -/
def portIdle (s : State) (n : Nat) : Bool := s.ops.all fun o => domPort o.dom != n

/-- ASPM_L1_ENTRY (R75): `pollDue` says that a beacon poll is due within 32 µs. -/
def execAspmL1Entry (n : Fin 4) (pollDue : Bool) (s : State) : Host.Outcome State Fault Refusal :=
  let p := getPort s n.val
  .next (if p.linkUp && p.l1Enabled && portIdle s n.val && !pollDue then setPort n.val { p with l1 := true } s else s)

/-- L1_EXIT (R64). -/
def execL1Exit (n : Fin 4) (s : State) : Host.Outcome State Fault Refusal :=
  .next (modPort n.val (fun p => { p with l1 := false }) s)

/-- PARTNER_RATE_CHANGE (R77). -/
def execPartnerRateChange (n : Fin 4) (rate : Fin 7) (s : State) : Host.Outcome State Fault Refusal :=
  let p := getPort s n.val
  .next (if p.linkUp && rate.val ≠ 0 && rate.val ≤ rateLimit s n.val then
    setPort n.val { p with rate := rate.val, flit := p.flit || rate.val == 6, l1 := false } s else s)

/-- PERST_RELEASE (R76): training may begin. -/
def execPerstRelease (n : Fin 4) (s : State) : Host.Outcome State Fault Refusal :=
  .next (if portPresent s n.val then modPort n.val (fun p => { p with perst := false }) s else s)

/-- PORT_REFCLK_STABLE (R55, R68 step 4, R69, R76): the port's PLL locks, from step 4 on and while PERST#_N is released. -/
def execPortRefclkStable (n : Fin 4) (s : State) : Host.Outcome State Fault Refusal :=
  .next (if portPresent s n.val && passed s 4 && !(getPort s n.val).perst then
    { s with clocks := { s.clocks with portClk := setBit s.clocks.portClk n.val } } else s)

/-- HPT_STRAP_WRITE (R10, R73, R622): stored and logged; after commissioning discarded and logged. -/
def writeStrap (v : Nat) (s : State) : State :=
  let w := fld v 7 0
  let e := fwEntry s 0x06 0x09 3 w s.strapNext w
  if s.lifecycle ≠ .factory then logFw { e with status := 0x13 } s
  else if (logRefusal s).isSome then countRefused s
  else appendSetting setStrap { logFw e s with strapNext := w }

/-- Log entry 43: DEDUCED. -/
def execHptStrapWrite (v : BitVec 32) (s : State) : Host.Outcome State Fault Refusal := .next (writeStrap v.toNat s)

/-! ## Losses (R91, R96, R98) -/

/-- A reset kind of R66 is recorded in CLK_RESET_CAUSE and logged: `k` is its place in the table of R66. -/
def noteReset (bit k : Nat) (s : State) : State :=
  let c := setBit s.clocks.resetCause bit
  logExempt (hwEntry 0x08 (0x10 + k) 2 c) { s with clocks := { s.clocks with resetCause := c } }

/-- PERST_ASSERT (R55, R66, R70, R91, R100): the port is lost, and its clock stops. -/
def execPerstAssert (n : Fin 4) (s : State) : Host.Outcome State Fault Refusal :=
  .next (if !portPresent s n.val || (getPort s n.val).perst then s
  else
    let s1 := modPort n.val (fun p => { p with perst := true })
      { s with clocks := { s.clocks with portClk := clrBit s.clocks.portClk n.val } }
    noteReset (4 + n.val) 2 (losePort n.val 1 s1))

/-- LINK_DOWN (R91). (Log entry 39: DEDUCED.) -/
def execLinkDown (n : Fin 4) (s : State) : Host.Outcome State Fault Refusal :=
  .next (if (getPort s n.val).linkUp then losePort n.val 0 s else s)

/-- UNCORRECTABLE_ERROR (R90): fatal for the link, so the port is lost. (Log entry 42: DEDUCED.) -/
def execUncorrectableError (n : Fin 4) (s : State) : Host.Outcome State Fault Refusal :=
  .next (if (getPort s n.val).linkUp then losePort n.val 2 (portEvent n.val 6 s) else s)

/-- CORRECTABLE_ERROR (R90). -/
def execCorrectableError (d : Fin 256) (s : State) : Host.Outcome State Fault Refusal :=
  .next (if portUp s (domPort d.val) then
    portEvent (domPort d.val) 5 (modFunc d.val (fun f => { f with aerCorr := f.aerCorr + 1 }) s) else s)

/-- A PF's port setup takes its reset values (R98, R163, R164). -/
def resetPortSetup (n : Nat) (s : State) : State :=
  modPort n (fun p => { p with
    numVfs := 0, vfEnable := false, mrrs := 512, l1Enabled := false, l1 := false, beaconEn := false, beaconAddr := 0
    gen := p.gen + 1, setsOnlyNext := false, w250 := 1, rtts := [], readErr := 0, seenPort := [], lineReads := [] }) s

/-- FUNCTION_LEVEL_RESET (R91, R98): one VF, or a PF with its VFs. -/
def execFunctionLevelReset (d : Fin 256) (s : State) : Host.Outcome State Fault Refusal :=
  let n := domPort d.val
  .next (if !portUp s n then s
  else if domFn d.val = 0 then resetPortSetup n ((portDoms n).foldl (fun t e => flrFunc e t) s)
  else flrFunc d.val s)

/-- The VFs of a port above the count that stays are lost (R91, R96). -/
def keepVfs (n count : Nat) (s : State) : State :=
  ((portDoms n).filter fun d => count < domFn d).foldl (fun t d => flrFunc d t) s

/-- A change of NumVFs and VF Enable: the functions it takes away are lost. -/
def setVfs (n num : Nat) (en : Bool) (s : State) : State :=
  let p := getPort s n
  let old := if p.vfEnable then p.numVfs else 0
  let new := if en then num else 0
  let s1 := if new < old then keepVfs n new s else s
  modPort n (fun x => { x with numVfs := num, vfEnable := en }) s1

/-- VF_ENABLE_CLEAR (R96): VF Enable is cleared, or with a number NumVFs is lowered to it. -/
def execVfEnableClear (n : Fin 4) (num : Option (Fin 64)) (s : State) : Host.Outcome State Fault Refusal :=
  let p := getPort s n.val
  .next (if !p.linkUp then s
  else match num with
    | none => setVfs n.val p.numVfs false s
    | some k => if k.val ≤ p.numVfs then setVfs n.val k.val p.vfEnable s else s)

/-! ## Configuration requests and bad accesses (R67, R74, R79 to R82) -/

/-- The function exists: the PF, and with VF Enable the VFs up to NumVFs (R79). -/
def fnPresent (s : State) (n f : Nat) : Bool :=
  let p := getPort s n
  f == 0 || (p.vfEnable && decide (f ≤ p.numVfs))

/-- Class code 0x10_8000 of every function (R80). -/
def classCode : Nat := 0x108000

/-- The capabilities of a function, as PCI Express numbers them, extended ones from 0x1_0000 (R74, R79, R80): power
management, PCI Express, MSI-X; AER, ARI, and in the PF SR-IOV and lane margining. No Device Serial Number (0x1_0003) is
among them. -/
def capabilities (f : Nat) : List Nat :=
  [0x01, 0x10, 0x11, 0x10001, 0x1000E] ++ (if f = 0 then [0x10010, 0x10027] else [])

/-- A BAR's register: the base, and the type bits of a 64-bit non-prefetchable memory BAR (R81). -/
def barWord (base : Nat) : Nat := base + 4

/-- The base that a write of a BAR leaves, by its size: 64 KiB, or 16 KiB for BAR2 (R81). -/
def barBase (second : Bool) (v : Nat) : Nat := if second then v / 16384 * 16384 else v / 65536 * 65536

/-- A function's BAR: a VF's lies in its port's VF BAR, one after another (R81). -/
def barOf (s : State) (n f : Nat) (second : Bool) : Nat :=
  let p := getPort s n
  let c := (getFunc s (64 * n + f)).cfg
  if f = 0 then (if second then c.bar2 else c.bar0)
  else if second then p.vfBar2 + 16384 * (f - 1) else p.vfBar0 + 65536 * (f - 1)

/-- Tags outstanding on a port (R74). -/
def tagLimit (p : Port) : Nat := if p.flit then 4096 else 768

/-- The data of a configuration read (R74, R79 to R81). (Log entry 204: PRESUMED.) -/
def cfgRead (s : State) (n f : Nat) (r : CfgReg) : List Nat :=
  let p := getPort s n
  let c := (getFunc s (64 * n + f)).cfg
  match r with
  | .ids => [Config.vendorId, if f = 0 then Config.pfDeviceId else Config.vfDeviceId]
  | .classCode => [classCode]
  | .capabilities => capabilities f
  | .bar second => [if f = 0 then barWord (barOf s n f second) else 0]
  | .vfBar second => [if f = 0 then barWord (if second then p.vfBar2 else p.vfBar0) else 0]
  | .sriov => if f = 0 then [63, 1, 1, p.numVfs, b2n p.vfEnable] else []
  | .deviceControl => [c.payload, p.mrrs, b2n c.relaxed, 512, tagLimit p]
  | .timeout => [c.ctoRange, b2n c.ctoOff]
  | .ecrc => [b2n c.ecrcGen, b2n c.ecrcCheck]
  | .power => [if c.d3hot then 3 else 0]
  | .margin l => [mget 0 p.margins l.val]

/-- A completion timeout value of ranges A to D, or the default (R74). -/
def timeoutOk (v : Nat) : Bool := [0, 1, 2, 5, 6, 9, 10, 13, 14].contains v

/-- Change a function's configuration space. -/
def modCfg (d : Nat) (g : FnCfg → FnCfg) (s : State) : State := modFunc d (fun x => { x with cfg := g x.cfg }) s

/-- What a configuration write changes. -/
def applyCfg (n : Nat) (r : CfgReq) (s : State) : State :=
  match r with
  | .plain => s
  | .read _ _ => s
  | .bar f second v =>
    if f.val ≠ 0 then s
    else modCfg (64 * n) (fun c => if second then { c with bar2 := barBase true v.toNat }
      else { c with bar0 := barBase false v.toNat }) s
  | .vfBar second v => modPort n (fun p => if second then { p with vfBar2 := barBase true v.toNat }
      else { p with vfBar0 := barBase false v.toNat }) s
  | .payload f k => if k.val ≤ 2 then modCfg (64 * n + f.val) (fun c => { c with payload := 128 * 2 ^ k.val }) s else s
  | .relaxed f on => modCfg (64 * n + f.val) (fun c => { c with relaxed := on }) s
  | .timeout f v off => if timeoutOk v.val then
      modCfg (64 * n + f.val) (fun c => { c with ctoRange := v.val, ctoOff := off }) s else s
  | .ecrc f g k => modCfg (64 * n + f.val) (fun c => { c with ecrcGen := g, ecrcCheck := k }) s
  | .power f d3 => modCfg (64 * n + f.val) (fun c => { c with d3hot := d3 }) s
  | .margin l v => modPort n (fun p => { p with margins := mset 0 p.margins l.val v.toNat }) s
  | .msix f en mask =>
    let d := 64 * n + f.val
    sendUnmasked d (List.range 65) (modFunc d (fun x => { x with msixEn := en, fnMask := mask }) s)
  | .readSize k => modPort n (fun p => { p with mrrs := 128 * 2 ^ k.val }) s
  | .vfs num en => setVfs n num.val en s
  | .aspm e => modPort n (fun p => { p with l1Enabled := e, l1 := p.l1 && e }) s

/-- The function that a configuration request names; the PF for a port's own settings. -/
def cfgFn : CfgReq → Nat
  | .read f _ | .bar f _ _ | .payload f _ | .relaxed f _ | .timeout f _ _ | .ecrc f _ _ | .power f _ | .msix f _ _ => f.val
  | _ => 0

/-- The reply to a request that is completed: the data of a read, or an empty completion. -/
def cfgReply (s : State) (n : Nat) (r : CfgReq) : Out :=
  match r with
  | .read f x => .cfgData n (cfgRead s n f.val x)
  | _ => .cfgReply n false

/-- CONFIG_REQUEST (R67, R74, R79 to R81): Request Retry Status until step 9 of R68, and Unsupported Request from a function
that does not exist. -/
def execConfigRequest (n : Fin 4) (r : CfgReq) (s : State) : Host.Outcome State Fault Refusal :=
  .next (if !portUp s n.val then s
  else if !passed s 9 then emit (.cfgReply n.val true) s
  else if !fnPresent s n.val (cfgFn r) then emit (.unsupported (64 * n.val + cfgFn r)) s
  else emit (cfgReply s n.val r) (applyCfg n.val r s))

/-- HOST_BAR_ACCESS_BAD (R82): a read gets Unsupported Request, a write is discarded; PCIe signals an advisory non-fatal
error as a correctable one. -/
def execHostBarAccessBad (d : Fin 256) (read : Bool) (s : State) : Host.Outcome State Fault Refusal :=
  .next (if !portUp s (domPort d.val) then s
  else
    let s1 := portEvent (domPort d.val) 5 (modFunc d.val (fun f => { f with aerCorr := f.aerCorr + 1 }) s)
    if read then emit (.unsupported d.val) s1 else s1)

end Sys2Proof.Machine
end

