-- ==== Sys2Proof/Machine/Admin.lean ====
section
/-! DEFINITION. The admin service (05 and 07 of spec/): the checks of an admin descriptor, its completion, sessions, and
ADMIN_OPEN and ADMIN_CLOSE. -/
namespace Sys2Proof.Machine
open Sys2Proof (primBytes primOk)

/-! ## Forms (R180, R181, R190, R303, R351, R611) -/

/-- An opcode and SUBOP: whether it takes a parameter block, takes input after it, and writes output. -/
def adminForm (op sub : Nat) : Option (Bool × Bool × Bool) :=
  let y := true
  let n := false
  match op, sub with
  | 0x80, 0 => some (y, y, y)
  | 0x80, 1 => some (y, y, n)
  | 0x80, 2 => some (n, n, y)
  | 0x81, 0 => some (n, n, n)
  | 0x83, 0 => some (y, n, y)
  | 0x83, 1 => some (n, n, n)
  | 0x83, 2 => some (n, n, y)
  | 0x84, 0 => some (y, y, y)
  | 0x84, 1 => some (y, y, y)
  | 0x84, 2 => some (y, y, y)
  | 0x85, 0 => some (n, n, y)
  | 0x85, 1 => some (y, n, y)
  | 0x85, 0x81 => some (y, n, y)
  | 0x86, 0 => some (y, n, y)
  | 0x87, 0 => some (n, n, n)
  | 0x87, 0x80 => some (n, n, y)
  | 0x88, 0 => some (y, n, y)
  | 0x89, 0 => some (y, n, n)
  | 0x8A, 0 => some (y, n, y)
  | 0x8A, 1 => some (y, n, n)
  | 0x8B, 0 => some (n, n, y)
  | 0x8C, 0 => some (n, n, y)
  | 0x8D, 0 => some (y, n, y)
  | 0x8D, 1 => some (y, n, y)
  | 0x8E, 0 => some (y, n, n)
  | 0x8F, 0x01 => some (n, n, n)
  | 0x8F, 0x02 => some (y, n, n)
  | 0x8F, 0x03 => some (n, n, n)
  | 0x8F, 0x04 => some (n, n, y)
  | 0x8F, 0x05 => some (y, n, n)
  | 0x8F, 0x10 => some (y, n, n)
  | 0x8F, 0x11 => some (y, n, n)
  | 0x8F, 0x12 => some (y, n, n)
  | 0x8F, 0x90 => some (y, n, y)
  | 0x8F, 0x91 => some (y, n, y)
  | 0x8F, 0x20 => some (y, n, n)
  | 0x8F, 0x30 => some (y, n, n)
  | 0x8F, 0x31 => some (n, n, n)
  | 0x8F, 0x40 => some (y, n, n)
  | 0x8F, 0x41 => some (y, n, n)
  | 0x8F, 0x42 => some (y, n, n)
  | 0x8F, 0x43 => some (n, n, n)
  | 0x8F, 0xC1 => some (y, n, y)
  | 0x8F, 0x44 => some (y, n, n)
  | 0x8F, 0xC4 => some (y, n, y)
  | 0x90, 0 => some (y, y, n)
  | 0x90, 1 => some (n, n, n)
  | 0x91, 0 => some (y, n, n)
  | 0x92, 0 => some (y, n, n)
  | 0x92, 1 => some (y, y, n)
  | 0x92, 2 => some (n, n, n)
  | 0x92, 3 => some (n, n, n)
  | _, _ => none

/-- AUX_ADDR is 0 exactly for ADMIN_OPEN phase 0 and identity (R180). -/
def auxAddrOk (d : Bytes) : Bool :=
  (dAuxAddr d == 0) == (dOpcode d == 0x80 && (aSubop d == 0 || aSubop d == 2))

/-- The number of the first check of R190 that an admin descriptor fails, or 0. (Log entry 53: DEDUCED.) -/
def adminCheck (d : Bytes) : Nat :=
  if !isAdminOpcode (dOpcode d) then 1
  else if dFlags d ≠ 0 || leAt d 14 2 ≠ 0 then 2
  else match adminForm (dOpcode d) (aSubop d) with
    | none => 3
    | some (pb, inp, out) =>
      if !(bufOk (pb || inp) (dInAddr d) (dInLen d) && bufOk out (dOutAddr d) (dOutLen d) && auxAddrOk d &&
          dAuxAddr d + 16 ≤ 2 ^ 64) then 5
      else if 16777216 < dInLen d then 6
      else if (if pb then !(8 ≤ aPbLen d && aPbLen d % 8 == 0 && aPbLen d ≤ 4096 && aPbLen d ≤ dInLen d &&
          dInAddr d % 8 == 0) else aPbLen d ≠ 0) then 7
      else if dOpcode d = 0x80 && !(aSeq d == 0 && allZero (aMac d)) then 8
      else 0

/-! ## Commands in service (R18, R124) -/

/-- The command a domain's firmware service works on. -/
def servingOf (s : State) (d : Nat) : Option AdminCmd := s.engine.serving.find? fun c => c.dom == d

def putCmd (c : AdminCmd) (s : State) : State :=
  let e := s.engine
  { s with engine := { e with serving := e.serving.map fun x => if x.dom = c.dom then c else x } }

def dropCmd (d : Nat) (s : State) : State :=
  let e := s.engine
  { s with engine := { e with serving := e.serving.filter fun x => x.dom != d } }

/-- The command has its result, and waits to be delivered. -/
def finishCmd (c : AdminCmd) (status detail : Nat) (out : Bytes) (s : State) : State :=
  putCmd { c with ready := false, waiting := false, done := true, status := status, detail := detail, output := out } s

/-- BAD_PARAMETER with DETAIL 1 and the length required (R175). -/
def finishShort (c : AdminCmd) (need : Nat) (s : State) : State :=
  putCmd { c with
    ready := false, waiting := false, done := true, status := stBadParameter, detail := 1, need := need } s

/-- Run `f` on a domain's command once it has passed its checks, if it is the opcode and SUBOP given.
(Log entry 2: DESIGN CHOICE.) -/
def onCmd (d op sub : Nat) (f : AdminCmd → State → State) (s : State) : State :=
  match servingOf s d with
  | none => s
  | some c => if kprRuns s && c.ready && dOpcode c.desc == op && aSubop c.desc == sub then f c s else s

/-- A change is refused while the logbook cannot take it (R500), and otherwise runs. -/
def ifLogged (c : AdminCmd) (f : State → State) (s : State) : State :=
  match logRefusal s with
  | some n => finishCmd c stLogFull n [] (countRefused s)
  | none => f s

/-- OBJECT of a class 0x02 entry (R492). -/
def cmdObject (c : AdminCmd) (field : Nat) : Nat := aTarget c.desc + shl (aSubop c.desc) 32 + shl field 40

/-- Stage the class 0x02 entry of a change (R492, R493). -/
def logChange (c : AdminCmd) (field old new : Nat) (s : State) : State :=
  logFw (adminEntry s c.dom 0x02 (dOpcode c.desc) 2 (cmdObject c field) old new) s

/-- Stage an admin command's entry of another class. -/
def logAdmin (c : AdminCmd) (cls code sev object old new : Nat) (s : State) : State :=
  logFw (adminEntry s c.dom cls code sev object old new) s

/-- The first 8 B of SHA-256, as OLD and NEW hold a long value (R494). -/
def digest8 (b : Bytes) : Nat := unle (primBytes (.hash 1) 8 [b])

/-- The session's domain has the owner domain's scope outside commissioning (R104). -/
def ownerScope (s : State) (c : AdminCmd) : Bool := isOwner s c.dom && s.lifecycle != .factory

/-- The session of R614 in FACTORY. -/
def factoryScope (s : State) (c : AdminCmd) : Bool := c.owner && s.lifecycle == .factory

/-! ## Service (R104, R105, R124, R171) -/

/-- Opcodes that only the owner domain issues, and those that no VF issues (R104). -/
def ownerOnly (op : Nat) : Bool :=
  op == 0x83 || op == 0x89 || op == 0x8A || op == 0x8C || op == 0x8D || op == 0x8E || op == 0x90 || op == 0x92
def pfOnly (op : Nat) : Bool := op == 0x8F || op == 0x91

/-- The opcode lies outside the issuing domain's scope. -/
def outOfScope (s : State) (d op : Nat) : Bool := (ownerOnly op && !isOwner s d) || (pfOnly op && domFn d != 0)

/-- Opcodes carried out while the device is LOCKED (R105). -/
def lockedAllows (op : Nat) : Bool := op == 0x80 || op == 0x81 || op == 0x8C || op == 0x8D

/-- MAC of an admin descriptor with its parameter block and input (R124). -/
def descMac (k d data : Bytes) : Bytes := (hmac 2 k (slice d 0 48 ++ zeros 16 ++ data)).take 16

/-- The block's header agrees with the descriptor (R171, R180). -/
def cmdPbOk (d pb : Bytes) : Bool := aPbLen d == 0 || pbHeaderOk (dOpcode d) (aPbLen d) pb

/-- After MAC and SEQ: the LOCKED rule, the block's header, the scope; then the command waits for its own row. -/
def admitCmd (c : AdminCmd) (pb : Bytes) (s : State) : State :=
  let op := dOpcode c.desc
  if devLocked s && !lockedAllows op then finishCmd c stLocked 0 [] s
  else if !cmdPbOk c.desc pb then finishCmd c stBadParameter 2 [] s
  else if outOfScope s c.dom op then finishCmd c stPolicyDenied 0 [] s
  else putCmd { c with ready := true } s

/-- A wrong MAC: the third in a row closes the session (R124). -/
def macFailed (c : AdminCmd) (x : Session) (s : State) : State :=
  let s1 := modDom c.dom (fun y => { y with session := some { x with macFails := x.macFails + 1 } }) s
  let s2 := finishCmd c stAuthFail 2 [] (logSession c.dom 3 x.credential s1)
  if 3 ≤ x.macFails + 1 then closeSession c.dom s2 else s2

/-- The session, MAC and SEQ of a descriptor other than ADMIN_OPEN (R124). -/
def checkSession (c : AdminCmd) (pb data : Bytes) (s : State) : State :=
  match (getDom s c.dom).session with
  | none => finishCmd c stAdminAuthRequired 0 [] s
  | some x =>
    if aMac c.desc ≠ descMac x.kMac c.desc data then macFailed c x s
    else
      let x1 := { x with macFails := 0 }
      if aSeq c.desc ≠ x.expSeq then
        finishCmd c stReplay 0 [] (modDom c.dom (fun y => { y with session := some x1 }) s)
      else
        let x2 := { x1 with expSeq := (x.expSeq + 1) % 2 ^ 32, lastTick := s.tick }
        admitCmd { c with kMac := some x.kMac, kPw := x.kPw, owner := x.factory, close := aSeq c.desc == 2 ^ 32 - 1 } pb
          (modDom c.dom (fun y => { y with session := some x2 }) s)

/-- Firmware takes a descriptor from the hand-off ring. -/
def serveCmd (c0 : AdminCmd) (data : Option Bytes) (s : State) : State :=
  let d := c0.desc
  let n := adminCheck d
  if n ≠ 0 then finishCmd { c0 with bad := true } stBadDescriptor n [] s
  else if dOpcode d ≠ 0x80 && (getDom s c0.dom).session.isNone then finishCmd c0 stAdminAuthRequired 0 [] s
  else match data with
    | none =>
      if dInLen d = 0 then s else finishCmd c0 stDmaError (if aPbLen d = 0 then 3 else 2) [] (aerUncorr c0.dom s)
    | some b0 =>
      let b := slice b0 0 (dInLen d)
      let pb := b.take (aPbLen d)
      let c := { c0 with pb := pb.drop 8, input := b.drop (aPbLen d) }
      let s1 := if dInLen d = 0 then s else emit (.hostRead c.dom (dInAddr d) (dInLen d)) s
      if dOpcode d = 0x80 then (if cmdPbOk d pb then putCmd { c with ready := true } s1
        else finishCmd c stBadParameter 2 [] s1)
      else checkSession c pb b s1

/-- The parameter block and input of a descriptor are read: it passes R190 and, but for ADMIN_OPEN, has a session. -/
def readsInput (c : AdminCmd) (s : State) : Bool :=
  adminCheck c.desc == 0 && (dOpcode c.desc == 0x80 || (getDom s c.dom).session.isSome) && dInLen c.desc != 0

/-- ADMIN_DESCRIPTOR_SERVE (R105, R124, R147, R164): the next descriptor of a domain, with its input as read and the read's
round trip, or none when the read failed. (Log entry 54: DEDUCED.) -/
def execAdminDescriptorServe (d : Fin 256) (data : Option (Bytes × Nat)) (s : State) :
    Host.Outcome State Fault Refusal :=
  .next (whenRuns kprRuns (fun s => if (servingOf s d.val).isSome || !adminServed s d.val then s
  else match takeFirst (fun a : AdminReq => a.dom == d.val) s.engine.handoff with
    | none => s
    | some (a, rest) =>
      let e := s.engine
      let c : AdminCmd := { dom := d.val, idx := a.idx, desc := a.desc }
      if data.isNone && dInLen a.desc = 0 then s
      else
        let s1 := settleAdmin d.val rest.length { s with engine := { e with handoff := rest, serving := e.serving ++ [c] } }
        let s2 := serveCmd c (data.map Prod.fst) s1
        fetchAll d.val 64 (match data with
          | some x => if readsInput c s then noteRtt (domPort d.val) x.2 s2 else s2
          | none => s2)) s)

/-- The result MAC of R125. -/
def resultMac (k entry out : Bytes) : Bytes := (hmac 2 k (entry ++ out)).take 16

/-- OUT_LEN of an admin entry. -/
def cmdOutLen (c : AdminCmd) : Nat := if c.status = stBadParameter && c.detail = 1 then c.need else c.output.length

/-- Deliver a result (R125, R151, R152, R182 to R185): the output, the result MAC, then the entry.
(Log entry 209: DEDUCED.) -/
def deliver (c : AdminCmd) (s : State) : State :=
  let x := getQueue s c.dom 64
  let auxLen := if c.kMac.isSome then 16 else 0
  let flags := shl (b2n (!c.output.isEmpty || c.kMac.isSome)) 1
  let tagF := if c.bad then 0x8000 else 0
  let res := le 4 (aSeq c.desc)
  let op := dOpcode c.desc
  let entry := completionEntry c.idx tagF c.status c.detail op 0 (cmdOutLen c) auxLen res (b2n x.phase + flags)
  let s1 := if c.output.isEmpty then s else emit (dataWrite s c.dom (dOutAddr c.desc) c.output) s
  let s2 := match c.kMac with
    | none => s1
    | some k => emit (dataWrite s c.dom (dAuxAddr c.desc) (resultMac k entry c.output)) s1
  writeEntry c.dom 64 c.idx tagF c.status c.detail op 0 (cmdOutLen c) auxLen res flags s2

/-- ADMIN_COMPLETION_WRITE (R18, R95, R126, R359): once the records of the changes made are programmed.
(Log entry 57: DEDUCED.) -/
def execAdminCompletionWrite (d : Fin 256) (s : State) : Host.Outcome State Fault Refusal :=
  .next (whenRuns kprRuns (fun s => match servingOf s d.val with
    | none => s
    | some c =>
      if !c.done || recordsPending s.flash then s
      else
        let s1 := dropCmd d.val s
        let s2 := if c.lost || !portUp s (domPort d.val) then s1 else deliver c s1
        if c.lost then ownerClosed d.val s2 else if c.close then closeSession d.val s2 else s2) s)

/-! ## Lock-outs (R116, R122, R533) -/

def getLock (s : State) (d : Nat) : LockOut := mget {} s.backup.locks d
def setLock (d : Nat) (l : LockOut) (s : State) : State :=
  { s with backup := { s.backup with locks := mset {} s.backup.locks d l } }

/-- The period of the lock-out at a failure count (R122). -/
def lockPeriod (fails : Nat) : Nat := if fails < 10 then 0 else min 86400 (60 * 2 ^ (min fails 40 - 10))

/-- The entry of the table that a domain without one takes from another: the lowest FAILS whose lock-out has ended. -/
def reusable (s : State) : Option Nat :=
  let l := s.backup.locks.filter fun e => !e.2.locked
  (l.find? fun e => l.all fun f => e.2.fails ≤ f.2.fails).map Prod.fst

/-- A domain without an entry, and none to be had, is treated as locked out (R533). -/
def tableFull (s : State) (d : Nat) : Bool :=
  (s.backup.locks.all fun e => e.1 != d) && decide (56 ≤ s.backup.locks.length) && (reusable s).isNone

/-- Admin access is locked out. -/
def lockedOut (s : State) (d : Nat) : Bool := (getLock s d).locked || tableFull s d

/-- Room in the table for a domain's entry. -/
def makeRoom (d : Nat) (s : State) : State :=
  if (s.backup.locks.any fun e => e.1 == d) || s.backup.locks.length < 56 then s
  else match reusable s with
    | none => s
    | some v => setLock v {} s

/-- One more failed authentication (R122). -/
def countFailure (d cred : Nat) (s : State) : State :=
  let s0 := makeRoom d s
  let f := satAdd 255 (getLock s0 d).fails 1
  let p := if 21 ≤ f then 86400 else lockPeriod f
  let s1 := logSession d 3 cred (setLock d { fails := f, locked := decide (10 ≤ f), left := 4096000 * p, period := p } s0)
  if 10 ≤ f then logSession d 4 cred s1 else s1

/-- LOCKOUT_EXPIRY (R122): the period has run out. (Log entry 60: DESIGN CHOICE.) -/
def execLockoutExpiry (d : Fin 256) (s : State) : Host.Outcome State Fault Refusal :=
  let l := getLock s d.val
  .next (if l.locked && l.left = 0 then setLock d.val { l with locked := false } s else s)

/-! ## ADMIN_OPEN and ADMIN_CLOSE (R118 to R123, R180, R614) -/

/-- The code of a lifecycle state (R85). -/
def lifecycleCode : Lifecycle → Nat
  | .factory => 0 | .commissioned => 1 | .operational => 2 | .locked => 3 | .zeroised => 4

/-- CREDENTIAL that names the owner root (R614). -/
def rootCred : Nat := 2 ^ 32 - 1

/-- The body of a phase 0 or 1 block fits R180. -/
def openBodyOk (c : AdminCmd) (phase : Nat) : Bool :=
  c.pb.length == 8 && byteAt c.pb 0 ≤ 1 && allZero (c.pb.drop 2) &&
  (if phase = 0 then byteAt c.pb 1 == 0 else byteAt c.pb 1 ≤ 1 && (byteAt c.pb 0 == 0 || byteAt c.pb 1 == 0))

/-- The owner root credential is not accepted from this domain now (R614). -/
def rootDenied (s : State) (d : Nat) : Bool :=
  if s.lifecycle = .factory then
    domFn d != 0 || !domPresent s d || (s.domains.any fun e => e.1 != d && e.2.session.isSome)
  else !isOwner s d

/-- What both phases check before their own work: the lock-out, the body, and who may name the credential. -/
def openRefusal (s : State) (c : AdminCmd) (phase : Nat) : Option (Nat × Nat) :=
  if lockedOut s c.dom then some (stAdminLockedOut, 0)
  else if !openBodyOk c phase then some (stBadParameter, 2)
  else if byteAt c.pb 0 = 1 && domFn c.dom ≠ 0 then some (stPolicyDenied, 0)
  else if aTarget c.desc = rootCred && rootDenied s c.dom then some (stPolicyDenied, 0)
  else none

/-- The challenge of R118. -/
def challengeBytes (s : State) (d method cred : Nat) (nonce : Bytes) : Bytes :=
  [0x47, 0x41, 0x43, 0x48] ++ le 2 d ++ le 1 method ++ le 1 (lifecycleCode s.lifecycle) ++ le 4 cred ++
  le 4 s.backup.bootCount ++ le 8 (if s.backup.rtcValid then rtcStamp s else 0) ++ nonce ++ zeros 8

/-! The identity key (R121). -/

/-- An ECDSA P-384 signature over a digest under the identity key, with `draw` for its secret. -/
def idSign (s : State) (dig draw : Bytes) : Bytes := ecdsaSign p384 (s.owner.identity.getD []) dig draw

/-- Bytes 0 to 119 of the identity record: the serial and the public key. -/
def identityHead (s : State) : Bytes :=
  slice Config.serial 0 8 ++ zeros 8 ++ ecPublic p384 (s.owner.identity.getD []) ++ zeros 7

/-- The identity record: the head, and the vendor signer block over its SHA-384. -/
def identityRecord (s : State) : Bytes :=
  identityHead s ++ slice (Config.vendorBlock (primBytes (.hash 2) 48 [identityHead s])) 0 5464

/-- The identity key's settings record: the private key wrapped under K_IDK. (Log entry 210: PRESUMED.) -/
def identityWrap (key : Bytes) : Bytes :=
  primBytes .keyWrap 56 [kbkdf 0x11 32 Config.deviceKey [0x49, 0x44, 0x4B, 0x2D, 0x44] [], key]

/-- At the first boot in FACTORY firmware draws the identity key, and never again. -/
def makeIdentity (s : State) : State :=
  if s.lifecycle ≠ .factory || s.owner.identity.isSome then s
  else
    let key := be 48 (scalarOf p384 (drbgBytes s 48))
    appendRec 6 setIdentity 1 (identityWrap key) (useDrbg 48 { s with owner := { s.owner with identity := some key } })

/-- Phase 0: a challenge, the device's ephemeral key, and the identity key's signature. -/
def openPhase0 (c : AdminCmd) (s : State) : State :=
  match openRefusal s c 0 with
  | some (st, dt) => finishCmd c st dt [] s
  | none =>
    if c.input.length ≠ 97 || !ecPubOk p384 c.input then finishCmd c stBadParameter 3 [] s
    else if dOutLen c.desc < 257 then finishShort c 257 s
    else if drawWaits s then s
    else
      let r := drbgBytes s 128
      let secret := be 48 (scalarOf p384 (r.take 48))
      let ch := challengeBytes s c.dom (byteAt c.pb 0) (aTarget c.desc) (slice r 48 32)
      let eph := ecPublic p384 secret
      let sig := idSign s (primBytes (.hash 2) 48 [ch ++ eph]) (r.drop 80)
      let x : Challenge := {
        bytes := ch, method := byteAt c.pb 0, credential := aTarget c.desc, hostPub := c.input, devPub := eph
        secret := secret }
      finishCmd c stOK 0 (ch ++ eph ++ sig) (modDom c.dom (fun y => { y with challenge := some x }) (useDrbg 128 s))

def execAdminOpenPhase0 (d : Fin 256) (s : State) : Host.Outcome State Fault Refusal :=
  .next (onCmd d.val 0x80 0 openPhase0 s)

/-- K_MAC and K_PW, 80 B in all (R119). -/
def sessionKeys (d : Nat) (x : Challenge) : Bytes :=
  hkdf 2 80 ((ecdh p384 x.secret x.hostPub).getD (zeros 48)) (slice x.bytes 24 32)
    ([0x47, 0x48, 0x45, 0x4F, 0x52, 0x44, 0x2D, 0x41, 0x44, 0x4D, 0x49, 0x4E] ++ le 2 d)

/-- The digest that a KEY proof signs (R118). -/
def proofDigest (x : Challenge) : Bytes := primBytes (.hash 2) 48 [x.bytes ++ x.hostPub ++ x.devPub]

/-- A signature of PROOF_ALG 0 or 1 over a digest. -/
def proofSigOk (alg : Nat) (pub dig sig : Bytes) : Bool :=
  if alg = 0 then sig.length == 96 && verifyWith 1 p384 pub dig sig []
  else sig.length == 3309 && verifyWith 0x29 p384 pub dig sig []

/-- An owner root proof (R614): 96 zero bytes in FACTORY, later a signature under the stored roots, whose digest is the
fused one. -/
def rootProofOk (s : State) (alg : Nat) (x : Challenge) (proof : Bytes) : Bool :=
  if s.lifecycle = .factory then
    alg == 0 && proof == zeros 96
  else
    let r := s.owner.roots
    primBytes (.hash 2) 48 [slice r 0 2049] == s.owner.rootFuse &&
    proofSigOk alg (if alg = 0 then slice r 1952 97 else slice r 0 1952) (proofDigest x) proof

/-- A KEY proof: a key slot the domain owns with usage ADMIN_AUTH (R118, R349). -/
def keyProofOk (s : State) (d alg : Nat) (x : Challenge) (proof : Bytes) : Bool :=
  let k := getKey s x.credential
  decide (x.credential < 65536) && k.st == .active && k.owner == d && usageBit k 15 &&
  k.alg == (if alg = 0 then 1 else 0x29) && proofSigOk alg k.pub (proofDigest x) proof

/-- A password as R119 allows: 12 to 64 bytes, each from 0x20 to 0x7E. -/
def passwordOk (p : Bytes) : Bool :=
  decide (12 ≤ p.length) && decide (p.length ≤ 64) && p.all fun b => decide (0x20 ≤ b.toNat) && decide (b.toNat ≤ 0x7E)

/-- A PASSWORD proof (R119, R120): decrypted under K_PW with a zero IV, then compared with the role's verifier. -/
def pwProofOk (s : State) (d : Nat) (x : Challenge) (proof : Bytes) : Bool :=
  let kPw := (sessionKeys d x).drop 48
  let n := proof.length - 16
  let ct := proof.take n
  let pw := gcmCtr kPw (zeros 12) ct
  let e := mget {} s.owner.custody.passwords x.credential
  decide (16 ≤ proof.length) && proof.drop n == gcmTag 16 kPw (zeros 12) [] ct && passwordOk pw &&
  decide (x.credential < 16) && e.set && e.verifier == hmac 2 e.salt pw

def proofOk (s : State) (d alg : Nat) (x : Challenge) (proof : Bytes) : Bool :=
  if x.method = 1 then pwProofOk s d x proof
  else if x.credential = rootCred then rootProofOk s alg x proof
  else keyProofOk s d alg x proof

/-- The outstanding challenge that a phase 1 answers. -/
def challengeFor (s : State) (c : AdminCmd) : Option Challenge :=
  match (getDom s c.dom).challenge with
  | none => none
  | some x => if x.method = byteAt c.pb 0 && x.credential = aTarget c.desc then some x else none

/-- Phase 1 (R118, R119, R122, R123): the challenge is used up, whatever the outcome. -/
def openPhase1 (c : AdminCmd) (s : State) : State :=
  let cred := aTarget c.desc
  match openRefusal s c 1 with
  | some (st, dt) => finishCmd c st dt [] s
  | none => match challengeFor s c with
    | none => finishCmd c stAuthFail 1 [] (logSession c.dom 3 cred s)
    | some x =>
      let s1 := modDom c.dom (fun y => { y with challenge := none }) s
      if !proofOk s c.dom (byteAt c.pb 1) x c.input then finishCmd c stAuthFail 1 [] (countFailure c.dom cred s1)
      else
        let k := sessionKeys c.dom x
        let n : Session := {
          method := x.method, credential := cred, kMac := k.take 48, kPw := k.drop 48, lastTick := s.tick
          factory := cred == rootCred && s.lifecycle == .factory }
        let s2 := setLock c.dom { getLock s1 c.dom with fails := 0 } (closeSession c.dom s1)
        finishCmd { c with kMac := some (k.take 48) } stOK 0 []
          (logSession c.dom 1 cred (modDom c.dom (fun y => { y with session := some n }) s2))

/-- Log entries 55, 56: DEDUCED, DESIGN CHOICE. -/
def execAdminOpenPhase1 (d : Fin 256) (s : State) : Host.Outcome State Fault Refusal :=
  .next (onCmd d.val 0x80 1 openPhase1 s)

/-- ADMIN_OPEN identity (R121, R180): needs no session and is served while locked out. -/
def openIdentity (c : AdminCmd) (s : State) : State :=
  if aTarget c.desc ≠ 0 then finishCmd c stBadParameter 2 [] s
  else if dOutLen c.desc < 5584 then finishShort c 5584 s
  else finishCmd c stOK 0 (identityRecord s) s

def execAdminOpenIdentity (d : Fin 256) (s : State) : Host.Outcome State Fault Refusal :=
  .next (onCmd d.val 0x80 2 openIdentity s)

/-- ADMIN_CLOSE (R126): the session closes once the completion is written. -/
def execAdminClose (d : Fin 256) (s : State) : Host.Outcome State Fault Refusal :=
  .next (onCmd d.val 0x81 0 (fun c t =>
    if aTarget c.desc ≠ 0 then finishCmd c stBadParameter 2 [] t else finishCmd { c with close := true } stOK 0 [] t) s)

/-- CHALLENGE_EXPIRY (R118): 30 s after its issue. -/
def execChallengeExpiry (d : Fin 256) (s : State) : Host.Outcome State Fault Refusal :=
  .next (whenRuns kprRuns (fun s => modDom d.val (fun y => { y with challenge := none }) s) s)

/-- SESSION_IDLE_TIMEOUT (R126): 900,000 ticks without a descriptor that passes R124. -/
def execSessionIdleTimeout (d : Fin 256) (s : State) : Host.Outcome State Fault Refusal :=
  .next (whenRuns kprRuns (fun s => match (getDom s d.val).session with
    | none => s
    | some x => if x.lastTick + 900000 ≤ s.tick then closeSession d.val s else s) s)

end Sys2Proof.Machine
end

