-- ==== Sys2Proof/Machine/PolicyCmds.lean ====
section
/-! DEFINITION. Policy commands (05 of spec/): POLICY_SET's general sub-functions, DOMAIN_SHARE_SET, the release of a
domain, quorum approvals, and commits of the policy bank. -/
namespace Sys2Proof.Machine
open Sys2Proof (primBytes primOk)

/-- TARGET of a device-wide sub-function (R129). -/
def allTarget : Nat := 2 ^ 32 - 1

/-! ## Commits (R19, R20, R308) -/

/-- COMMIT_BUSY: an operation admitted under the other bank is in flight. -/
def commitBusy (s : State) : Bool := s.ops.any fun o => o.bank != s.policy.active

/-- OLD_INFLIGHT of QE_POLICY_STATUS. -/
def oldInflight (s : State) : Nat := (s.ops.filter fun o => o.bank != s.policy.active).length

/-- The other bank becomes active; domains it no longer permits stop (R19, R130). -/
def commitNow (s : State) : State :=
  let p := s.policy
  permitStops { s with policy := { p with active := 1 - p.active, epoch := (p.epoch + 1) % 32768 } }

/-- A write or commit that COMMIT_BUSY discards (R20). -/
def dropPolicy (s : State) : State := { s with policy := { s.policy with dropped := true } }

/-- Firmware's write of the inactive bank, which the queue engine discards while COMMIT_BUSY (R20). -/
def writeInactive (b : Bank) (s : State) : State :=
  let p := s.policy
  if commitBusy s then dropPolicy s
  else { s with policy := if p.active = 0 then { p with bank1 := b } else { p with bank0 := b } }

/-- A write of COMMIT (R19, R20). -/
def writeCommit (s : State) : State := if commitBusy s then dropPolicy s else commitNow s

/-- Firmware's sequence: the inactive bank becomes the active one with a change, and is committed.
(Log entry 59: DESIGN CHOICE.) -/
def commitWith (f : Bank → Bank) (s : State) : State := writeCommit (writeInactive (f (activeBank s)) s)

/-- POLICY_COMMIT (R19, R20): a write of COMMIT; while COMMIT_BUSY it is discarded. -/
def execPolicyCommit (s : State) : Host.Outcome State Fault Refusal :=
  .next (whenRuns policyRuns (fun s => writeCommit s) s)

/-- Change one domain's share. -/
def modShare (d : Nat) (f : Share → Share) (b : Bank) : Bank := { b with shares := mmod {} b.shares d f }

def getCfg (s : State) (d : Nat) : DomCfg := mget {} s.domCfg d
def setCfg (d : Nat) (x : DomCfg) (s : State) : State :=
  appendSetting (setDomain d) { s with domCfg := mset {} s.domCfg d x }

/-- KEY_ALLOW of a domain (R106). -/
def keyAllow (s : State) (d : Nat) : Nat := (getCfg s d).keyAllow.getD (if isOwner s d then 65536 else 0)

/-- The permission word a domain holds after commissioning and after each release (R130). -/
def defaultPerms (s : State) (d : Nat) : Nat :=
  if s.lifecycle = .factory then (if domFn d = 0 && domPresent s d then 1 else 0)
  else if isOwner s d then 0xFFF else 0xFF6

/-! ## Device and lifecycle state (R7, R8) -/

/-- DEV_STATE (R85). -/
def devState (s : State) : Nat :=
  if s.power.phase ≠ .ready then 0
  else if devLocked s then 3
  else if restricted s then 2
  else 1

/-- A change that may move DEV_STATE or LIFECYCLE raises vector 0 where it did (R83). -/
def announceIf (before : State) (s : State) : State :=
  if devState before ≠ devState s || before.lifecycle ≠ s.lifecycle then announce s else s

/-- A lifecycle transition with its entry (R7, R492). -/
def changeLifecycle (new : Lifecycle) (e : State → LogEntry) (s : State) : State :=
  let s1 := logFw (e s) s
  announceIf s (appendSetting setLifecycle { s1 with lifecycle := new })

/-- The entry of a transition: the new state in OBJECT. -/
def transitionEntry (s : State) (new : Lifecycle) : LogEntry :=
  fwEntry s 0x06 0x01 3 (lifecycleCode new) (lifecycleCode s.lifecycle) (lifecycleCode new)

/-! ## Approvals (R357) -/

/-- APPROVAL_ID: SHA-256 over the descriptor's opcode and SUBOP without bit 7, TARGET, the block and the input. -/
def approvalId (c : AdminCmd) : Bytes :=
  let pbHead := if aPbLen c.desc = 0 then [] else
    le 1 (dOpcode c.desc) ++ le 1 1 ++ le 2 (aPbLen c.desc - 8) ++ zeros 4
  primBytes (.hash 1) 32 [le 1 (dOpcode c.desc) ++ le 1 (aSubop c.desc % 128) ++ le 4 (aTarget c.desc) ++ pbHead ++
    c.pb ++ c.input]

/-- Enough distinct custodians have approved exactly this command. -/
def approved (s : State) (c : AdminCmd) : Bool :=
  match s.keys.approval with
  | none => false
  | some a => a.id == approvalId c && decide (a.m ≤ a.who.length)

/-- An approval serves one command. -/
def spendApproval (s : State) : State := { s with keys := { s.keys with approval := none } }

/-- Step 1 of R357: a new pending approval replaces the last. -/
def openApproval (c : AdminCmd) (m roles : Nat) (unlockSet : Bool) (s : State) : State :=
  if dOutLen c.desc < 32 then finishShort c 32 s
  else
    let a : Approval := { id := approvalId c, m := m, roles := roles, unlockSet := unlockSet }
    finishCmd c stOK 0 (approvalId c) { s with keys := { s.keys with approval := some a } }

/-- APPROVAL_EXPIRY (R357): 600 s after step 1. (Log entry 95: DEDUCED.) -/
def execApprovalExpiry (s : State) : Host.Outcome State Fault Refusal := .next (whenRuns kprRuns (fun s => spendApproval s) s)

/-! ## Bodies and scopes (R104, R129) -/

/-- The common checks of a device-wide sub-function of the owner domain: TARGET, then scope, then the body. -/
def deviceWide (s : State) (c : AdminCmd) (bodyOk : Bool) : Option (Nat × Nat) :=
  if aTarget c.desc ≠ allTarget then some (stBadParameter, 2)
  else if !ownerScope s c then some (stPolicyDenied, 0)
  else if !bodyOk || !c.input.isEmpty then some (stBadParameter, 2)
  else none

/-- TARGET names a domain on a present port. -/
def domTargetOk (s : State) (t : Nat) : Bool := decide (t < 256) && domPresent s t

/-- The issuer may name the domain (R104): the owner domain any, a PF its own VFs, and itself where `itself`. -/
def domScope (s : State) (c : AdminCmd) (t : Nat) (itself : Bool) : Bool :=
  ownerScope s c ||
  (domFn c.dom == 0 && domPort t == domPort c.dom && (domFn t != 0 || itself))

/-- TARGET and scope of a sub-function on a domain. -/
def onDomain (s : State) (c : AdminCmd) (itself : Bool) : Option (Nat × Nat) :=
  let t := aTarget c.desc
  if !domTargetOk s t then some (stBadParameter, 2)
  else if !domScope s c t itself then some (stPolicyDenied, 0)
  else none

/-- The sequence of R308: `stage` writes the entry and the record, and `rest`, once `waits` no longer holds, does what
follows. A row that finds the command staged takes it up there. -/
def inSequence (c : AdminCmd) (waits : State → Bool) (stage : State → State) (rest : AdminCmd → State → State)
    (s : State) : State :=
  let go (c1 : AdminCmd) (t : State) : State := if waits t then t else rest c1 t
  if c.staged then go c s
  else
    let c1 := { c with staged := true }
    ifLogged c (fun t => go c1 (putCmd c1 (stage t))) s

/-- Finish with an answer, or run. -/
def checked (c : AdminCmd) (a : Option (Nat × Nat)) (f : State → State) (s : State) : State :=
  match a with
  | some (st, dt) => finishCmd c st dt [] s
  | none => f s

/-! ## DATA_PLANE_ENABLE, PERMISSIONS, RETENTION (R129, R130) -/

/-- DATA_PLANE_ENABLE: COMMISSIONED becomes OPERATIONAL. -/
def dataPlaneEnable (c : AdminCmd) (s : State) : State :=
  checked c (deviceWide s c true) (fun s =>
    if s.lifecycle = .operational then finishCmd c stOK 0 [] s
    else if s.lifecycle ≠ .commissioned then finishCmd c stPolicyDenied 0 [] s
    else ifLogged c (fun t =>
      finishCmd c stOK 0 [] (changeLifecycle .operational (fun u =>
        adminEntry u c.dom 0x06 0x01 3 2 1 2) t)) s) s

def execDataPlaneEnable (d : Fin 256) (s : State) : Host.Outcome State Fault Refusal :=
  .next (onCmd d.val 0x8F 0x01 dataPlaneEnable s)

/-- What PERMISSIONS refuses (R130). -/
def permsRefusal (s : State) (c : AdminCmd) : Option (Nat × Nat) :=
  let p := leAt c.pb 0 4
  match onDomain s c false with
  | some a => some a
  | none =>
    if c.pb.length ≠ 8 || leAt c.pb 4 4 ≠ 0 || 4096 ≤ p || !c.input.isEmpty then some (stBadParameter, 2)
    else if !ownerScope s c && p &&& effPerms (activeBank s) c.dom ≠ p then some (stPolicyDenied, 0)
    else if isOwner s (aTarget c.desc) && p % 2 = 0 then some (stPolicyDenied, 0)
    else none

/-- PERMISSIONS (R130, R308): while COMMIT_BUSY the commit waits. -/
def permissions (c : AdminCmd) (s : State) : State :=
  let t := aTarget c.desc
  let p := leAt c.pb 0 4
  checked c (if c.staged then none else permsRefusal s c) (inSequence c commitBusy
    (fun u =>
      let u1 := logChange c 0 (getShare (activeBank u) t).perms p u
      setCfg t { getCfg u1 t with perms := some p } u1)
    (fun c1 u => finishCmd c1 stOK 0 [] (commitWith (modShare t fun x => { x with perms := p }) u))) s

def execPermissions (d : Fin 256) (s : State) : Host.Outcome State Fault Refusal :=
  .next (onCmd d.val 0x8F 0x02 permissions s)

/-- RETENTION (R129, R499): a mode change is an exempt class 0x07 entry. -/
def retention (c : AdminCmd) (s : State) : State :=
  let m := byteAt c.pb 0
  checked c (deviceWide s c (c.pb.length == 8 && m ≤ 1 && allZero (c.pb.drop 1))) (fun s =>
    let s1 := logAdmin c 0x07 2 3 m (b2n s.log.retain) m s
    finishCmd c stOK 0 [] (appendSetting setRetain { s1 with log := { s1.log with retain := m == 1 } })) s

def execRetention (d : Fin 256) (s : State) : Host.Outcome State Fault Refusal :=
  .next (onCmd d.val 0x8F 0x05 retention s)

/-! ## QUERY (R132) -/

def queryDomain (s : State) (t : Nat) : Bytes :=
  let sh := getShare (activeBank s) t
  le 2 t ++ le 1 (unitCode (getDomUnit s t).st) ++
  le 1 (b2n (getDom s t).session.isSome + shl (b2n (lockedOut s t)) 1) ++ le 4 sh.perms ++
  le 4 (effPerms (activeBank s) t) ++ le 1 sh.weight ++ [0] ++ le 2 sh.quota ++ le 2 sh.reserve ++
  le 2 (mget 0 s.snap.inFlight t) ++ le 4 (moorAllow s t) ++ le 4 (mget 0 s.snap.moorHeld t) ++ le 4 (keyAllow s t) ++
  le 4 (mget 0 s.snap.keysHeld t) ++
  zeros 28

/-- A sum over all domains of the snapshot. -/
def snapSum (s : State) (f : Domain → Nat) : Nat := (s.snap.domains.map fun e => f e.2).foldl (· + ·) 0

def queryDevice (s : State) : Bytes :=
  le 1 (lifecycleCode s.lifecycle) ++ le 1 (devState s) ++ le 1 (b2n s.log.retain) ++ [0] ++
  le 2 s.snap.domsOn ++ le 2 s.snap.tags ++
  le 2 (((activeBank s).shares.map fun e => e.2.reserve).foldl (· + ·) 0) ++ zeros 2 ++
  le 4 (mooringCount s.part - s.snap.taken) ++ le 4 s.snap.retired ++ le 2 (min 65535 s.snap.poisoned) ++
  le 2 (min 65535 s.snap.quarantined) ++ le 4 s.snap.keysActive ++ zeros 4 ++
  le 8 (snapSum s Domain.done) ++ le 8 (snapSum s Domain.failed) ++ zeros 16

def query (c : AdminCmd) (s : State) : State :=
  let t := aTarget c.desc
  let a := if t = allTarget then (if ownerScope s c then none else some (stPolicyDenied, 0)) else onDomain s c true
  checked c a (fun s =>
    if dOutLen c.desc < 64 then finishShort c 64 s
    else finishCmd c stOK 0 (if t = allTarget then queryDevice s else queryDomain s t) s) s

/-- Log entry 20: DEDUCED. -/
def execQuery (d : Fin 256) (s : State) : Host.Outcome State Fault Refusal := .next (onCmd d.val 0x8F 0x04 query s)

/-! ## DOMAIN_SHARE_SET (R104, R106, R131) -/

/-- The settings as they would stand after the change: WEIGHT, QUOTA, RESERVE. -/
def newShare (old : Share) (pb : Bytes) : Share :=
  let m := byteAt pb 0
  { old with
    weight := if nbit m 0 then byteAt pb 1 else old.weight
    quota := if nbit m 1 then leAt pb 2 2 else old.quota
    reserve := if nbit m 2 then leAt pb 4 2 else old.reserve }

/-- A field that MASK does not select is zero, and so are the zero bytes. -/
def shareBodyOk (pb : Bytes) : Bool :=
  let m := byteAt pb 0
  pb.length == 24 && m != 0 && m < 32 && (nbit m 0 || byteAt pb 1 == 0) && (nbit m 1 || leAt pb 2 2 == 0) &&
  (nbit m 2 || leAt pb 4 2 == 0) && leAt pb 6 2 == 0 && (nbit m 3 || leAt pb 8 4 == 0) &&
  (nbit m 4 || leAt pb 12 4 == 0) && leAt pb 16 8 == 0

/-- The ranges of R131, judged after the change, and the sum rule of R106. -/
def shareRangesOk (s : State) (t : Nat) (pb : Bytes) : Bool :=
  let n := newShare (getShare (activeBank s) t) pb
  let sum := ((List.range 256).map fun d => if d = t then n.reserve else (getShare (activeBank s) d).reserve).foldl (· + ·) 0
  1 ≤ n.weight && n.weight ≤ 255 && 1 ≤ n.quota && n.quota ≤ 4096 && n.reserve ≤ n.quota &&
  leAt pb 8 4 ≤ mooringCount s.part && leAt pb 12 4 ≤ 65536 && sum ≤ 4096

/-- What DOMAIN_SHARE_SET refuses. -/
def shareRefusal (s : State) (c : AdminCmd) : Option (Nat × Nat) :=
  let t := aTarget c.desc
  match onDomain s c false with
  | some a => some a
  | none =>
    let n := newShare (getShare (activeBank s) t) c.pb
    let own := getShare (activeBank s) c.dom
    if !shareBodyOk c.pb || !c.input.isEmpty then some (stBadParameter, 2)
    else if !ownerScope s c && (4 ≤ byteAt c.pb 0 || own.weight < n.weight && nbit (byteAt c.pb 0) 0 ||
        own.quota < n.quota && nbit (byteAt c.pb 0) 1) then some (stPolicyDenied, 0)
    else if !shareRangesOk s t c.pb then some (stBadParameter, 2)
    else none

/-- The five settings' entries, those selected, in FIELD order (R492). -/
def logShares (c : AdminCmd) (s : State) : State :=
  let t := aTarget c.desc
  let o := getShare (activeBank s) t
  let m := byteAt c.pb 0
  let l : List (Nat × Nat × Nat) := [(1, o.weight, byteAt c.pb 1), (2, o.quota, leAt c.pb 2 2), (3, o.reserve, leAt c.pb 4 2),
    (4, moorAllow s t, leAt c.pb 8 4), (5, keyAllow s t, leAt c.pb 12 4)]
  (l.filter fun e => nbit m (e.1 - 1)).foldl (fun u e => logChange c e.1 e.2.1 e.2.2 u) s

/-- DOMAIN_SHARE_SET: the selected settings change together, in one commit. -/
def shareSet (c : AdminCmd) (s : State) : State :=
  let t := aTarget c.desc
  checked c (if c.staged then none else shareRefusal s c) (inSequence c commitBusy
    (fun u =>
      let n := newShare (getShare (activeBank u) t) c.pb
      let g := getCfg u t
      let m := byteAt c.pb 0
      let g1 := { g with
        weight := n.weight, quota := n.quota, reserve := n.reserve
        moorAllow := if nbit m 3 then some (leAt c.pb 8 4) else g.moorAllow
        keyAllow := if nbit m 4 then some (leAt c.pb 12 4) else g.keyAllow }
      setCfg t g1 (logShares c u))
    (fun c1 u =>
      let n := newShare (getShare (activeBank u) t) c.pb
      finishCmd c1 stOK 0 [] (commitWith (modShare t fun _ => n) u))) s

def execDomainShareSet (d : Fin 256) (s : State) : Host.Outcome State Fault Refusal :=
  .next (onCmd d.val 0x91 0 shareSet s)

/-! ## RELEASE (R128) -/

/-- The domain owns a key whose destruction requires a custodian quorum. -/
def quorumKey (s : State) (t : Nat) : Bool :=
  s.keys.slots.any fun e => e.2.st != .empty && e.2.owner == t && quorumDestroy e.2

/-- RELEASE starts: RELEASING holds the domain in OFF or STARTING. -/
def releaseStart (c : AdminCmd) (s : State) : State :=
  let t := aTarget c.desc
  let a := if !domTargetOk s t then some (stBadParameter, 2)
    else if !ownerScope s c then some (stPolicyDenied, 0)
    else if (getDomUnit s t).st ≠ .off || quorumKey s t then some (stPolicyDenied, 0)
    else none
  checked c a (fun s => ifLogged c (fun u =>
    putCmd { c with ready := false, waiting := true } (modDom t (fun x => { x with releasing := true })
      (logChange c 0 0 0 u))) s) s

/-- Log entry 58: DEDUCED. -/
def execRelease (d : Fin 256) (s : State) : Host.Outcome State Fault Refusal :=
  .next (onCmd d.val 0x8F 0x03 releaseStart s)

/-- Every mooring of a domain is released as UNMOOR would; RETIRED ones are swept, and QUARANTINED ones stay so and
count in no domain's HELD (R128, R203, R211, R220). `bad` are the POISONED slots that fail their read-back. -/
def releaseMoorings (t : Nat) (bad : List (Fin 4194304)) (s : State) : State :=
  let mine := s.moor.slots.filter fun e => e.2.owner == t && (e.2.state == .active || e.2.state == .poisoned)
  let s1 := mine.foldl (fun u e =>
    let u1 := modMoor e.1 (fun m => { m with gen := m.gen + 1, wasPoisoned := decide (m.state = .poisoned) }) u
    releaseSlot e.1 (!(bad.any fun b => b.val == e.1)) u1) s
  let s2 := sweep t s1
  { s2 with moor := { s2.moor with lostHeld := mset 0 s2.moor.lostHeld t 0 } }

/-- Every key of a domain is destroyed, each with its entry (R128, R356, R492). -/
def releaseKeys (c : AdminCmd) (t : Nat) (s : State) : State :=
  (s.keys.slots.filter fun e => e.2.st != .empty && e.2.owner == t).foldl (fun u e =>
    eraseKey e.1 (logAdmin c 0x03 0x87 3 (e.1 + shl e.2.kind 16) (unle (e.2.fp.take 8)) 0 u)) s

/-- A domain's new blob key (R278). While the source does not generate it stays zero, to be drawn when it next does.
(Log entry 70: DESIGN CHOICE.) -/
def drawBlobKey (t : Nat) (s : State) : State :=
  if rngOn s then useDrbg 32 (modDom t (fun x => { x with blobKey := some (drbgBytes s 32) }) s)
  else modDom t (fun x => { x with blobKey := some [] }) s

/-- The rest of a release: statistics, FAILS and lock-out, settings and permissions. -/
def releaseRest (t : Nat) (s : State) : State :=
  let s1 := setLock t {} (setCfg t {} s)
  let s2 := drawBlobKey t (modDom t (fun x => { x with done := 0, failed := 0, releasing := false }) s1)
  commitWith (modShare t fun _ => { ({} : Share) with perms := defaultPerms s2 t }) s2

/-- The entries of a release's four steps (R128): FIELD numbers them. -/
def logSteps (c : AdminCmd) (s : State) : State := [1, 2, 3, 4].foldl (fun u f => logChange c f 0 0 u) s

/-- A tombstone waits to be programmed (R356). -/
def tombstoneWaits (s : State) : Bool := s.flash.jobs.any fun j => j.kind == 2 && j.fromSec.isNone

/-- RELEASE_COMPLETE (R128): moorings and keys go first; once no record of the keys is left to zero, the rest is done and
the completion follows. The commit waits while COMMIT_BUSY. -/
def releaseDone (bad : List (Fin 4194304)) (c : AdminCmd) (s : State) : State :=
  let t := aTarget c.desc
  let c1 := { c with staged := true }
  if commitBusy s || s.clocks.dramSr then s
  else
    let s1 := if c.staged then s else putCmd c1 (releaseKeys c t (releaseMoorings t bad (logSteps c s)))
    if tombstoneWaits s1 then s1 else finishCmd c1 stOK 0 [] (releaseRest t s1)

def execReleaseComplete (d : Fin 256) (bad : List (Fin 4194304)) (s : State) : Host.Outcome State Fault Refusal :=
  .next (whenRuns policyRuns (fun s => match servingOf s d.val with
    | none => s
    | some c => if c.waiting && dOpcode c.desc = 0x8F && aSubop c.desc = 0x03 then releaseDone bad c s else s) s)

end Sys2Proof.Machine
end

