-- ==== Sys2Proof/Machine/Cores.lean ====
section
/-! DEFINITION. Access to the keeper cores' registers (16 of spec/). -/
namespace Sys2Proof.Machine

def getCore (s : State) (c : Nat) : Core :=
  match c with | 0 => s.keeper.core0 | 1 => s.keeper.core1 | 2 => s.keeper.core2 | _ => s.keeper.core3

def setCore (c : Nat) (k : Core) (s : State) : State :=
  match c with
  | 0 => { s with keeper := { s.keeper with core0 := k } }
  | 1 => { s with keeper := { s.keeper with core1 := k } }
  | 2 => { s with keeper := { s.keeper with core2 := k } }
  | _ => { s with keeper := { s.keeper with core3 := k } }

def modCore (c : Nat) (f : Core → Core) (s : State) : State := setCore c (f (getCore s c)) s

/-- The bank in use: the shadow bank while ST.SB is 1 (R457). -/
def Core.bank (k : Core) : KBank := if k.sb then k.shadow else k.main

def Core.setBank (b : KBank) (k : Core) : Core := if k.sb then { k with shadow := b } else { k with main := b }

def KBank.getD (b : KBank) (i : Nat) : KWord := mget {} b.d i
def KBank.getA (b : KBank) (i : Nat) : KWord := mget ⟨0, .addr⟩ b.a i
def KBank.setD (i : Nat) (w : KWord) (b : KBank) : KBank := { b with d := mset {} b.d i w }
def KBank.setA (i : Nat) (w : KWord) (b : KBank) : KBank := { b with a := mset ⟨0, .addr⟩ b.a i w }

/-- Write a D register of the bank in use. -/
def Core.setD (i : Nat) (w : KWord) (k : Core) : Core := k.setBank (k.bank.setD i w)

def coreUnit (s : State) (c : Nat) : UnitRec := mget {} s.units (17310 + c)

/-- The tag's number (R401). -/
def Tag.num : Tag → Nat
  | .int => 0 | .addr => 1 | .code => 2 | .keyref => 3 | .secret => 4 | .err => 5 | .handle => 6 | .gate => 7

/-- The tag of a number; 8 to 15 are reserved. -/
def tagOf (n : Nat) : Option Tag :=
  match n with
  | 0 => some .int | 1 => some .addr | 2 => some .code | 3 => some .keyref | 4 => some .secret | 5 => some .err
  | 6 => some .handle | 7 => some .gate | _ => none

/-- The word that a failed read gives (R400). -/
def errWord : KWord := ⟨0, .err⟩

end Sys2Proof.Machine
end

