-- ==== Sys2Proof/Machine/Random.lean ====
section
/-! DEFINITION. The random source (13 of spec/): pairs, seeds, reseeds, keeper reads, RNG_FILL and source faults. -/
namespace Sys2Proof.Machine

/-! ## Buffers fed by the source (R231, R271, R278, R328, R329) -/

/-- Fill the seed buffer of a lane, or with 16 of the legacy unit (R231, R265). -/
def fillMask (n : Nat) (s : State) : State :=
  let g := getMask s n
  let k := 4 * (8 - g.seeds.length)
  let m := k + (if g.full.isNone then 32 else 0)
  let r := drbgBytes s m
  useDrbg m (setMask n { g with seeds := g.seeds ++ blocks 4 (r.take k), full := some (g.full.getD (r.drop k)) } s)

/-- The buffers of units in service. -/
def feedLane (s : State) (n : Nat) : State := if worksOn (laneUnit s n).st then fillMask n s else s
def feedPair (s : State) (n : Nat) : State := if worksOn (pairUnit s n).st then refillPair n s else s
def feedLegacy (s : State) : State := if worksOn (unitSt s .legacy) then fillMask 16 s else s

/-- Blob keys of domains released while the source did not generate. -/
def feedBlobs (s : State) : State :=
  (s.domains.filter fun e => e.2.blobKey == some []).foldl (fun t e =>
    useDrbg 32 (modDom e.1 (fun x => { x with blobKey := some (drbgBytes t 32) }) t)) s

/-- Complete a stalled read with a word: a plain load receives it, any other instruction runs again with it. -/
def endStall (x : RngStall) (w : KWord) (s : State) : State :=
  match x.dst with
  | none => { s with rng := { s.rng with answers := s.rng.answers ++ [(x.core, w)] } }
  | some d => modCore x.core (fun k => k.setD d w) s

/-- The word of a read of RNG_DATA. -/
def secretWord (s : State) : KWord := ⟨BitVec.ofNat 32 (unle (drbgBytes s 4)), .secret⟩

/-- The reads that stalled return their words (R331, R332). -/
def serveStalls (s : State) : State :=
  s.rng.stalls.foldl (fun t x => useDrbg 4 (endStall x (secretWord t) t)) { s with rng := { s.rng with stalls := [] } }

/-- The source generates again: first the internal feeds and what waited for them, then the stalled reads (R329). -/
def feedAll (s : State) : State :=
  if !rngOn s then s
  else
    let s1 := (pairOrder s.part).foldl feedPair (feedLegacy ((laneOrder s.part).foldl feedLane s))
    serveStalls (startPk ((laneOrder s.part).foldl (fun t n => startPasses n t) (feedBlobs s1)))

/-- A lane's mask generator and seed buffer are cleared, or with 16 the legacy unit's. -/
def scrubMask (n : Nat) (s : State) : State := setMask n { ({} : MaskGen) with reseeds := (getMask s n).reseeds } s

/-- A pair's operand memories, mask generators and randomness buffer are cleared. -/
def scrubPair (n : Nat) (s : State) : State :=
  setPair n { getPair s n with memA := .zero, memB := .zero, maskA := 0, maskB := 0, rand := [] } s

/-- Every cipher, PK and legacy unit is scrubbed (R66); what the hash unit holds went with its operations. Units in service
are then fed anew. -/
def scrubEngines (s : State) : State :=
  feedAll ((pairOrder s.part).foldl (fun t n => scrubPair n t)
    (scrubMask 16 ((laneOrder s.part).foldl (fun t n => scrubMask n t) s)))

/-! ## Health tests (R324 to R326) -/

/-- The cut-offs of R324, over 1,024 samples. -/
def rctCutoff : Nat := 81
def aptCutoff : Nat := 830

def rctFails (w : PairWindow) : Bool := decide (rctCutoff ≤ w.run)
def aptFails (w : PairWindow) : Bool := decide (aptCutoff ≤ w.recurs)
def windowFails (w : PairWindow) : Bool := rctFails w || aptFails w

/-- Window `i` of a list shows a pass. -/
def windowPasses (l : List PairWindow) (i : Nat) : Bool := (l[i]?).any fun w => !windowFails w

/-- The pairs that contribute to the conditioner, as RNG_PAIRS shows them: none while the source is OFF (R340). -/
def healthyMask (s : State) : Nat :=
  if unitSt s .rng = .off then 0 else (2 ^ 64 - 1) ^^^ s.rng.isolated % 2 ^ 64

/-- Their number (R339). -/
def healthyPairs (s : State) : Nat := ((List.range 64).filter (nbit (healthyMask s))).length

/-- A pair is isolated: RNG_HEALTH pends, and the failures count (R325). -/
def isolate (n : Nat) (w : PairWindow) (s : State) : State :=
  let r := s.rng
  raise 3 { s with rng := { r with
    isolated := setBit r.isolated n, isoCount := mmod 0 r.isoCount n (· + 1)
    rct := if rctFails w then satAdd 65535 r.rct 1 else r.rct
    apt := if aptFails w then satAdd 65535 r.apt 1 else r.apt } }

/-- A pair that may still be retested (R325). -/
def retestable (s : State) (n : Nat) : Bool := nbit s.rng.isolated n && decide (mget 0 s.rng.isoCount n < 8)

/-- The isolated pairs whose windows pass are readmitted. -/
def readmit (l : List PairWindow) (s : State) : State :=
  let back := (List.range 64).filter fun i => retestable s i && windowPasses l i
  { s with rng := { s.rng with
    isolated := back.foldl clrBit s.rng.isolated, readmits := satAdd 65535 s.rng.readmits back.length } }

/-! ## Faults and OFF (R331, R334) -/

/-- Every stalled read completes with ERR (R334 step 3). -/
def failStalls (s : State) : State :=
  s.rng.stalls.foldl (fun t x => endStall x errWord t) { s with rng := { s.rng with stalls := [] } }

/-- An RNG_FILL in flight ends with the source (R334 step 4). -/
def endFill (s : State) (o : Op) : State :=
  match findOp s o.tag with
  | none => s
  | some x =>
    if x.stage = .held then s
    else if x.written = 0 then endOp x stNoEntropy 0 s else endOp x stAborted 4 s

/-- Operations that wait on a draw of the source: RNG_FILL, and MOOR or REKEY whose key is ready. -/
def waitsDraw (o : Op) : Bool :=
  dOpcode o.desc == 0x30 || ((dOpcode o.desc == 0x10 || dOpcode o.desc == 0x11) && o.stage == .running)

/-- The consumers that wait on a source that is FAULTED, or OFF (R331, R334). -/
def failWaiters (s : State) : State :=
  let s1 := failStalls s
  (s1.ops.filter waitsDraw).foldl endFill s1

/-- The ready seed and the DRBG state are gone. -/
def dropDrbg (s : State) : State :=
  { s with rng := { s.rng with seed := none, reseedDue := false, drbg := none, requests := 0 } }

/-- The source enters FAULTED (R334). -/
def faultRng (cause : Nat) (s : State) : State :=
  if unitSt s .rng = .faulted then s
  else
    let s1 := dropDrbg (moveUnit .rng (unitStep (getUnit s .rng) (.fault cause)) 2 s)
    let s2 := failWaiters (raise 3 { s1 with rng := { s1.rng with afterFault := true } })
    logExempt (hwEntry 0x08 5 3 (placeTile 0 5 15 5)) (recCluster 5 3 cause s2)

/-- A source that has gone OFF out of SEEDING fails those that waited for it (R331). -/
def seedingOff (before s : State) : State :=
  if unitSt before .rng = .starting && unitSt s .rng = .off then failWaiters (dropDrbg s) else s

/-- POOL_LOW is decided once a window's isolations and readmissions are counted (R325, R336). -/
def judgePool (s : State) : State := if healthyPairs s < 48 then faultRng 1 s else s

/-- RNG_PAIR_FAIL (R324, R325): `w` is what the failing test has seen; `inSeed` says that the ready seed was sampled in its
window (R323). -/
def execRngPairFail (n : Fin 64) (w : PairWindow) (inSeed : Bool) (s : State) : Host.Outcome State Fault Refusal :=
  .next (whenRuns kprRuns (fun s => if unitSt s .rng = .off || nbit s.rng.isolated n.val || !windowFails w then s
    else
      let s1 := isolate n.val w s
      judgePool (if inSeed then { s1 with rng := { s1.rng with seed := none } } else s1)) s)

/-- RNG_RETEST (R325): the window of each isolated pair. (Log entry 82: DEDUCED.) -/
def execRngRetest (windows : List PairWindow) (s : State) : Host.Outcome State Fault Refusal :=
  .next (whenRuns kprRuns (fun s => if unitSt s .rng = .off then s else readmit windows s) s)

/-! ## The conditioner and reseeds (R322, R323, R327, R328) -/

/-- One sample: the raw bits of the pairs that are not isolated enter the state, which then steps 64 times. -/
def sample (isolated : Nat) (lfsr raw : BitVec 64) : BitVec 64 :=
  Config.lfsrSteps (lfsr ^^^ (raw &&& ~~~(BitVec.ofNat 64 isolated)))

/-- Two samples at a time, with the word that each two emit: the words, and the state after them. -/
def condition (isolated : Nat) : BitVec 64 → List (BitVec 64) → List (BitVec 64) × BitVec 64
  | x, a :: b :: r =>
    let y := sample isolated (sample isolated x a) b
    let z := condition isolated y r
    (y :: z.1, z.2)
  | x, _ => ([], x)

/-- Two consecutive words are equal. -/
def wordRepeats : List (BitVec 64) → Bool
  | a :: b :: r => a == b || wordRepeats (b :: r)
  | _ => false

/-- SEED_READY (R322, R323): the raw bits of the samples since the last such event, at least 16; every word is compared with
the one before it. The last 8 words are a seed, unless one is ready. (Log entry 83: DEDUCED.) -/
def execSeedReady (raw : List (BitVec 64)) (s : State) : Host.Outcome State Fault Refusal :=
  let st := unitSt s .rng
  let r := s.rng
  let c := condition r.isolated r.lfsr raw
  .next (whenRuns kprRuns (fun s => if raw.length < 16 || raw.length % 2 = 1 || !(st == .starting || worksOn st) then s
    else
      let seed := ((c.1.drop (c.1.length - 8)).map fun w => le 8 w.toNat).flatten
      let s1 := { s with rng := { r with lfsr := c.2, lastWord := c.1.getLast?, seed := some (r.seed.getD seed) } }
      if wordRepeats (r.lastWord.toList ++ c.1) then faultRng 2 s1 else s1) s)

/-- DRBG_RESEED (R328): a reseed that is due takes the ready seed. -/
def execDrbgReseed (s : State) : Host.Outcome State Fault Refusal :=
  .next (whenRuns kprRuns (fun s => match s.rng.drbg, s.rng.seed with
    | some d, some e =>
      if !s.rng.reseedDue then s
      else feedAll { s with rng := { s.rng with
        seed := none, reseedDue := false, requests := 0, reseeds := (s.rng.reseeds + 1) % 2 ^ 48
        drbg := some (d.reseed e) } }
    | _, _ => s) s)

/-- The personalisation string (R327). -/
def personal (s : State) : Bytes := slice Config.uniqueId 0 16 ++ le 4 s.backup.bootCount

/-- One pair's start-up test (R326): a window that fails isolates it, and a further one that passes brings it back; a pair
isolated eight times is not tested again (R325). -/
def startupPair (first second : List PairWindow) (s : State) (i : Nat) : State :=
  if 8 ≤ mget 0 s.rng.isoCount i then { s with rng := { s.rng with isolated := setBit s.rng.isolated i } }
  else if windowPasses first i then
    let back := nbit s.rng.isolated i
    { s with rng := { s.rng with
      isolated := clrBit s.rng.isolated i, readmits := satAdd 65535 s.rng.readmits (b2n back) } }
  else
    let t := isolate i (first.getD i ⟨rctCutoff, 0⟩) s
    if windowPasses second i && decide (mget 0 t.rng.isoCount i < 8) then
      { t with rng := { t.rng with isolated := clrBit t.rng.isolated i, readmits := satAdd 65535 t.rng.readmits 1 } }
    else t

/-- RNG_STARTUP_TESTS_PASS (R326, R327, R330): the first window of every pair, and the further one of a pair that failed it.
The DRBG is instantiated from the ready seed. -/
def execRngStartupTestsPass (windows : List PairWindow × List PairWindow) (s : State) : Host.Outcome State Fault Refusal :=
  .next (whenRuns kprRuns (fun s => match s.rng.seed with
    | none => s
    | some e =>
      if unitSt s .rng ≠ .starting then s
      else
        let s1 := (List.range 64).foldl (startupPair windows.1 windows.2) s
        if healthyPairs s1 < 48 then faultRng 1 s1
        else
          feedAll (moveUnit .rng (unitStep (getUnit s1 .rng) .initDone) 1 { s1 with rng := { s1.rng with
            seed := none, reseedDue := false, afterFault := false, requests := 0
            drbg := some (Drbg.instantiate e (personal s1)) } })) s)

/-- SEED_TIMEOUT (R330). -/
def execSeedTimeout (s : State) : Host.Outcome State Fault Refusal :=
  .next (whenRuns kprRuns (fun s => if unitSt s .rng = .starting then faultRng 4 s else s) s)

/-- RNG_SOURCE_FAULT (R334): the cause code of R337, from 1 to 5. (Log entry 84: DEDUCED.) -/
def execRngSourceFault (cause : Fin 5) (s : State) : Host.Outcome State Fault Refusal :=
  .next (whenRuns kprRuns (fun s => if unitSt s .rng = .off then s else faultRng (cause.val + 1) s) s)

/-! ## Keeper reads (R331, R332) -/

/-- A core is stalled in a read of RNG_DATA. -/
def rngStalled (s : State) (c : Nat) : Bool := s.rng.stalls.any fun x => x.core == c

/-- A core's instruction runs again with the word of its stalled read; no interrupt comes first (R332). -/
def rngAnswered (s : State) (c : Nat) : Bool := s.rng.answers.any fun x => x.1 == c

/-- The words of a core's stalled reads go with the instruction. -/
def dropAnswers (c : Nat) (s : State) : State :=
  { s with rng := { s.rng with answers := s.rng.answers.filter fun x => x.1 != c } }

/-- What a read of RNG_DATA answers: a word, or nothing while it stalls. -/
def rngWord (s : State) : Option KWord × State :=
  match unitSt s .rng with
  | .on => if s.rng.reseedDue then (none, s) else (some (secretWord s), useDrbg 4 s)
  | .starting => (none, s)
  | _ => (some errWord, s)

/-- A read of RNG_DATA by core `c`: the word that its stalled read has returned, or that of a new one. -/
def rngReadBy (c : Nat) (s : State) : Option KWord × State :=
  match s.rng.answers.find? fun x => x.1 == c with
  | some x => (some x.2, { s with rng := { s.rng with answers := s.rng.answers.erase x } })
  | none => rngWord s

/-- RNG_DATA_READ (R332) by core `c` into register D`dst`. (Log entry 186: DEDUCED.) -/
def execRngDataRead (c : Fin 4) (dst : Fin 16) (s : State) : Host.Outcome State Fault Refusal :=
  .next (whenRuns kprRuns (fun s => if (coreUnit s c.val).st ≠ .on || rngStalled s c.val then s
    else match rngWord s with
      | (some w, s1) => modCore c.val (fun k => k.setD dst.val w) s1
      | (none, s1) => { s1 with rng := { s1.rng with stalls := s1.rng.stalls ++ [⟨c.val, some dst.val⟩] } }) s)

/-- RNG_DATA_STALL_TIMEOUT (R332): 10 ms have passed. -/
def execRngDataStallTimeout (c : Fin 4) (s : State) : Host.Outcome State Fault Refusal :=
  .next (whenRuns kprRuns (fun s => (s.rng.stalls.filter fun x => x.core == c.val).foldl (fun t x => endStall x errWord t)
    { s with rng := { s.rng with stalls := s.rng.stalls.filter fun x => x.core != c.val } }) s)

/-! ## RNG_FILL (R333) -/

/-- RNG_FILL enters arbitration. -/
def execOpRngFill (tag : Fin 4096) (s : State) : Host.Outcome State Fault Refusal :=
  .next (onRunning 0x30 tag.val (fun o t =>
    let others := t.ops.any fun p => p.dom == o.dom && p.tag != o.tag && dOpcode p.desc == 0x30 && p.stage == .computed
    modDom o.dom (fun x => { x with rngDef := if others then x.rngDef else 0 })
      (putOp { o with stage := .computed } { t with arb := { t.arb with rng := joinFresh others o.dom t.arb.rng } })) s)

/-- The oldest fill of a domain, once it is in arbitration; later ones never overtake it (R333, R643). -/
def oldestFill (s : State) (d : Nat) : Option Op :=
  (s.ops.find? fun o => o.dom == d && dOpcode o.desc == 0x30 && o.stage != .held).filter fun o => o.stage == .computed

/-- RNG_FILL_CHUNK (R333): one chunk of at most 4 KiB of the fill that the loop selects. -/
def execRngFillChunk (s : State) : Host.Outcome State Fault Refusal :=
  .next (whenRuns kprRuns (fun s => if !rngOn s || !s.rng.stalls.isEmpty then s
    else match drrRun .rng (oldestFill s) (fun d => (oldestFill s d).isSome) s with
      | none => s
      | some (d, s1) => match oldestFill s d with
        | none => s
        | some o =>
          let n := min 4096 (dOutLen o.desc - o.written)
          let done := decide (dOutLen o.desc ≤ o.written + n)
          let others := s.ops.any fun p =>
            p.dom == d && p.tag != o.tag && dOpcode p.desc == 0x30 && p.stage == .computed
          let s2 := emit (dataWrite s d (dOutAddr o.desc + o.written) (drbgBytes s n)) (useDrbg n s1)
          let o1 := { o with written := o.written + n, outWritten := true }
          let s3 := drrCharge .rng d n (!done || others) s2
          if done then opDone o1 stOK 0 [] s3 else putOp o1 s3) s)

end Sys2Proof.Machine
end

