-- ==== Sys2Proof/Machine/Watch.lean ====
section
/-! DEFINITION. The watch (21 of spec/): detection, the two decisions, responses, its registers, unlock ceremonies and
custodian presentations, TIME_SET, and the first power of the backup domain. -/
namespace Sys2Proof.Machine
open Sys2Proof (primBytes primOk)

/-! ## Sources (R518, R520) -/

/-- A source's default response, its floor, and whether it is monitored in the backup-only state. -/
def watchSource (i : Nat) : Nat × Nat × Bool :=
  match i with
  | 0 => (3, 2, true)
  | 1 => (3, 2, true)
  | 2 => (3, 2, false)
  | 3 => (2, 0, false)
  | 4 => (2, 0, false)
  | 5 => (2, 0, false)
  | 6 => (2, 0, false)
  | 7 => (2, 1, false)
  | 8 => (2, 1, false)
  | 9 => (2, 1, false)
  | 10 => (3, 2, true)
  | 11 => (2, 1, true)
  | 12 => (3, 2, false)
  | 13 => (3, 2, false)
  | 14 => (2, 2, false)
  | 15 => (2, 1, false)
  | 16 => (2, 2, true)
  | 17 => (0, 0, true)
  | _ => (0, 0, false)

def watchDefault (i : Nat) : Nat := (watchSource i).1
def watchFloor (i : Nat) : Nat := (watchSource i).2.1
def watchBackup (i : Nat) : Bool := (watchSource i).2.2

/-- The configured response of a source (R540). -/
def watchResp (s : State) (i : Nat) : Nat := s.watch.resp.getD i 0

/-- The device runs from the backup domain alone. -/
def backupOnly (s : State) : Bool := s.power.phase == .backupOnly

/-- A source is monitored now: its fuse is whole, and in the backup-only state R518 names it. -/
def monitored (s : State) (i : Nat) : Bool := !nbit s.watch.fused i && (!backupOnly s || watchBackup i)

/-- The conditions that hold among the sources monitored. -/
def activeMask (s : State) (holding : Nat) : Nat :=
  (List.range 19).foldl (fun m i => if nbit holding i && monitored s i then setBit m i else m) 0

/-- WATCH_DETECT (R518, R540): `src` meets its condition now, and `holding` marks the conditions that hold; without a
source, a condition has only ceased. (Log entry 109: DESIGN CHOICE.) -/
def execWatchDetect (src : Option (Fin 19)) (holding : BitVec 19) (s : State) : Host.Outcome State Fault Refusal :=
  let w := { s.watch with active := activeMask s holding.toNat }
  .next (match src with
    | none => { s with watch := w }
    | some i =>
      { s with watch := if monitored s i.val then { w with sticky := setBit w.sticky i.val } else w })

/-! ## What is in force (R523 to R526) -/

/-- The strongest response in force. -/
def inForce (s : State) : Nat :=
  if s.lifecycle = .zeroised then 3
  else if s.watch.lock then 2
  else if s.watch.restrict then 1
  else 0

/-- In FACTORY every response is applied as NOTE (R524). -/
def cappedResp (s : State) (r : Nat) : Nat := if s.lifecycle = .factory then 0 else r

/-- The RESTRICT response: private-key operations in flight end (R192). -/
def applyRestrict (s : State) : State :=
  abortWhere (fun o => isPrivateOp o.desc) stAborted 3 { s with watch := { s.watch with restrict := true } }

/-- The key image is scrubbed (R360). -/
def scrubImage (s : State) : State :=
  { s with keys := { s.keys with
      slots := s.keys.slots.map fun e => (e.1, e.2.unimage)
      building := false, scrubs := [], next := [] } }

/-- The command is a LOAD whose curve record is complete in flash. -/
def loadCommits (s : State) (c : AdminCmd) : Bool :=
  c.staged && !c.done && dOpcode c.desc == 0x83 && aSubop c.desc == 0 && !recordWaits s 5 (aTarget c.desc)

/-- A session closes with a LOCK; a LOAD whose record is written completes its commit first (R309). -/
def lockSession (s : State) (d : Nat) : State :=
  match servingOf s d with
  | none => closeSession d s
  | some c => if loadCommits s c then putCmd { c with close := true } s else closeSession d s

/-- Every session closes (R66, R126). -/
def closeAll (s : State) : State := (List.range 256).foldl lockSession s

/-- Every domain is quiesced, its operations ending with the watch's DETAIL. -/
def lockDomains (s : State) : State :=
  (List.range 256).foldl (fun t d => domMove d .quiesce t) (abortWhere (fun _ => true) stAborted 3 s)

/-- The watch LOCK reset of R66, and the limits of LOCK: `new` is LOCKED or ZEROISED (R7, R523). A debug certificate ends
(R619). -/
def applyLock (new : Lifecycle) (s : State) : State :=
  let prior := if s.lifecycle = .commissioned || s.lifecycle = .operational then s.lifecycle else s.priorLifecycle
  let s1 := { s with
    priorLifecycle := prior
    watch := { s.watch with lock := true }
    tap := { s.tap with cert := none }
    keys := { s.keys with approval := none } }
  let s2 := noteReset 3 4 (changeLifecycle new (fun t => transitionEntry t new) (applyRestrict s1))
  closeAll (scrubEngines (lockDomains (scrubImage s2)))

/-- Step 5 of R522: the KEK, the memory keys and the blob keys are overwritten, and the moorings are lost (R221).
(Log entry 113: DEDUCED.) -/
def destroyKeys (s : State) : State :=
  let s1 := { s with
    backup := { s.backup with kek := [], kekPresent := false, canaryOk := false }
    moor := { s.moor with memKeys := false } }
  regionInit (loseDram { s1 with
    boot := { s1.boot with blobKeys := [] }
    domains := s1.domains.map fun e => (e.1, { e.2 with blobKey := none }) })

/-- A response is applied when it is stronger than what is in force (R523, R525). -/
def respond (r : Nat) (s : State) : State :=
  if r ≤ inForce s then s
  else if r = 1 then announceIf s (applyRestrict s)
  else if r = 2 then applyLock .locked s
  else destroyKeys (applyLock .zeroised s)

/-- A response during the flush of a stop is latched, and shows at the next start (R44). -/
def latchResponse (r : Nat) (s : State) : State :=
  if r ≤ inForce s then s
  else
    let s1 := { s with watch := { s.watch with restrict := true, lock := s.watch.lock || decide (2 ≤ r) } }
    if r = 3 then { s1 with backup := { s1.backup with kek := [], kekPresent := false, canaryOk := false } } else s1

/-! ## The two decisions (R521, R522, R525, R539) -/

/-- WATCH_FIRST_DECISION (R521): the first circuit reads the latches of `which`, and finds the alarms in `found`. -/
def execWatchFirstDecision (which found : BitVec 19) (s : State) : Host.Outcome State Fault Refusal :=
  let l := (List.range 19).filter fun i =>
    nbit which.toNat i && nbit s.watch.sticky i && !(s.watch.first.any fun x => x.source == i)
  let new := l.map fun i =>
    ({ source := i, named := if nbit found.toNat i then some (watchResp s i) else none } : Decision)
  .next { s with watch := { s.watch with first := s.watch.first ++ new } }

/-- What the two decisions on a source give: the source that alarms, if one does, and each response named (R521). A
disagreement raises DECISION, and the response that the one circuit named counts beside it. -/
def decide2 (s : State) (i : Nat) (first : Option Nat) (second : Bool) : List (Option Nat × Nat) :=
  match first, second with
  | none, false => []
  | some _, true => [(some i, watchResp s i)]
  | some r, false => (none, r) :: (if nbit s.watch.fused 16 then [] else [(some 16, watchResp s 16)])
  | none, true => (none, watchResp s i) :: (if nbit s.watch.fused 16 then [] else [(some 16, watchResp s 16)])

/-- An alarm's count, latch, interrupt and entry (R522, R525, R541). (Log entry 112: DEDUCED.) -/
def noteAlarm (s : State) (i : Nat) : State :=
  let s1 := { s with watch := { s.watch with
    alarms := mmod 0 s.watch.alarms i (satAdd 65535 · 1)
    alarmTimes := mset 0 s.watch.alarmTimes i (rtcStamp s), latched := setBit s.watch.latched i } }
  if backupOnly s then s1 else logExempt (hwEntry 0x05 0x01 3 i) (raise 0 s1)

/-- The whole battery SRAM is overwritten with zero (R535). (Log entry 111: DEDUCED.) -/
def backupZeroise (src : Nat) (s : State) : State :=
  { s with backup := { s.backup with
      kek := [], kekPresent := false, canaryOk := false, locks := [], zeroisedBk := true, bkSource := src } }

/-- The alarms of one watch cycle take the strongest of their responses. -/
def applyAlarms (l : List (Option Nat × Nat)) (s : State) : State :=
  let ids := (List.range 19).filter fun i => l.any fun x => x.1 == some i
  let top := cappedResp s ((l.map Prod.snd).foldl max 0)
  let s1 := ids.foldl noteAlarm s
  if backupOnly s then
    match ids with
    | [] => s1
    | i :: _ => backupZeroise i s1
  else
    let s2 := if top = 3 then endCeremony s1 else s1
    if s.power.phase = .stopping then latchResponse top s2 else respond top s2

/-- WATCH_SECOND_DECISION (R521, R522, R525, R535, R539): the second circuit reads the latches of `which` in one watch
cycle. In the backup-only state a source that is not monitored there keeps its latch for the next start.
(Log entry 108: DEDUCED.) -/
def execWatchSecondDecision (which found : BitVec 19) (s : State) : Host.Outcome State Fault Refusal :=
  let l := s.watch.first.filter fun x => nbit which.toNat x.source
  let seen := l.filter fun x => !backupOnly s || watchBackup x.source
  let alarms := (seen.map fun x => decide2 s x.source x.named (nbit found.toNat x.source)).flatten
  let missed := (seen.filter fun x => x.named.isSome != nbit found.toNat x.source).length
  let w := { s.watch with
    first := s.watch.first.filter fun x => !nbit which.toNat x.source
    sticky := seen.foldl (fun m x => clrBit m x.source) s.watch.sticky
    mismatches := satAdd 65535 s.watch.mismatches missed }
  .next (applyAlarms alarms { s with watch := w })

/-! ## Watch registers (R540, R542) -/

def setResp (i r : Nat) (s : State) : State :=
  appendSetting setWatch { s with watch := { s.watch with resp := setAt s.watch.resp i r } }

/-- WCH_CFG_WRITE (R540). -/
def execWchCfgWrite (src : Fin 19) (v : BitVec 32) (s : State) : Host.Outcome State Fault Refusal :=
  let r := fld v.toNat 1 0
  .next (whenRuns kprRuns (fun s => if r < watchFloor src.val then s else setResp src.val r s) s)

/-- A fuse blows: an alarm already decided stands, and the source never alarms again (R520, R539). -/
def blowFuse (i : Nat) (s : State) : State :=
  if 19 ≤ i then s
  else { s with watch := { s.watch with
    fused := setBit s.watch.fused i, active := clrBit s.watch.active i, sticky := clrBit s.watch.sticky i
    first := s.watch.first.filter fun x => x.source != i } }

/-- WCH_FUSE_BLOW_WRITE (R542): `late` says that 1 ms has passed since the write before. -/
def execWchFuseBlowWrite (v : BitVec 32) (late : Bool) (s : State) : Host.Outcome State Fault Refusal :=
  let arm (x : Option Nat) (t : State) : State := { t with watch := { t.watch with fuseArm := x } }
  .next (whenRuns kprRuns (fun s => match s.watch.fuseArm with
    | none => arm (some v.toNat) s
    | some a =>
      if late then arm (some v.toNat) s
      else if a = v.toNat then blowFuse (fld a 4 0) (arm none s)
      else arm none s) s)

/-! ## WATCH_SET, FUSE_BLOW, WATCH_CLEAR (R527) -/

/-- An approval is needed. -/
def watchNeeds (c : AdminCmd) : Bool :=
  aSubop c.desc % 128 == 0x11 || (aSubop c.desc % 128 == 0x10 && decide (byteAt c.pb 1 < watchDefault (byteAt c.pb 0)))

/-- The body of R527. -/
def watchBodyOk (c : AdminCmd) : Bool :=
  let src := byteAt c.pb 0
  let sub := aSubop c.desc % 128
  c.pb.length == 8 && allZero (c.pb.drop 2) && src ≤ 18 &&
  (if sub = 0x10 then byteAt c.pb 1 ≤ 3 && watchFloor src ≤ byteAt c.pb 1 else byteAt c.pb 1 == 0) &&
  (sub != 0x12 || src == 0)

/-- What a watch sub-function refuses, but for its approval. -/
def watchRefusal (s : State) (c : AdminCmd) : Option (Nat × Nat) := deviceWide s c (watchBodyOk c)

/-- The entry of a watch change. -/
def logWatch (c : AdminCmd) (code old new : Nat) (s : State) : State :=
  logAdmin c 0x05 code 3 (byteAt c.pb 0) old new s

def watchSet (c : AdminCmd) (s : State) : State :=
  let src := byteAt c.pb 0
  let r := byteAt c.pb 1
  checked c (watchRefusal s c) (fun s =>
    if watchNeeds c && !approved s c then finishCmd c stPolicyDenied 0 [] s
    else
      let s1 := if watchNeeds c then spendApproval s else s
      finishCmd c stOK 0 [] (setResp src r (logWatch c 2 (watchResp s src) r s1))) s

/-- Log entry 110: DEDUCED. -/
def execWatchSet (d : Fin 256) (s : State) : Host.Outcome State Fault Refusal :=
  .next (onCmd d.val 0x8F 0x10 watchSet s)

def fuseBlow (c : AdminCmd) (s : State) : State :=
  checked c (watchRefusal s c) (fun s =>
    if !approved s c then finishCmd c stPolicyDenied 0 [] s
    else finishCmd c stOK 0 [] (blowFuse (byteAt c.pb 0) (logWatch c 3 0 1 (spendApproval s)))) s

def execFuseBlow (d : Fin 256) (s : State) : Host.Outcome State Fault Refusal :=
  .next (onCmd d.val 0x8F 0x11 fuseBlow s)

/-- A source with a response of at least `lo` and at most `hi` still alarms. -/
def stillAlarms (s : State) (lo hi : Nat) : Bool :=
  (List.range 19).any fun i => nbit s.watch.active i && decide (lo ≤ watchResp s i) && decide (watchResp s i ≤ hi)

def watchClear (c : AdminCmd) (s : State) : State :=
  checked c (watchRefusal s c) (fun s =>
    if stillAlarms s 1 1 then finishCmd c stPolicyDenied 0 [] s
    else
      let s1 := logWatch c 8 (b2n s.watch.restrict) 0 s
      finishCmd c stOK 0 [] (announceIf s1 { s1 with watch := { s1.watch with restrict := false } })) s

def execWatchClear (d : Fin 256) (s : State) : Host.Outcome State Fault Refusal :=
  .next (onCmd d.val 0x8F 0x12 watchClear s)

/-! ## Ceremonies (R530, R532) -/

/-- UNLOCK_BEGIN: CEREMONY_ID hashes the text, the boot counter, WCH_LATCHED and a nonce. -/
def unlockBegin (c : AdminCmd) (s : State) : State :=
  if aTarget c.desc ≠ 0 then finishCmd c stBadParameter 2 [] s
  else if !devLocked s then finishCmd c stPolicyDenied 0 [] s
  else if dOutLen c.desc < 32 then finishShort c 32 s
  else match unlockRefusal s with
    | some n => finishCmd c stLogFull n [] (countRefused s)
    | none =>
      if drawWaits s then s else
      let text : Bytes := [0x47, 0x48, 0x45, 0x4F, 0x52, 0x44, 0x2D, 0x55, 0x4E, 0x4C, 0x4F, 0x43, 0x4B]
      let id := primBytes (.hash 1) 32
        [text ++ le 4 s.backup.bootCount ++ le 4 s.watch.latched ++ drbgBytes s 16]
      let s1 := endCeremony (useDrbg 16 s)
      let s2 := logAdmin c 0x05 4 3 (lifecycleCode s.lifecycle) 0 0 s1
      finishCmd c stOK 0 id { s2 with watch := { s2.watch with
        ceremony := some { id := id } } }

def execUnlockBegin (d : Fin 256) (s : State) : Host.Outcome State Fault Refusal :=
  .next (onCmd d.val 0x8C 0 unlockBegin s)

/-- CEREMONY_EXPIRY (R530): 900 s after it opened. -/
def execCeremonyExpiry (s : State) : Host.Outcome State Fault Refusal := .next (whenRuns kprRuns (fun s => endCeremony s) s)

/-- A fresh KEK with its canary and check value (R533). (Log entry 117: DESIGN CHOICE.) -/
def newKek (s : State) : State :=
  useDrbg 32 { s with backup := { s.backup with
    kek := drbgBytes s 32, kekPresent := true, canaryOk := true, kekEpoch := s.backup.kekEpoch + 1 } }

/-- The key image starts to be built (R350, R360). -/
def startImage (s : State) : State := { s with keys := { s.keys with building := true } }

/-- Every key record is erased from flash (R360). -/
def dropKeyRecords (s : State) : State :=
  let isKey (k : Nat) : Bool := k == 1 || k == 2
  { s with
    keys := { s.keys with slots := [] }
    flash := { s.flash with
      jobs := s.flash.jobs.filter fun j => !isKey j.kind
      pages := s.flash.pages.map fun e =>
        (e.1, e.2.map fun p => if isKey p.kind then { p with live := false, data := zeros 512 } else p) } }

/-- Recommissioning (R616): roots, custody record, owner port and identity key stay. -/
def recommission (s : State) : State :=
  let s1 := newKek (dropKeyRecords s)
  let s2 := { s1 with backup := { s1.backup with zeroisedBk := false } }
  changeLifecycle .commissioned (fun t => transitionEntry t .commissioned) s2

/-- A completed ceremony (R526, R532): the state before the lock returns, and a ZEROISED device is COMMISSIONED again. -/
def finishCeremony (s : State) : State :=
  let s1 := { s with watch := { s.watch with
    ceremony := none, lock := false, restrict := false, latched := 0 } }
  let s2 := if s.lifecycle = .zeroised then recommission s1
    else changeLifecycle s1.priorLifecycle (fun t => transitionEntry t s1.priorLifecycle) s1
  startImage (logFw (fwEntry s2 0x05 0x06 3 0 0 0) s2)

/-! ## Presentations (R529, R531) -/

/-- The body of UNLOCK_CUSTODIAN. -/
def presentBodyOk (c : AdminCmd) : Bool :=
  c.pb.length == 8 && byteAt c.pb 0 ≤ 1 && allZero (c.pb.drop 2) && aTarget c.desc ≤ 15

/-- What UNLOCK_CUSTODIAN refuses before it waits for a credential; a part without the contactless front end takes no badge
(R4, R6). -/
def presentRefusal (s : State) (c : AdminCmd) : Option (Nat × Nat) :=
  if !presentBodyOk c then some (stBadParameter, 2)
  else if byteAt c.pb 0 = 1 && !contactlessPresent s.part then some (stUnitAbsent, 0)
  else (unlockRefusal s).map fun n => (stLogFull, n)

/-- The ceremony that is open; one is open only while LOCKED or ZEROISED (R530). (Log entry 114: DEDUCED.) -/
def openCeremony (s : State) : Option Ceremony := if devLocked s then s.watch.ceremony else none

/-- The identifiers counted and m, for the ceremony (SUBOP 0) or the pending approval, if one is open. -/
def openCount (s : State) (sub : Nat) : Option (List Nat × Nat) :=
  if sub = 0 then (openCeremony s).map fun x => (x.who, s.owner.custody.unlockM)
  else if devLocked s then none
  else s.keys.approval.map fun a => (a.who, a.m)

/-- The 4 bytes that a presentation writes. -/
def countBytes (s : State) (sub : Nat) : Bytes :=
  match openCount s sub with
  | some (l, m) => le 1 l.length ++ le 1 m ++ zeros 2
  | none => [0] ++ le 1 (if sub = 0 then s.owner.custody.unlockM else 0) ++ zeros 2

/-- The enrolled custodian that a presentation names. -/
def custodianOf (s : State) (c : AdminCmd) : Option Custodian :=
  s.owner.custody.list.find? fun e => e.id == byteAt c.pb 1

/-- The custodian may count here: the unlock set, or the eligible roles of the approval. -/
def eligible (s : State) (sub : Nat) (e : Custodian) : Bool :=
  if sub = 0 then e.unlock
  else match s.keys.approval with
    | none => false
    | some a => if a.unlockSet then e.unlock else nbit a.roles e.role

/-- The challenge of R529. -/
def custodianChallenge (s : State) (sub id : Nat) (nonce : Bytes) : Bytes :=
  let text : Bytes := [0x47, 0x48, 0x45, 0x4F, 0x52, 0x44, 0x2D, 0x43, 0x55, 0x53, 0x54]
  let what := if sub = 0 then (s.watch.ceremony.map Ceremony.id).getD [] else (s.keys.approval.map Approval.id).getD []
  primBytes (.hash 1) 32 [text ++ le 1 (sub + 1) ++ what ++ le 1 id ++ nonce]

/-- The credential's answer is the enrolled custodian's, in the role and by the method named. -/
def presentOk (s : State) (c : AdminCmd) (sig nonce : Bytes) : Bool :=
  let sub := aSubop c.desc
  match custodianOf s c with
  | none => false
  | some e =>
    e.role == aTarget c.desc && nbit e.methods (byteAt c.pb 0) && eligible s sub e && sig.length == 64 &&
    verifyWith 1 p256 e.key (custodianChallenge s sub e.id nonce) sig []

/-- The command APDU of a presentation (R529, "Worked exchange" of 23): CLA, INS, P1, P2, the length of the data field, the
challenge, and Le 00. -/
def custodianApdu (s : State) (c : AdminCmd) (nonce : Bytes) : Bytes :=
  let sub := aSubop c.desc
  [0x80, 0x2A] ++ le 1 (sub + 1) ++ [0x00, 0x20] ++ custodianChallenge s sub (byteAt c.pb 1) nonce ++ [0x00]

/-- The entry of a presentation (R531): the role in OBJECT, and the custodian in ORIGIN where one is enrolled (R495). -/
def logPresent (c : AdminCmd) (status : Nat) (s : State) : State :=
  let id := if (custodianOf s c).isSome then byteAt c.pb 1 else 255
  logFw { fwEntry s 0x05 0x05 3 (aTarget c.desc) 0 0 with
    status := status, origin := fwOrigin s 4 0 0 id } s

/-- A presentation completes with its 4 bytes and its entry. -/
def endPresent (c : AdminCmd) (status detail : Nat) (s : State) : State :=
  finishCmd c status detail (countBytes s (aSubop c.desc)) (logPresent c status s)

/-- One custodian more. -/
def countIn (sub id : Nat) (s : State) : State :=
  if sub = 0 then { s with watch := { s.watch with
    ceremony := s.watch.ceremony.map fun x => { x with who := x.who ++ [id] } } }
  else { s with keys := { s.keys with approval := s.keys.approval.map fun a => { a with who := a.who ++ [id] } } }

/-- A failed presentation; the ceremony ends with its fifth (R530). -/
def failPresent (c : AdminCmd) (s : State) : State :=
  let s1 := endPresent c stAuthFail 1 s
  if aSubop c.desc ≠ 0 then s1
  else match s1.watch.ceremony with
    | none => s1
    | some x =>
      let y := { x with fails := x.fails + 1 }
      let s2 := { s1 with watch := { s1.watch with ceremony := some y } }
      if 5 ≤ y.fails then endCeremony s2 else s2

/-- A verified presentation: counted unless it was before, and the ceremony completes where it can (R532).
(Log entry 115: DEDUCED.) -/
def takePresent (c : AdminCmd) (who : List Nat) (s : State) : State :=
  let sub := aSubop c.desc
  let id := byteAt c.pb 1
  let again := who.contains id
  let s1 := if again then s else countIn sub id s
  let st := if again then stPolicyDenied else stOK
  match (if sub = 0 then openCeremony s1 else none) with
  | none => endPresent c st 0 s1
  | some x =>
    if x.who.length < s.owner.custody.unlockM then endPresent c st 0 s1
    else if stillAlarms s1 2 3 then endPresent c stPolicyDenied 0 s1
    else finishCmd c stOK 0 (countBytes s1 0) (finishCeremony (logPresent c stOK s1))

/-- UNLOCK_CUSTODIAN: the credential answers with `sig`, or the step was not done. -/
def present (sig : Option Bytes) (c : AdminCmd) (s : State) : State :=
  match presentRefusal s c with
  | some (st, dt) => finishCmd c st dt [] (if st = stLogFull then countRefused s else s)
  | none =>
    if dOutLen c.desc < 4 then finishShort c 4 s
    else match openCount s (aSubop c.desc) with
      | none => endPresent c stPolicyDenied 0 s
      | some (who, _) =>
        match sig with
        | none => endPresent c stBadParameter 3 s
        | some g =>
          if drawWaits s then s
          else
            let nonce := drbgBytes s 16
            let t := emit (.credential (byteAt c.pb 0 == 1) (custodianApdu s c nonce)) (useDrbg 16 s)
            if presentOk s c g nonce then takePresent c who t else failPresent c t

def execUnlockCustodian (d : Fin 256) (sig : Option Bytes) (s : State) : Host.Outcome State Fault Refusal :=
  .next (onCmd d.val 0x8D 0 (present sig) s)

def execUnlockCustodianApproval (d : Fin 256) (sig : Option Bytes) (s : State) : Host.Outcome State Fault Refusal :=
  .next (onCmd d.val 0x8D 1 (present sig) s)

/-- CREDENTIAL_WAIT_TIMEOUT (R531): no credential within 30 s. -/
def execCredentialWaitTimeout (d : Fin 256) (s : State) : Host.Outcome State Fault Refusal :=
  .next (onCmd d.val 0x8D 1 (present none) (onCmd d.val 0x8D 0 (present none) s))

/-! ## TIME_SET and the backup domain (R533, R538) -/

/-- TIME_SET: the RTC takes the value at its next edge. -/
def timeSet (c : AdminCmd) (s : State) : State :=
  let v := leAt c.pb 0 8
  if aTarget c.desc ≠ 0 || c.pb.length ≠ 8 || 2 ^ 56 ≤ v || nbit v 40 then finishCmd c stBadParameter 2 [] s
  else ifLogged c (fun t =>
    let t1 := logAdmin c 0x06 2 3 0 (rtcStamp t) v t
    finishCmd c stOK 0 [] { t1 with backup := { t1.backup with rtcSet := some v } }) s

/-- Log entry 120: DEDUCED. -/
def execTimeSet (d : Fin 256) (s : State) : Host.Outcome State Fault Refusal :=
  .next (onCmd d.val 0x8E 0 timeSet s)

/-- The `n`-th free value from now. -/
def freeAt (s : State) (n : Nat) : Nat := Config.freeValue (s.free + n)

/-- The lock-out table after the first power: entries of undefined contents. -/
def undefinedLocks (s : State) : SMap LockOut :=
  (List.range 56).foldl (fun m i =>
    let v := freeAt s (8 + i)
    mset {} m (fld v 7 0) {
      fails := fld v 15 8, locked := decide (fld v 63 16 ≠ 0), left := 4096000 * fld v 63 16, period := fld v 63 16 }) []

/-- BACKUP_DOMAIN_FIRST_POWER (R53, R69, R533): the canary is written; RTC_VALID and PWR_EVENTS take their values after
reset, and the rest is undefined. (Log entry 118: DESIGN CHOICE.) -/
def execBackupDomainFirstPower (s : State) : Host.Outcome State Fault Refusal :=
  .next (if !backupOnly s then s
  else
    let b := s.backup
    { s with
      backup := { b with
        kek := le 32 (freeAt s 64), kekPresent := true, kekEpoch := b.kekEpoch + 1, canaryOk := nbit (freeAt s 0) 0
        rtcSec := fld (freeAt s 1) 39 0, rtcFrac := 2 * fld (freeAt s 1) 55 41, rtcValid := false, rtcSet := none
        bootCount := fld (freeAt s 2) 31 0, zeroisedBk := nbit (freeAt s 3) 0, bkSource := fld (freeAt s 4) 4 0
        locks := undefinedLocks s }
      watch := { s.watch with
        restrict := nbit (freeAt s 5) 0, lock := nbit (freeAt s 6) 0, latched := fld (freeAt s 7) 18 0 }
      pwrEvents := {}
      free := s.free + 65 })

end Sys2Proof.Machine
end

