-- ==== Sys2Proof/Machine/Commission.lean ====
section
/-! DEFINITION. Commissioning (05 and 25 of spec/): ROOTS, CUSTODY, STRAP, COMPLETE, and PASSWORD_SET. -/
namespace Sys2Proof.Machine
open Sys2Proof (primBytes primOk)

/-- The checks of a sub-function that only the session of R614 in FACTORY may issue (R615). -/
def factoryOnly (s : State) (c : AdminCmd) (bodyOk : Bool) : Option (Nat × Nat) :=
  if aTarget c.desc ≠ allTarget then some (stBadParameter, 2)
  else if !factoryScope s c then some (stPolicyDenied, 0)
  else if !bodyOk || !c.input.isEmpty then some (stBadParameter, 2)
  else none

/-- The checks of a sub-function that the session of R614 issues in FACTORY, and the owner domain later (R120, R615). -/
def factoryOrOwner (s : State) (c : AdminCmd) (bodyOk : Bool) : Option (Nat × Nat) :=
  if aTarget c.desc ≠ allTarget then some (stBadParameter, 2)
  else if !factoryScope s c && !ownerScope s c then some (stPolicyDenied, 0)
  else if !bodyOk || !c.input.isEmpty then some (stBadParameter, 2)
  else none

/-- The entry of a commissioning sub-function (R622). -/
def logCommission (c : AdminCmd) (s : State) : State :=
  logAdmin c 0x06 8 3 (aSubop c.desc % 128) 0 0 s

def setStaged (f : Staged → Staged) (s : State) : State :=
  { s with owner := { s.owner with staged := f s.owner.staged } }

/-- The digest that the owner root fuses hold (R607, R615). -/
def rootDigest (body : Bytes) : Bytes := primBytes (.hash 2) 48 [slice body 0 2049]

/-- ROOTS: the owner's keys are staged; fused roots admit only themselves. -/
def roots (c : AdminCmd) (s : State) : State :=
  checked c (factoryOnly s c (c.pb.length == 2056 && allZero (c.pb.drop 2049))) (fun s =>
    if !s.owner.rootFuse.isEmpty && rootDigest c.pb ≠ s.owner.rootFuse then finishCmd c stBadParameter 3 [] s
    else ifLogged c (fun t =>
      finishCmd c stOK 0 [] (setStaged (fun g => { g with roots := some c.pb }) (logCommission c t))) s) s

def execRoots (d : Fin 256) (s : State) : Host.Outcome State Fault Refusal :=
  .next (onCmd d.val 0x8F 0x40 roots s)

/-- The custodian of an 80-byte entry (R528). -/
def custodianAt (b : Bytes) (off : Nat) : Custodian :=
  { id := byteAt b off, role := byteAt b (off + 1), methods := byteAt b (off + 2), unlock := byteAt b (off + 3) == 1
    key := slice b (off + 8) 65 }

/-- An entry's values lie in their ranges. -/
def custodianFormOk (b : Bytes) (off : Nat) : Bool :=
  byteAt b off ≤ 254 && byteAt b (off + 1) ≤ 15 && byteAt b (off + 2) ≤ 3 && byteAt b (off + 3) ≤ 1 &&
  allZero (slice b (off + 4) 4) && byteAt b (off + 8) == 4 && allZero (slice b (off + 73) 7)

/-- The custodians of a CUSTODY body. -/
def custodyList (b : Bytes) : List Custodian := (List.range (byteAt b 1)).map fun i => custodianAt b (8 + 80 * i)

/-- The body of CUSTODY (R528, R615). -/
def custodyBodyOk (b : Bytes) : Bool :=
  let n := byteAt b 1
  let m := byteAt b 0
  2 ≤ n && n ≤ 16 && b.length == 8 + 80 * n && allZero (slice b 2 6) && 2 ≤ m && m ≤ 16 &&
  ((List.range n).all fun i => custodianFormOk b (8 + 80 * i)) &&
  m ≤ ((custodyList b).filter fun e => e.unlock).length

/-- What CUSTODY refuses, but for its approval. -/
def custodyRefusal (s : State) (c : AdminCmd) : Option (Nat × Nat) := factoryOrOwner s c (custodyBodyOk c.pb)

/-- The custody record is written, 6 pages (R120, R377, R528). -/
def appendCustody (s : State) : State := appendRec 4 0 6 [] s

/-- CUSTODY: staged in FACTORY; later it replaces the record, with an approval of the unlock set. The password table
stays. -/
def custody (c : AdminCmd) (s : State) : State :=
  let f (x : Custody) : Custody := { x with unlockM := byteAt c.pb 0, list := custodyList c.pb }
  checked c (custodyRefusal s c) (fun s =>
    if s.lifecycle = .factory then ifLogged c (fun t =>
      finishCmd c stOK 0 [] (setStaged (fun g => { g with custody := some (f {}) }) (logCommission c t))) s
    else if !approved s c then finishCmd c stPolicyDenied 0 [] s
    else ifLogged c (fun t =>
      let t1 := logCommission c (spendApproval t)
      finishCmd c stOK 0 [] (appendCustody { t1 with owner := { t1.owner with custody := f t1.owner.custody } })) s) s

/-- Log entry 116: DEDUCED. -/
def execCustody (d : Fin 256) (s : State) : Host.Outcome State Fault Refusal :=
  .next (onCmd d.val 0x8F 0x41 custody s)

/-- STRAP: the strap word is staged. -/
def strapSet (c : AdminCmd) (s : State) : State :=
  checked c (factoryOnly s c (c.pb.length == 8 && allZero (c.pb.drop 4))) (fun s => ifLogged c (fun t =>
    finishCmd c stOK 0 [] (setStaged (fun g => { g with strap := some (fld (leAt c.pb 0 4) 7 0) }) (logCommission c t))) s) s

def execStrap (d : Fin 256) (s : State) : Host.Outcome State Fault Refusal :=
  .next (onCmd d.val 0x8F 0x42 strapSet s)

/-- Steps 1 and 2 of COMPLETE: the entry, and the two records, which wait to be programmed. -/
def writeRecords (c : AdminCmd) (r : Bytes) (x : Custody) (s : State) : State :=
  let g := s.owner.staged
  let pw := g.passwords.foldl (fun m e => mset {} m e.1 e.2) x.passwords
  let w := g.strap.getD s.strapNext
  let s1 := if g.strap.isSome then logAdmin c 0x06 9 3 w s.strapNext w s else s
  appendCustody (appendRec 6 setOwner 5 [] { s1 with
    ownerPort := domPort c.dom, strapNext := w
    owner := { s1.owner with roots := r, custody := { x with passwords := pw }, staged := {} } })

/-- The permissions of every domain on a present port after commissioning (R130). -/
def commissionPerms (s : State) (b : Bank) : Bank :=
  (List.range 256).foldl (fun x d =>
    if domPresent s d then modShare d (fun y => { y with perms := defaultPerms s d }) x else x) b

/-- A record of step 2 is not yet complete in flash. -/
def commissionWaits (s : State) : Bool := recordWaits s 6 setOwner || recordWaits s 4 0

/-- Step 3: the root fuses are blown. -/
def blowRoots (s : State) : State := { s with owner := { s.owner with rootFuse := rootDigest s.owner.roots } }

/-- Steps 4 and 5: KEK, lifecycle, and the permissions; the age of R571 starts. -/
def commissionRest (c : AdminCmd) (s : State) : State :=
  let s2 := newKek { s with health := { s.health with age := 0, storedAge := 0 } }
  let s3 := changeLifecycle .commissioned (fun t => adminEntry t c.dom 0x06 0x01 3 1 0 1) s2
  commitWith (commissionPerms s3) s3

/-- COMPLETE after its records: the fuses in one run of the row, the rest in the next. A LOCK between them has ended
FACTORY. (Log entry 119: DEDUCED.) -/
def completeStaged (c : AdminCmd) (s : State) : State :=
  if s.lifecycle ≠ .factory then finishCmd c stPolicyDenied 0 [] s
  else if commissionWaits s then s
  else if s.owner.rootFuse ≠ rootDigest s.owner.roots then blowRoots s
  else if commitBusy s || drawWaits s then s
  else finishCmd c stOK 0 [] (commissionRest c s)

/-- COMPLETE (R615): entry and records first; the row runs again for the rest. -/
def complete (c : AdminCmd) (s : State) : State :=
  if c.staged then completeStaged c s
  else checked c (factoryOnly s c true) (fun s =>
    match s.owner.staged.roots, s.owner.staged.custody with
    | some r, some x => ifLogged c (fun t => putCmd { c with staged := true } (writeRecords c r x (logCommission c t))) s
    | _, _ => finishCmd c stPolicyDenied 0 [] s) s

def execComplete (d : Fin 256) (s : State) : Host.Outcome State Fault Refusal :=
  .next (onCmd d.val 0x8F 0x43 complete s)

/-! ## PASSWORD_SET (R119, R120) -/

/-- The form of the body. -/
def pwBodyOk (b : Bytes) : Bool :=
  let n := byteAt b 1
  b.length == 96 && byteAt b 0 ≤ 15 && (n == 0 || (12 ≤ n && n ≤ 64)) && allZero (slice b 2 2) &&
  !allZero (slice b 4 12) && (n != 0 || allZero (b.drop 16))

/-- The password that the body carries, decrypted to 64 bytes. -/
def pwPlain (c : AdminCmd) : Bytes :=
  gcmCtr c.kPw (slice c.pb 4 12) (slice c.pb 16 64)

/-- The tag verifies, the password is as R119 allows, and its padding is zero. -/
def pwValueOk (c : AdminCmd) : Bool :=
  let n := byteAt c.pb 1
  n == 0 ||
    (slice c.pb 80 16 == gcmTag 16 c.kPw (slice c.pb 4 12) (slice c.pb 0 16) (slice c.pb 16 64) &&
     passwordOk ((pwPlain c).take n) && allZero ((pwPlain c).drop n))

/-- What PASSWORD_SET refuses, but for its approval. -/
def passwordRefusal (s : State) (c : AdminCmd) : Option (Nat × Nat) :=
  match factoryOrOwner s c (pwBodyOk c.pb) with
  | some a => some a
  | none => if pwValueOk c then none else some (stBadParameter, 3)

/-- The role's entry as set, with a fresh SALT, or cleared. -/
def newPwEntry (s : State) (c : AdminCmd) : PwEntry :=
  let n := byteAt c.pb 1
  if n = 0 then {}
  else
    let salt := drbgBytes s 16
    { set := true, salt := salt, verifier := hmac 2 salt ((pwPlain c).take n) }

/-- The password's change, with its entry: the role in OBJECT. -/
def storePassword (c : AdminCmd) (s : State) : State :=
  let role := byteAt c.pb 0
  let e := newPwEntry s c
  let s1 := logAdmin c 0x02 0x8F 2 role 0 0 (if byteAt c.pb 1 = 0 then s else useDrbg 16 s)
  finishCmd c stOK 0 []
    (if s.lifecycle = .factory then setStaged (fun g => { g with passwords := mset {} g.passwords role e }) s1
     else
      let o := s1.owner
      appendCustody { s1 with owner := { o with custody := {
        o.custody with passwords := mset {} o.custody.passwords role e } } })

def passwordSet (c : AdminCmd) (s : State) : State :=
  checked c (passwordRefusal s c) (fun s =>
    if s.lifecycle ≠ .factory && !approved s c then finishCmd c stPolicyDenied 0 [] s
    else if byteAt c.pb 1 ≠ 0 && drawWaits s then s
    else ifLogged c (fun t => storePassword c (if t.lifecycle = .factory then t else spendApproval t)) s) s

def execPasswordSet (d : Fin 256) (s : State) : Host.Outcome State Fault Refusal :=
  .next (onCmd d.val 0x8F 0x44 passwordSet s)

end Sys2Proof.Machine
end

