-- ==== Sys2Proof/Machine/CurveCmds.lean ====
section
/-! DEFINITION. Curve loading (12 of spec/): CURVE_LOAD's sub-functions and the PKE_CURVE_ registers. -/
namespace Sys2Proof.Machine
open Sys2Proof (primBytes primOk)

/-- The live copy of a slot in the active bank. -/
def slotLive (s : State) (i : Nat) : CurveCopy := curveCopy s i (curveSel (activeBank s) i).copy

/-- The fingerprint of what a slot holds, or nothing while it is empty. -/
def slotFp (s : State) (i : Nat) : Bytes :=
  if (curveSel (activeBank s) i).valid then ((copyBody i (slotLive s i)).map curveFingerprint).getD [] else []

/-- The first 8 B of a fingerprint (R494). -/
def fp8 (b : Bytes) : Nat := unle (b.take 8)

/-- Write one copy of a slot. -/
def setCopy (i c : Nat) (x : CurveCopy) (s : State) : State :=
  let k := getCurve s i
  setCurve i (if c = 0 then { k with copy0 := x } else { k with copy1 := x }) s

/-- Change one slot's entry in a policy bank. -/
def modSel (i : Nat) (x : CurveSel) (b : Bank) : Bank :=
  { b with curves := mset {} b.curves i x }

/-- Firmware writes a copy through PKE_CURVE_SEL and PKE_CURVE_DATA (R308, R318, R319): the whole body, or nothing where the
slot becomes empty. -/
def writeCopy (i c : Nat) (x : CurveCopy) (s : State) : State :=
  let b := (copyBody i x).getD []
  let s1 := setCopy i c x s
  { setCurve i { getCurve s1 i with staging := b } s1 with
    curveRegs := { s.curveRegs with slot := i, copy := c, index := b.length / 4 } }

/-- The sequence of R308 from the wait on: the other copy, the bank, the commit, the epoch. -/
def applyCurve (i : Nat) (x : CurveCopy) (valid : Bool) (s : State) : State :=
  let c := 1 - (curveSel (activeBank s) i).copy
  let s1 := writeCopy i c x s
  let k := getCurve s1 i
  commitWith (modSel i ⟨valid, c⟩) (setCurve i { k with epoch := k.epoch + 1 } s1)

/-- The record of a slot is deleted. -/
def dropCurveRec (i : Nat) (s : State) : State :=
  let f := s.flash
  setCurve i { getCurve s i with record := none } { s with flash := { f with
      jobs := f.jobs.filter fun j => !(j.kind == 5 && j.id == i)
      pages := f.pages.map fun e =>
        (e.1, e.2.map fun p => if p.kind == 5 && p.id == i then { p with live := false } else p) } }

/-- A slot's record is not yet complete in flash. -/
def curveRecWaits (s : State) (i : Nat) : Bool := recordWaits s 5 i

/-- What LOAD and CLEAR refuse before anything is written; a slot whose CURVE_EPOCH is at its end takes neither (R629). -/
def curveRefusal (s : State) (c : AdminCmd) (load : Bool) : Option (Nat × Nat) :=
  let i := aTarget c.desc
  if 63 < i || !c.input.isEmpty || (load && !curveBodyOk c.pb) || 2 ^ 32 - 1 ≤ (getCurve s i).epoch then
    some (stBadParameter, 2)
  else if curveInUse s i then some (stCurveRejected, 1)
  else if load && curveReason c.pb ≠ 0 then some (stCurveRejected, curveReason c.pb)
  else none

/-- A LOAD's entry and its record (R308); a stop before the record is complete gives the old one back (R309). -/
def stageLoad (c : AdminCmd) (s : State) : State :=
  let i := aTarget c.desc
  let k := getCurve s i
  let s1 := logChange c 0 (fp8 (slotFp s i)) (fp8 (curveFingerprint c.pb)) s
  setCurve i { k with record := some c.pb } (appendUndo 5 i 1 c.pb (.curve k.record s.log.nextSeq) s1)

/-- CURVE_LOAD LOAD (R303 to R309): with the entry and the record written, the rest waits while COMMIT_BUSY. -/
def curveLoad (c : AdminCmd) (s : State) : State :=
  let i := aTarget c.desc
  if !c.staged && dOutLen c.desc < 32 && i ≤ 63 && curveBodyOk c.pb then finishShort c 32 s
  else checked c (if c.staged then none else curveRefusal s c true) (inSequence c
    (fun t => commitBusy t || curveRecWaits t i) (stageLoad c)
    (fun c1 t => finishCmd c1 stOK 0 (curveFingerprint c.pb) (applyCurve i (.loaded c.pb) true t))) s

def execCurveLoad (d : Fin 256) (s : State) : Host.Outcome State Fault Refusal :=
  .next (onCmd d.val 0x83 0 curveLoad s)

/-- CURVE_LOAD CLEAR (R303, R306, R308). -/
def curveClear (c : AdminCmd) (s : State) : State :=
  let i := aTarget c.desc
  checked c (if c.staged then none else curveRefusal s c false) (inSequence c commitBusy
    (fun t =>
      let new := ((copyBody i .asReset).map curveFingerprint).getD []
      dropCurveRec i (logChange c 0 (fp8 (slotFp t i)) (fp8 new) t))
    (fun c1 t => finishCmd c1 stOK 0 [] (applyCurve i .asReset (decide (i < 5)) t))) s

def execCurveClear (d : Fin 256) (s : State) : Host.Outcome State Fault Refusal :=
  .next (onCmd d.val 0x83 1 curveClear s)

/-- CURVE_LOAD READ (R303): an empty slot writes nothing. -/
def curveRead (c : AdminCmd) (s : State) : State :=
  let i := aTarget c.desc
  if 63 < i then finishCmd c stBadParameter 2 [] s
  else
    let body := if (curveSel (activeBank s) i).valid then copyBody i (slotLive s i) else none
    match body with
    | none => finishCmd c stOK 0 [] s
    | some b =>
      if dOutLen c.desc < 504 then finishShort c 504 s
      else finishCmd c stOK 0 (slice b 0 472 ++ curveFingerprint b) s

def execCurveRead (d : Fin 256) (s : State) : Host.Outcome State Fault Refusal :=
  .next (onCmd d.val 0x83 2 curveRead s)

/-! ## PKE_CURVE_SEL and PKE_CURVE_DATA (R318, R319) -/

/-- The copy of a slot that the active bank names. -/
def copyLive (s : State) (i c : Nat) : Bool := (curveSel (activeBank s) i).copy == c

/-- PKE_CURVE_SEL_WRITE (R318). -/
def execPkeCurveSelWrite (v : BitVec 32) (s : State) : Host.Outcome State Fault Refusal :=
  let w := v.toNat
  let i := fld w 5 0
  let c := fld w 6 6
  let r := s.curveRegs
  let refused := r.refused && !nbit w 7
  .next (whenRuns policyRuns (fun s => if copyLive s i c then { s with curveRegs := { r with refused := true } }
  else { (setCurve i { getCurve s i with staging := [] } s) with
    curveRegs := { slot := i, copy := c, refused := refused, index := 0 } }) s)

/-- PKE_CURVE_DATA_WRITE (R319). (Log entry 97: DEDUCED.) -/
def execPkeCurveDataWrite (v : BitVec 32) (s : State) : Host.Outcome State Fault Refusal :=
  let r := s.curveRegs
  .next (whenRuns policyRuns (fun s =>
      if 118 ≤ r.index || copyLive s r.slot r.copy then { s with curveRegs := { r with refused := true } }
  else
    let k := getCurve s r.slot
    let b := k.staging ++ le 4 v.toNat
    let s1 := setCurve r.slot { k with staging := b } { s with curveRegs := { r with index := r.index + 1 } }
    if r.index + 1 = 118 then setCopy r.slot r.copy (.loaded b) s1 else s1) s)

end Sys2Proof.Machine
end

