-- ==== Sys2Proof/Machine/KeyCmds.lean ====
section
/-! DEFINITION. The key store's commands (14 of spec/): generation, import, export, destruction, the key image, and the
requests for quorum approvals. -/
namespace Sys2Proof.Machine
open Sys2Proof (primBytes primOk)

/-! ## The body of KEY_GENERATE and KEY_IMPORT (R343, R347, R349, R351) -/

def kKind (c : AdminCmd) : Nat := byteAt c.pb 0
def kAlg (c : AdminCmd) : Nat := byteAt c.pb 1
def kCurve (c : AdminCmd) : Nat := byteAt c.pb 2
def kOwner (c : AdminCmd) : Nat := byteAt c.pb 3
def kLen (c : AdminCmd) : Nat := leAt c.pb 4 2
def kKbpk (c : AdminCmd) : Nat := leAt c.pb 8 4
def kPolicy (c : AdminCmd) : Bytes := slice c.pb 16 32

def isSignAlg (a : Nat) : Bool := a == 1 || a == 4 || a == 5 || (0x28 ≤ a && a ≤ 0x2A)
def isAgreeAlg (a : Nat) : Bool := a == 2 || a == 3
def isKemAlg (a : Nat) : Bool := 0x20 ≤ a && a ≤ 0x22
def isKeyAlg (a : Nat) : Bool := isSignAlg a || isAgreeAlg a || isKemAlg a || a == 0x10

/-- A kind and scheme may hold a usage bit (R349). -/
def usageFits (kind alg cs bit : Nat) : Bool :=
  let priv := kind == 0x10
  let either := kind == 0x10 || kind == 0x11
  match bit with
  | 0 => kind == 1
  | 1 => kind == 1
  | 2 => kind == 1
  | 3 => kind == 3
  | 4 => kind == 3
  | 5 => kind == 3
  | 6 => kind == 1 || kind == 2
  | 7 => kind == 1 || kind == 2
  | 8 => priv && isSignAlg alg
  | 9 => either && isSignAlg alg
  | 10 => priv && isAgreeAlg alg
  | 11 => priv && isKemAlg alg
  | 12 => either && isKemAlg alg
  | 13 => priv && alg == 0x10
  | 14 => either && alg == 0x10
  | 15 => kind == 0x11 && ((alg == 1 && cs == 1) || alg == 0x29)
  | 16 => kind == 1
  | 17 => kind == 1 || kind == 2 || kind == 3
  | _ => false

/-- Bits set in a number of `n` bits. -/
def popcount (n v : Nat) : Nat := ((List.range n).filter (nbit v)).length

/-- The policy block is as R347 and R349 ask. -/
def policyOk (kind alg cs : Nat) (p : Bytes) : Bool :=
  let m := byteAt p 7
  let roles := leAt p 8 2
  let act := byteAt p 10
  leAt p 0 4 < 2 ^ 18 && ((List.range 18).all fun b => !nbit (leAt p 0 4) b || usageFits kind alg cs b) &&
  byteAt p 4 < 128 && byteAt p 5 < 8 && byteAt p 6 < 8 && allZero (slice p 11 21) &&
  (if m = 0 then roles == 0 && act == 0
   else 2 ≤ m && m ≤ 16 && roles != 0 && 1 ≤ act && act ≤ 3 && m ≤ popcount 16 roles)

/-- Ln of the curve that the active bank names for a slot. -/
def bankLn (s : State) (cs : Nat) : Nat := copyLn cs (slotLive s cs)
def bankL (s : State) (cs : Nat) : Nat := copyL cs (slotLive s cs)
def bankCurve (s : State) (cs : Nat) : Bytes := (copyBody cs (slotLive s cs)).getD []

/-- SECRET_LEN agrees with KIND and ALG (R343, R351). -/
def lenFits (s : State) (kind alg cs n : Nat) : Bool :=
  if kind = 1 then n == 16 || n == 24 || n == 32
  else if kind = 2 then n == 24
  else if kind = 3 then 16 ≤ n && n ≤ 128
  else if kind = 0x11 then n == 0
  else if alg = 1 || alg = 2 then !(curveSel (activeBank s) cs).valid || n == bankLn s cs
  else if alg = 0x10 then n == 640 || n == 960 || n == 1280
  else n == secretLen alg 0

/-- The fields agree with KIND; `pub` and `sym` say which kinds the sub-function takes. -/
def keyFieldsOk (s : State) (c : AdminCmd) (kinds : List Nat) : Bool :=
  let k := kKind c
  kinds.contains k &&
  (if k ≤ 3 then kAlg c == 0 && kCurve c == 0
   else isKeyAlg (kAlg c) && kCurve c ≤ 63 && (kAlg c ≤ 2 || kCurve c == 0)) &&
  lenFits s k (kAlg c) (kCurve c) (kLen c)

/-- TARGET is an EMPTY slot, or asks for the lowest one. -/
def keyTargetOk (s : State) (t : Nat) : Bool :=
  t == allTarget || (decide (t < 65536) && (getKey s t).st == .empty)

/-- The slot that a create takes. -/
def createSlot (s : State) (t : Nat) : Option Nat :=
  if t = allTarget then (List.range 65536).find? fun i => (getKey s i).st == .empty else some t

/-- Pages of a record (R345). -/
def recPages (pub n : Nat) : Nat := (96 + pub + (pad8 n + 16) + 32 + 511) / 512

/-- The length of the public part that a new record keeps (R343). -/
def newPubLen (s : State) (c : AdminCmd) : Nat :=
  let a := kAlg c
  if kKind c = 0x11 then c.input.length
  else if kKind c ≠ 0x10 || isLatticeAlg a then 0
  else if a = 0x10 then 2 * kLen c / 5 + 4
  else pubLen a (bankL s (kCurve c))

/-- A LOAD of the curve slot runs (R317). -/
def loadRuns (s : State) (cs : Nat) : Bool :=
  s.engine.serving.any fun x => x.ready && dOpcode x.desc == 0x83 && aSubop x.desc == 0 && aTarget x.desc == cs

/-- A key command that names a curve slot waits for a LOAD of it, and then runs against the curve it holds (R317). -/
def afterLoad (c : AdminCmd) (f : State → State) (s : State) : State :=
  if 4 ≤ kKind c && kAlg c ≤ 2 && loadRuns s (kCurve c) then s else f s

/-- An import of a clear secret needs KEY_CLEAR (R352). -/
def clearDenied (s : State) (c : AdminCmd) : Bool :=
  dOpcode c.desc == 0x84 && aSubop c.desc == 1 && !nbit (effPerms (activeBank s) c.dom) 3

/-- What KEY_GENERATE and KEY_IMPORT refuse of their block and by R352, and when no slot is left (R108, R343). `secret`
says that a secret is created. -/
def createRefusal (s : State) (c : AdminCmd) (kinds : List Nat) (kbpk secret : Bool) : Option (Nat × Nat) :=
  let a := kAlg c
  if c.pb.length ≠ 48 || !keyTargetOk s (aTarget c.desc) || !domPresent s (kOwner c) || leAt c.pb 6 2 ≠ 0 ||
      leAt c.pb 12 4 ≠ 0 || (!kbpk && kKbpk c ≠ 0) || !keyFieldsOk s c kinds ||
      !policyOk (kKind c) a (kCurve c) (kPolicy c) then some (stBadParameter, 2)
  else if dOutLen c.desc < 20 then some (stBadParameter, 1)
  else if kOwner c ≠ c.dom && !ownerScope s c then some (stPolicyDenied, 0)
  else if (secret && restricted s) || clearDenied s c then some (stPolicyDenied, 0)
  else if isLatticeAlg a && 4 ≤ kKind c && !latticePresent s.part then some (stUnitAbsent, 0)
  else if 4 ≤ kKind c && a ≤ 2 && !(curveSel (activeBank s) (kCurve c)).valid then some (stBadParameter, 4)
  else if keyAllow s (kOwner c) ≤ keysHeld s (kOwner c) || (createSlot s (aTarget c.desc)).isNone ||
      !poolRoom s.flash (recPages (newPubLen s c) (kLen c)) then some (stQuota, 0)
  else none

/-- Finish with a refusal, DETAIL 1 naming the 20 bytes of R346. -/
def createRefuse (c : AdminCmd) (a : Nat × Nat) (s : State) : State :=
  if a = (stBadParameter, 1) then finishShort c 20 s else finishCmd c a.1 a.2 [] s

/-! ## The record (R345, R346, R348) -/

/-- FINGERPRINT. -/
def keyFp (kind : Nat) (secret pub : Bytes) : Bytes :=
  if kind = 1 then (aesCmac secret (zeros 16)).take 5 ++ zeros 11
  else if kind = 2 then (tdesEnc secret (zeros 8)).take 3 ++ zeros 13
  else if kind = 3 then (hmac 1 secret (zeros 16)).take 16
  else primBytes (.hash 1) 16 [pub]

/-- The key-store keys of a slot (R348): K_DEV, K_KEK and K_REC. -/
def kstKey (base label ctx : Bytes) : Bytes := kbkdf 0x11 32 base ([0x4B, 0x53, 0x54, 0x2D] ++ label) ctx

/-- The bytes of a record. -/
def recordBytes (s : State) (slot : Nat) (k : KeySlot) : Bytes :=
  let n := k.secret.length
  let ctx := le 2 slot ++ le 4 k.writeSeq
  let inner := primBytes .keyWrap (pad8 n + 8) [kstKey Config.deviceKey [0x44] (le 2 slot), k.secret]
  let wrapped := primBytes .keyWrap (pad8 n + 16) [kstKey s.backup.kek [0x4B] ctx, inner]
  let head := le 2 slot ++ le 1 k.kind ++ le 1 k.alg ++ le 1 k.curveSlot ++ le 1 k.owner ++ le 1 k.origin ++
    le 1 (recPages k.pub.length n) ++ le 2 n ++ le 2 k.pub.length ++ le 4 k.writeSeq ++ le 8 k.created ++ slice k.fp 0 16 ++
    zeros 24 ++ slice k.policy 0 32 ++ k.pub ++ wrapped
  head ++ hmac 1 (kstKey s.backup.kek [0x4D] ctx) head

/-- The public part a record keeps: none for the lattice schemes (R343). -/
def keptPub (kind alg : Nat) (pub : Bytes) : Bytes := if kind = 0x10 && isLatticeAlg alg then [] else pub

/-- The stored key of a command. `origin` as R345; `policy` as stored. -/
def newSlot (s : State) (c : AdminCmd) (origin : Nat) (secret pub policy : Bytes) : KeySlot :=
  let k := kKind c
  { st := .active, kind := k, alg := kAlg c, curveSlot := kCurve c, owner := kOwner c, origin := origin
    secret := secret, pub := keptPub k (kAlg c) pub, writeSeq := s.keys.writeSeq + 1
    created := (if s.backup.rtcValid then rtcStamp s else 0), fp := keyFp k secret pub, policy := policy
    kekEpoch := s.backup.kekEpoch }

/-- The image can take an entry: the stack is available, the source generates share B, and no LOCK holds (R360). -/
def imageCan (s : State) : Bool := rngOn s && dramRuns s && unitSt s .mooring == .on && !devLocked s

/-- The image entry of a slot is built: its secret as two shares, share B fresh from the DRBG (R350). While that cannot be,
the builder does it later. -/
def imageEntry (n : Nat) (s : State) : State :=
  let k := getKey s n
  let m := k.secret.length
  if imageCan s then useDrbg m (setKey n { k with imaged := true, img := splitBy k.secret (drbgBytes s m) } s)
  else if devLocked s then s
  else { s with keys := { s.keys with building := true } }

/-- The entry of a key store change (R492). -/
def logKey (c : AdminCmd) (slot kind sev old new : Nat) (s : State) : State :=
  logAdmin c 0x03 (dOpcode c.desc) sev (slot + shl kind 16) old new s

/-- A key store change runs, unless the logbook refuses it: KEYSTORE_FROZEN when it cannot record (R358). -/
def ifKeyLogged (c : AdminCmd) (f : State → State) (s : State) : State :=
  match logRefusal s with
  | none => f s
  | some 1 => finishCmd c stLogFull 1 [] (countRefused s)
  | some _ =>
    finishCmd c stKeystoreFrozen 0 [] (countRefused (noteFreeze s))

/-- The first steps of a creation (R359): the entry is staged, and the record is written. The command holds its result, slot
and fingerprint (R346), until it completes. -/
def storeKey (c : AdminCmd) (slot : Nat) (k : KeySlot) (s : State) : State :=
  let s1 := logKey c slot k.kind 2 0 (fp8 k.fp) s
  let s2 := appendUndo 1 slot (recPages k.pub.length k.secret.length) (recordBytes s slot k)
    (.key (getKey s slot) s.log.nextSeq) s1
  putCmd { c with staged := true, output := le 4 slot ++ slice k.fp 0 16 }
    (setKey slot k { s2 with keys := { s2.keys with writeSeq := k.writeSeq } })

/-- The last steps: once the record is complete, the image is updated and the command completes. -/
def createdKey (c : AdminCmd) (s : State) : State :=
  let slot := leAt c.output 0 4
  if keyPending s slot then s else finishCmd c stOK 0 c.output (imageEntry slot s)

/-- A creation: its checks and first steps `f`, or, where they are done, its last. -/
def creating (f : AdminCmd → State → State) (c : AdminCmd) (s : State) : State :=
  if c.staged then createdKey c s else f c s

/-! ## KEY_GENERATE (R353) -/

/-- RSA modulus bytes of a SECRET_LEN. -/
def rsaBytes (n : Nat) : Nat := 2 * n / 5

/-- DRBG bytes that a generation draws. -/
def genDraw (c : AdminCmd) : Nat :=
  if kKind c ≠ 0x10 then kLen c
  else if kAlg c ≤ 2 || kAlg c = 0x10 then 72 else kLen c

/-- The secret that a draw gives. -/
def genSecret (s : State) (c : AdminCmd) (r : Bytes) : Bytes :=
  if kKind c ≠ 0x10 then r
  else if kAlg c ≤ 2 then be (kLen c) (scalarOf (curveOf (bankCurve s (kCurve c))) r)
  else if kAlg c = 0x10 then primBytes (.secretOf 0x10) (kLen c) [r]
  else r

/-- The public part of a secret. -/
def genPub (s : State) (c : AdminCmd) (secret : Bytes) : Bytes :=
  if kKind c ≠ 0x10 then []
  else if kAlg c = 0x10 then primBytes (.publicOf 0x10) (rsaBytes (kLen c) + 4) [secret]
  else publicWith (kAlg c) (curveOf (bankCurve s (kCurve c))) (pubLen (kAlg c) (bankL s (kCurve c))) secret

/-- `agree` is false after three disagreements of the two computations. -/
def keyGenerate (agree : Bool) (c : AdminCmd) : State → State := afterLoad c fun s =>
  match createRefusal s c [1, 2, 3, 0x10] false true with
  | some a => createRefuse c a s
  | none =>
    if rngFaulted s then finishCmd c stNoEntropy 0 [] s
    else if drawWaits s then s
    else if !agree && kKind c = 0x10 then
      finishCmd c stPolicyDenied 0 [] (logFw { adminEntry s c.dom 0x03 0x86 3 (shl (kKind c) 16) 0 0 with
        status := stPolicyDenied } s)
    else ifKeyLogged c (fun t =>
      let n := genDraw c
      let secret := genSecret t c (drbgBytes t n)
      let t1 := useDrbg n t
      let slot := (createSlot t (aTarget c.desc)).getD 0
      storeKey c slot (newSlot t1 c 0 secret (genPub t c secret) (kPolicy c)) t1) s

/-- Log entries 87, 89: DEDUCED, DESIGN CHOICE. -/
def execKeyGenerate (d : Fin 256) (agree : Bool) (s : State) : Host.Outcome State Fault Refusal :=
  .next (onCmd d.val 0x86 0 (creating (keyGenerate agree)) s)

/-! ## KEY_IMPORT PUBLIC and CLEAR (R354) -/

/-- A public key passes the validation of R281. -/
def pubValid (s : State) (alg cs : Nat) (b : Bytes) : Bool :=
  if alg = 0x10 then
    let k := b.length - 4
    132 ≤ b.length && b.length ≤ 516 && unbe (b.take k) % 2 == 1 && byteAt b 0 != 0
  else b.length == pubLen alg (bankL s cs) && pubValidWith alg (curveOf (bankCurve s cs)) b

def importPublic (c : AdminCmd) : State → State := afterLoad c fun s =>
  match createRefusal s c [0x11] false false with
  | some a => createRefuse c a s
  | none =>
    if !pubValid s (kAlg c) (kCurve c) c.input then finishCmd c stBadParameter 3 [] s
    else ifKeyLogged c (fun t =>
      storeKey c ((createSlot t (aTarget c.desc)).getD 0) (newSlot t c 1 [] c.input (kPolicy c)) t) s

def execKeyImportPublic (d : Fin 256) (s : State) : Host.Outcome State Fault Refusal :=
  .next (onCmd d.val 0x84 0 (creating importPublic) s)

/-- An RSA private key's parts are consistent: n, e, p, q, dp, dq, qinv, for a modulus of 8 k bits. -/
def rsaParts (k : Nat) (b : Bytes) : Bool :=
  let h := k / 2
  let part (i : Nat) : Nat := unbe (slice b (k + 4 + h * i) h)
  let e := unbe (slice b k 4)
  b.length == k + 4 + 5 * h && nbit (byteAt b 0) 7 && part 0 * part 1 == unbe (b.take k) && 2 ≤ part 0 && 2 ≤ part 1 &&
  part 2 * e % (part 0 - 1) == 1 % (part 0 - 1) && part 3 * e % (part 1 - 1) == 1 % (part 1 - 1) &&
  part 4 * part 1 % part 0 == 1 % part 0

/-- The secret of a CLEAR import is valid. -/
def secretValid (s : State) (c : AdminCmd) : Bool :=
  let b := c.input
  if kKind c = 0x10 && kAlg c = 0x10 then rsaParts (rsaBytes (kLen c)) b
  else if kKind c = 0x10 && kAlg c ≤ 2 then
    b.length == kLen c && 1 ≤ unbe b && unbe b < unbe (slice (bankCurve s (kCurve c)) 400 72)
  else b.length == kLen c

/-- The secret that a record of a CLEAR import holds, and its public part. -/
def clearParts (s : State) (c : AdminCmd) : Bytes × Bytes :=
  if kKind c = 0x10 && kAlg c = 0x10 then
    (c.input.drop (rsaBytes (kLen c) + 4), c.input.take (rsaBytes (kLen c) + 4))
  else (c.input, genPub s c c.input)

def importClear (c : AdminCmd) : State → State := afterLoad c fun s =>
  match createRefusal s c [1, 2, 3, 0x10] false true with
  | some a => createRefuse c a s
  | none =>
    if !secretValid s c then finishCmd c stBadParameter 3 [] s
    else ifKeyLogged c (fun t =>
      let p := clearParts t c
      storeKey c ((createSlot t (aTarget c.desc)).getD 0) (newSlot t c 2 p.1 p.2 (kPolicy c)) t) s

def execKeyImportClear (d : Fin 256) (s : State) : Host.Outcome State Fault Refusal :=
  .next (onCmd d.val 0x84 1 (creating importClear) s)

/-! ## Key blocks (R354, R355) -/

/-- The value of an ASCII hex digit. -/
def hexVal (b : Nat) : Nat := if 48 ≤ b && b ≤ 57 then b - 48 else if 65 ≤ b && b ≤ 70 then b - 55 else 16

/-- The digit of a value below 16. -/
def hexDigit (v : Nat) : Nat := if v < 10 then 48 + v else 55 + v

/-- Upper-case hex digits of bytes. -/
def toHex (b : Bytes) : Bytes :=
  (b.map fun x => [BitVec.ofNat 8 (hexDigit (x.toNat / 16)), BitVec.ofNat 8 (hexDigit (x.toNat % 16))]).flatten

/-- The number of two hex digits at an offset. -/
def hex2 (b : Bytes) (off : Nat) : Nat := 16 * hexVal (byteAt b off) + hexVal (byteAt b (off + 1))

/-- The number of decimal digits at an offset. -/
def dec (b : Bytes) (off n : Nat) : Nat := (List.range n).foldl (fun v i => 10 * v + (byteAt b (off + i) - 48)) 0

/-- The content of the optional block with ID 0F, among `n` blocks from an offset. -/
def find0F (b : Bytes) : Nat → Nat → Option Bytes
  | 0, _ => none
  | n + 1, off =>
    let len := hex2 b (off + 2)
    if slice b off 2 == [0x30, 0x46] then some (slice b (off + 4) (len - 4)) else find0F b n (off + len)

/-- The usage bits that a header permits (R355): key usage, mode of use. -/
def headerUsage (usage : Bytes) (mode : Nat) : List Nat :=
  if usage == [0x50, 0x30] then
    (if mode = 0x42 then [6, 7] else if mode = 0x44 then [6] else if mode = 0x45 then [7] else [])
  else if usage == [0x4B, 0x30] then (if mode = 0x42 then [16] else [])
  else if usage == [0x44, 0x30] then
    0 :: (if mode = 0x42 then [1, 2] else if mode = 0x45 then [1] else if mode = 0x44 then [2] else [])
  else if usage == [0x4D, 0x37] then
    5 :: (if mode = 0x43 then [3, 4] else if mode = 0x47 then [3] else if mode = 0x56 then [4] else [])
  else []

/-- The policy of the command may be held by the block's key. -/
def blockPolicyOk (c : AdminCmd) (b : Bytes) : Bool :=
  match find0F b (dec b 12 2) 16 with
  | some p => p == toHex (kPolicy c)
  | none =>
    let ok := 17 :: headerUsage (slice b 5 2) (byteAt b 8)
    (List.range 18).all fun i => !nbit (leAt (kPolicy c) 0 4) i || ok.contains i

/-- The block is of version D and as long as it says, its algorithm is the kind's, its MAC verifies under the KBPK, and it
holds a key of SECRET_LEN. -/
def blockOk (c : AdminCmd) (kbpk b : Bytes) : Bool :=
  let algo := if kKind c = 1 then 0x41 else if kKind c = 2 then 0x54 else 0x48
  byteAt b 0 == 0x44 && dec b 1 4 == b.length && byteAt b 7 == algo &&
  primOk .keyBlockOk [kbpk, b] && leAt (primBytes .keyBlockUnwrap 2 [kbpk, b]) 0 2 == kLen c

/-- The KBPK is an ACTIVE key of `owner` with KBPK usage. -/
def kbpkOk (s : State) (ref owner : Nat) : Bool :=
  let k := getKey s (refSlot ref)
  keyActive s (refSlot ref) && k.owner == owner && usageBit k 16

/-- EXPORT_BLOCK is cleared for exportability N or S. -/
def storedPolicy (c : AdminCmd) (b : Bytes) : Bytes :=
  let p := kPolicy c
  if byteAt b 11 = 0x4E || byteAt b 11 = 0x53 then le 4 (clrBit (leAt p 0 4) 17) ++ p.drop 4 else p

def importBlock (c : AdminCmd) (s : State) : State :=
  match createRefusal s c [1, 2, 3] true true with
  | some a => createRefuse c a s
  | none =>
    let kbpk := (getKey s (refSlot (kKbpk c))).secret
    if !kbpkOk s (kKbpk c) c.dom then finishCmd c stPolicyDenied 0 [] s
    else if !blockOk c kbpk c.input then finishCmd c stBadParameter 3 [] s
    else if !blockPolicyOk c c.input then finishCmd c stPolicyDenied 0 [] s
    else ifKeyLogged c (fun t =>
      let secret := (primBytes .keyBlockUnwrap (2 + kLen c) [kbpk, c.input]).drop 2
      storeKey c ((createSlot t (aTarget c.desc)).getD 0) (newSlot t c 3 secret [] (storedPolicy c c.input)) t) s

/-- Log entry 90: PRESUMED. -/
def execKeyImportKeyBlock (d : Fin 256) (s : State) : Host.Outcome State Fault Refusal :=
  .next (onCmd d.val 0x84 2 (creating importBlock) s)

/-! ## KEY_EXPORT (R355) -/

/-- TARGET names a key that the issuer may reach (R102, R104, R344); a DAMAGED one only for KEY_DESTROY. -/
def keyTarget (s : State) (c : AdminCmd) (destroy : Bool) : Option (Nat × Nat) :=
  let t := aTarget c.desc
  let k := getKey s t
  if 65535 < t then some (stBadParameter, 2)
  else if k.st = .empty || keyPending s t || (k.st = .damaged && !destroy) then some (stStale, 0)
  else if k.owner ≠ c.dom && !ownerScope s c then some (stNotOwner, 0)
  else none

/-- The public part of a key (R343): regenerated for a lattice secret. -/
def publicPart (k : KeySlot) : Bytes :=
  if k.kind = 0x10 && isLatticeAlg k.alg then publicWith k.alg p256 (pubLen k.alg 0) k.secret else k.pub

def exportPublic (c : AdminCmd) (s : State) : State :=
  checked c (keyTarget s c false) (fun s =>
    let k := getKey s (aTarget c.desc)
    let b := publicPart k
    if k.kind ≠ 0x10 && k.kind ≠ 0x11 then finishCmd c stBadParameter 4 [] s
    else if dOutLen c.desc < b.length then finishShort c b.length s
    else finishCmd c stOK 0 b s) s

/-- Log entry 92: DEDUCED. -/
def execKeyExportPublic (d : Fin 256) (s : State) : Host.Outcome State Fault Refusal :=
  .next (onCmd d.val 0x85 0 exportPublic s)

/-- Key usage, algorithm and mode of use of the header, if the key's bits stay in one row of R355. -/
def exportHeader (k : KeySlot) : Option (Bytes × Nat × Nat) :=
  let u (b : Nat) : Bool := usageBit k b
  let pin := u 6 || u 7
  let data := u 0 || u 1 || u 2
  let pick (x y : Bool) (b one two : Nat) : Nat := if x && y then b else if x then one else if y then two else 0x4E
  if k.kind = 3 then some ([0x4D, 0x37], 0x48, pick (u 3) (u 4) 0x43 0x47 0x56)
  else if k.kind = 2 then some ([0x50, 0x30], 0x54, pick (u 6) (u 7) 0x42 0x44 0x45)
  else if k.kind ≠ 1 then none
  else if (pin && (data || u 16)) || (u 16 && data) then none
  else if pin then some ([0x50, 0x30], 0x41, pick (u 6) (u 7) 0x42 0x44 0x45)
  else if u 16 then some ([0x4B, 0x30], 0x41, 0x42)
  else some ([0x44, 0x30], 0x41, pick (u 1) (u 2) 0x42 0x45 0x44)

/-- Decimal digits of a number. -/
def decDigits (n v : Nat) : Bytes := ((List.range n).map fun i => BitVec.ofNat 8 (48 + v / 10 ^ (n - 1 - i) % 10))

/-- Length of a version D block of an n-byte key: header, block 0F with the padding block that brings the header to a
multiple of 16, the encrypted field and the MAC. -/
def blockLen (n : Nat) : Nat := 96 + 2 * ((2 + n + 15) / 16 * 16) + 32

/-- The exported block. -/
def exportBlock (k : KeySlot) (h : Bytes × Nat × Nat) (kbpk rand : Bytes) : Bytes :=
  let n := blockLen k.secret.length
  let head : Bytes := [0x44] ++ decDigits 4 n ++ h.1 ++ le 1 h.2.1 ++ le 1 h.2.2 ++ [0x30, 0x30, 0x4E, 0x30, 0x32, 0x30, 0x30] ++
    [0x30, 0x46, 0x34, 0x34] ++ toHex (slice k.policy 0 32) ++ [0x50, 0x42, 0x30, 0x43] ++ List.replicate 8 0x30
  head ++ primBytes .keyBlockWrap (n - 96) [kbpk, head, k.secret, rand]

/-- What KEY_EXPORT of a key block refuses, but for its approval (R351, R355, R357). -/
def exportRefusal (s : State) (c : AdminCmd) : Option (Nat × Nat) :=
  match keyTarget s c false with
  | some a => some a
  | none =>
    let k := getKey s (aTarget c.desc)
    let r := leAt c.pb 0 4
    let b := getKey s (refSlot r)
    if c.pb.length ≠ 8 || leAt c.pb 4 4 ≠ 0 then some (stBadParameter, 2)
    else if !usageBit k 17 || !kbpkOk s r k.owner || b.secret.length < k.secret.length || (exportHeader k).isNone then
      some (stPolicyDenied, 0)
    else if quorumExport k && !ownerScope s c then some (stPolicyDenied, 0)
    else none

def exportKey (c : AdminCmd) (s : State) : State :=
  checked c (exportRefusal s c) (fun s =>
    let k := getKey s (aTarget c.desc)
    let b := getKey s (refSlot (leAt c.pb 0 4))
    let n := blockLen k.secret.length
    if dOutLen c.desc < n then finishShort c n s
    else if quorumExport k && !approved s c then finishCmd c stPolicyDenied 0 [] s
    else if (logRefusal s).isSome then finishCmd c stPolicyDenied 0 [] (countRefused s)
    else if drawWaits s then s
    else
      let s1 := if quorumExport k then spendApproval s else s
      let s2 := useDrbg 16 (logKey c (aTarget c.desc) k.kind 3 (fp8 k.fp) (fp8 b.fp) s1)
      match exportHeader k with
      | none => s
      | some h => finishCmd c stOK 0 (exportBlock k h b.secret (drbgBytes s1 16)) s2) s

def execKeyExportKeyBlock (d : Fin 256) (s : State) : Host.Outcome State Fault Refusal :=
  .next (onCmd d.val 0x85 1 exportKey s)

/-! ## KEY_DESTROY and the image (R350, R356) -/

/-- What KEY_DESTROY refuses, but for its approval. -/
def destroyRefusal (s : State) (c : AdminCmd) : Option (Nat × Nat) :=
  match keyTarget s c true with
  | some a => some a
  | none =>
    let k := getKey s (aTarget c.desc)
    if k.st = .active && quorumDestroy k && !ownerScope s c then some (stPolicyDenied, 0) else none

/-- Steps 4 and 5 of R356: once the tombstone is programmed and the copies are zero, the image entry is scrubbed by
KEY_IMAGE_SCRUB, and the command completes. -/
def destroyedKey (c : AdminCmd) (s : State) : State :=
  let t := aTarget c.desc
  if recordWaits s 2 t || s.keys.scrubs.contains t then s else finishCmd c stOK 0 [] s

/-- KEY_DESTROY: the entry and the tombstone. -/
def keyDestroy (c : AdminCmd) (s : State) : State :=
  if c.staged then destroyedKey c s else
  checked c (destroyRefusal s c) (fun s =>
    let t := aTarget c.desc
    let k := getKey s t
    let quorum := k.st == .active && quorumDestroy k
    if quorum && !approved s c then finishCmd c stPolicyDenied 0 [] s
    else ifKeyLogged c (fun u =>
      putCmd { c with staged := true }
        (eraseKey t (logKey c t k.kind 3 (fp8 k.fp) 0 (if quorum then spendApproval u else u)))) s) s

def execKeyDestroy (d : Fin 256) (s : State) : Host.Outcome State Fault Refusal :=
  .next (onCmd d.val 0x87 0 keyDestroy s)

/-- An admitted operation holds the key of a slot (R16). -/
def keyInUse (s : State) (n : Nat) : Bool := s.ops.any fun o => (keyRefs o.desc).any fun r => refSlot r == n

/-- KEY_IMAGE_SCRUB (R356 step 4). -/
def execKeyImageScrub (n : Fin 65536) (s : State) : Host.Outcome State Fault Refusal :=
  .next (whenRuns kprRuns (fun s =>
    if !s.keys.scrubs.contains n.val || !dramRuns s || keyInUse s n.val || recordWaits s 2 n.val then s
    else { s with keys := { s.keys with scrubs := s.keys.scrubs.filter (· != n.val) } }) s)

/-- The slot imaged next (R350): the one an operation waits for, or the lowest. -/
def nextImage (s : State) : Option Nat :=
  let want (n : Nat) : Bool := keyActive s n && !(getKey s n).imaged
  match s.keys.next.find? want with
  | some n => some n
  | none => (s.keys.slots.find? fun e => want e.1).map Prod.fst

/-- KEY_IMAGE_BUILD (R350): one entry is built, or the build ends. -/
def execKeyImageBuild (s : State) : Host.Outcome State Fault Refusal :=
  .next (whenRuns kprRuns (fun s => if !s.keys.building || !imageCan s then s
  else match nextImage s with
    | none => { s with keys := { s.keys with building := false, next := [] } }
    | some n =>
      imageEntry n { s with keys := { s.keys with next := s.keys.next.filter (· != n) } }) s)

/-! ## Requests for approvals (R357, R527) -/

/-- A command with bit 7 set for which no approval is required. -/
def noApproval (c : AdminCmd) (s : State) : State := finishCmd c stBadParameter 2 [] s

/-- A key command asks for its quorum, with its entry (R492). -/
def askKey (c : AdminCmd) (a : Option (Nat × Nat)) (needs : Bool) (s : State) : State :=
  checked c a (fun s =>
    let k := getKey s (aTarget c.desc)
    if !needs then noApproval c s
    else if dOutLen c.desc < 32 then finishShort c 32 s
    else if (logRefusal s).isSome && dOpcode c.desc = 0x85 then finishCmd c stPolicyDenied 0 [] (countRefused s)
    else ifKeyLogged c (fun t =>
      openApproval c (quorumM k) (quorumRoles k) false (logKey c (aTarget c.desc) k.kind 2 0 0 t)) s) s

/-- A policy sub-function asks for an approval of the unlock set. -/
def askPolicy (c : AdminCmd) (a : Option (Nat × Nat)) (needs : Bool) (s : State) : State :=
  checked c a (fun s =>
    if !needs then noApproval c s else openApproval c s.owner.custody.unlockM 0 true s) s

/-- APPROVAL_REQUEST: every other check is applied, and nothing changes. -/
def approvalRequest (c : AdminCmd) (s : State) : State :=
  let k := getKey s (aTarget c.desc)
  let later := decide (s.lifecycle ≠ .factory)
  match dOpcode c.desc, aSubop c.desc with
  | 0x85, 0x81 => askKey c (exportRefusal s c) (quorumExport k) s
  | 0x87, 0x80 => askKey c (destroyRefusal s c) (k.st == .active && quorumDestroy k) s
  | 0x8F, 0x90 => askPolicy c (watchRefusal s c) (watchNeeds c) s
  | 0x8F, 0x91 => askPolicy c (watchRefusal s c) true s
  | 0x8F, 0xC1 => askPolicy c (custodyRefusal s c) later s
  | 0x8F, 0xC4 => askPolicy c (passwordRefusal s c) later s
  | _, _ => s

/-- Log entry 94: DEDUCED. -/
def execApprovalRequest (d : Fin 256) (s : State) : Host.Outcome State Fault Refusal :=
  .next (match servingOf s d.val with
    | none => s
    | some c => if kprRuns s && c.ready && 128 ≤ aSubop c.desc then approvalRequest c s else s)

end Sys2Proof.Machine
end

