-- ==== Sys2Proof/Machine/Crc.lean ====
section
/-! DEFINITION. The cyclic redundancy checks of Tabow frames, T=1 blocks, SMBus and the keeper's BCRC (17, 22, 23, 24 of
spec/). -/
namespace Sys2Proof.Machine

/-- One bit of a CRC that takes the lowest bit first. -/
def crcBit (poly c : Nat) : Nat := if c % 2 = 1 then (c / 2) ^^^ poly else c / 2

/-- `n` bits of a CRC that takes the lowest bit first. -/
def crcBits (poly : Nat) : Nat → Nat → Nat
  | 0, c => c
  | n + 1, c => crcBits poly n (crcBit poly c)

/-- One byte of a CRC that takes the lowest bit first. -/
def crcByte (poly c : Nat) (b : BitVec 8) : Nat := crcBits poly 8 (c ^^^ b.toNat)

/-- The 2 B CRC of ISO/IEC 13239, lowest byte first (R583, R558). -/
def crc16 (b : Bytes) : Bytes := le 2 (b.foldl (crcByte 0x8408) 0xFFFF ^^^ 0xFFFF)

/-- The CRC-32 of IEEE 802.3 (R367). -/
def crc32 (b : Bytes) : Nat := b.foldl (crcByte 0xEDB88320) 0xFFFFFFFF ^^^ 0xFFFFFFFF

/-- One bit of the CRC-8 of SMBus Packet Error Checking. -/
def pecBit (c : Nat) : Nat := if 128 ≤ c then (2 * c % 256) ^^^ 0x07 else 2 * c

def pecBits : Nat → Nat → Nat
  | 0, c => c
  | n + 1, c => pecBits n (pecBit c)

/-- The Packet Error Code of a run of bytes (R553). -/
def pec (b : Bytes) : BitVec 8 := BitVec.ofNat 8 (b.foldl (fun c x => pecBits 8 (c ^^^ x.toNat)) 0)

/-- The exclusive OR of bytes: the LRC of a T=1 block, PCK and TCK (R558, R560). -/
def xorAll (b : Bytes) : BitVec 8 := b.foldl (· ^^^ ·) 0

end Sys2Proof.Machine
end

