-- ==== Sys2Proof/Machine/Recorders.lean ====
section
/-! DEFINITION. The logbook's commands and background work, and the event recorders (20 of spec/). -/
namespace Sys2Proof.Machine
open Sys2Proof (primBytes primOk)

/-! ## LOG_READ (R501, R502) -/

/-- Retained and staged entries, in SEQ order. -/
def logAll (s : State) : List LogEntry := s.log.prog ++ s.log.staged

/-- The entry lies within the caller's scope (R104, R495). -/
def logScope (s : State) (d : Nat) (e : LogEntry) : Bool :=
  isOwner s d ||
  (decide (e.origin.source ≤ 1) && e.origin.port == domPort d && (domFn d == 0 || e.origin.fn == domFn d))

/-- Each entry's MAC follows the one before it; `before` is the MAC of the entry before the first. -/
def chainFrom (before : Bytes) : List LogEntry → Bool
  | [] => true
  | e :: r => e.mac == logMac e before && chainFrom e.mac r

/-- The chain over a run of the retained log is whole (R496). The MAC before the first retained entry is gone. -/
def chainOk (s : State) (lo hi : Nat) : Bool :=
  let l := (logAll s).filter fun e => decide (lo ≤ e.seq) && decide (e.seq ≤ hi)
  match l with
  | [] => true
  | e :: r =>
    let prev := (logAll s).find? fun x => x.seq + 1 == e.seq
    (match prev with
      | some p => e.mac == logMac e p.mac
      | none => e.seq != 0 || e.mac == logMac e []) && chainFrom e.mac r

/-- A break of the chain is recorded (R496). -/
def noteBreak (s : State) : State :=
  logExempt (hwEntry 0x07 4 3 0) { s with log := { s.log with chainBreak := true } }

/-- The header and the entries that LOG_READ returns. -/
def logOutput (s : State) (d : Nat) (from_ max_ minSev : Nat) : Bytes × Bool :=
  let first := logFirst s
  let cand := (logAll s).filter fun e => from_ ≤ e.seq
  let mine := cand.filter fun e => minSev ≤ e.sev && logScope s d e
  let out := mine.take max_
  let lastSeq := (out.getLast?.map LogEntry.seq).getD from_
  let whole := out.length == mine.length
  let seen := if whole then cand else cand.filter fun e => e.seq ≤ lastSeq
  let firstSeq := (out.head?.map LogEntry.seq).getD 0
  let ok := out.isEmpty || chainOk s firstSeq lastSeq
  let anchor := if out.isEmpty then [] else
    (((logAll s).find? fun e => e.seq + 1 == firstSeq).map LogEntry.mac).getD []
  let flags := b2n (decide (from_ < first)) + shl (b2n (out.length != seen.length)) 1 +
    shl (b2n !whole) 2 + shl (b2n !ok) 3
  (le 8 first ++ le 8 s.log.nextSeq ++ le 4 out.length ++ le 1 (b2n s.log.retain) ++ le 1 flags ++ zeros 2 ++
    le 8 s.log.ackNext ++ slice anchor 0 16 ++ (out.map logBytes).flatten, ok)

/-- Log entry 96: DESIGN CHOICE. -/
def logRead (c : AdminCmd) (s : State) : State :=
  let m := leAt c.pb 8 2
  if aTarget c.desc ≠ 0 || c.pb.length ≠ 16 || m = 0 || 4096 < m || 3 < byteAt c.pb 10 || leAt c.pb 11 5 ≠ 0 then
    finishCmd c stBadParameter 2 [] s
  else if dOutLen c.desc < 144 + 64 * m then finishShort c (144 + 64 * m) s
  else if drawWaits s then s
  else
    let r := logOutput s c.dom (leAt c.pb 0 8) m (byteAt c.pb 10)
    let sig := idSign s (primBytes (.hash 2) 48 [r.1]) (drbgBytes s 48)
    finishCmd c stOK 0 (r.1 ++ sig) (useDrbg 48 (if r.2 then s else noteBreak s))

def execLogRead (d : Fin 256) (s : State) : Host.Outcome State Fault Refusal :=
  .next (onCmd d.val 0x88 0 logRead s)

/-! ## LOG_EXPORT_ACK, flushes, and the background check (R496, R497, R499, R503) -/

/-- First SEQ of each page programmed or on its way. -/
def logPages (f : Flash) : List Nat :=
  (f.pages.filterMap fun e => match e.2 with | some p => if p.kind = 3 then some p.id else none | none => none) ++
  (f.jobs.filter fun j => j.kind == 3).map PoolJob.id

/-- In RETAIN mode, pages wholly acknowledged are dead. -/
def dropAcked (s : State) : State :=
  if !s.log.retain then s
  else
    let cut := ((logPages s.flash).filter fun i => i ≤ s.log.ackNext).foldl max 0
    { s with log := { s.log with prog := s.log.prog.filter fun e => cut ≤ e.seq } }

def logAck (c : AdminCmd) (s : State) : State :=
  let u := leAt c.pb 0 8
  if aTarget c.desc ≠ 0 || c.pb.length ≠ 8 then finishCmd c stBadParameter 2 [] s
  else if s.log.nextSeq ≤ u then finishCmd c stBadParameter 3 [] s
  else
    let s1 := logAdmin c 0x07 1 2 u s.log.ackNext (max s.log.ackNext (u + 1)) s
    finishCmd c stOK 0 [] (dropAcked { s1 with log := { s1.log with ackNext := max s1.log.ackNext (u + 1) } })

/-- Log entry 106: DEDUCED. -/
def execLogExportAck (d : Fin 256) (s : State) : Host.Outcome State Fault Refusal :=
  .next (onCmd d.val 0x89 0 logAck s)

/-- LOG_PARTIAL_FLUSH (R497): the oldest staged entry has been staged for 1,024 ticks. -/
def execLogPartialFlush (s : State) : Host.Outcome State Fault Refusal :=
  .next (whenRuns kprRuns (fun s => match s.log.staged with
    | [] => s
    | e :: _ => if e.stagedAt + 1024 ≤ s.tick && s.log.staged.length < 8 then programPage 8 s else s) s)

/-- LOG_CHAIN_CHECK (R496): the whole retained log. -/
def execLogChainCheck (s : State) : Host.Outcome State Fault Refusal :=
  .next (whenRuns kprRuns (fun s => if chainOk s 0 s.log.nextSeq then s else noteBreak s) s)

/-! ## Metrics (R505) -/

/-- The bin of a sample: latency in ns, droop in mV, temperature in °C, depths and retries. -/
def binOf (metric : Nat) (v : Int) : Nat :=
  let below (k : Nat) : Int := if metric = 1 then 10 * 2 ^ k else 2 ^ k
  if metric = 3 then
    if v < -40 then 0 else min 15 ((v + 40) / 10).toNat
  else ((List.range 15).find? fun k => decide (v < below k)).getD 15

/-- One sample more. -/
def addSample (metric : Nat) (h : Hist) (v : Int) : Hist :=
  let b := binOf metric v
  { bins := h.bins.set b (satAdd 65535 (h.bins.getD b 0) 1), any := true
    min := if h.any then min h.min v else v, max := if h.any then max h.max v else v }

/-- Two histograms merged with saturation (R506). -/
def mergeHist (a b : Hist) : Hist :=
  if !b.any then a
  else { bins := List.zipWith (satAdd 65535) a.bins b.bins, any := true
         min := if a.any then min a.min b.min else b.min, max := if a.any then max a.max b.max else b.max }

/-- Four bytes of a value, in two's complement where it is negative. (Log entry 219: DEDUCED.) -/
def le32 (v : Int) : Bytes := le 4 (v % 4294967296).toNat

/-- DATA of a HIST entry. MIN and MAX of an interval without a sample are not stated. (Log entry 221: DESIGN CHOICE.) -/
def histBytes (s : State) (h : Hist) : Bytes :=
  (h.bins.map (le 2)).flatten ++ (if h.any then le32 h.min ++ le32 h.max else freeBytes s 8)

/-- A free value used up where a histogram holds no sample. -/
def histFree (h : Hist) (s : State) : State := if h.any then s else useFree s

/-- The metrics a tile carries. -/
def tileMetrics (cluster tile : Nat) : List Nat :=
  (if cluster = 3 then [1] else []) ++ [2, 3] ++ (if cluster = 1 && tile = 1 then [4] else []) ++
  (if cluster = 0 || (cluster = 2 && tile = 1) || (cluster = 6 && tile = 0) then [5] else [])

/-! ## RECORDER_INTERVAL (R505, R506, R508) -/

/-- Samples join a recorder's histogram; a new highest value is an EXTREME entry. -/
def takeSamples (cluster tile : Nat) (x : Nat × List Int) (s : State) : State :=
  let k := recKey cluster tile
  let r := getRec s k
  let h := x.2.foldl (addSample x.1) (mget {} r.hists x.1)
  let s1 := setRec k { r with hists := mset {} r.hists x.1 h } s
  match x.2 with
  | [] => s1
  | v :: l =>
    let top := l.foldl max v
    let passes := match mget none r.extremes x.1 with | some e => decide (e < top) | none => true
    if !passes then s1
    else
      let s2 := setRec k { getRec s1 k with extremes := mset none (getRec s1 k).extremes x.1 (some top) } s1
      if recMode s cluster tile then s2
      else offerTo k 3 0 x.1 (placeTile (clusterDie cluster) cluster tile 4) (le32 top) s2

/-- One metric's interval closes: an entry of the tile's recorder and one of the cluster's, and empty bins. -/
def closeMetric (cluster tile : Nat) (s : State) (metric : Nat) : State :=
  let k := recKey cluster tile
  let h := mget {} (getRec s k).hists metric
  let p := placeTile (clusterDie cluster) cluster tile 4
  let s1 := setRec k { getRec s k with hists := mset {} (getRec s k).hists metric {} } s
  let s2 := offerTo k 2 0 metric p (histBytes s h) (histFree h s1)
  let kc := recKey cluster 5
  let rc := getRec s2 kc
  setRec kc { rc with hists := mset {} rc.hists metric (mergeHist (mget {} rc.hists metric) h) } s2

/-- The cluster's merged entry of each metric. -/
def closeCluster (cluster : Nat) (s : State) (metric : Nat) : State :=
  let k := recKey cluster 5
  let h := mget {} (getRec s k).hists metric
  if !h.any then s
  else offerTo k 2 0 metric (placeTile (clusterDie cluster) cluster 15 5) (histBytes s h)
    (setRec k { getRec s k with hists := mset {} (getRec s k).hists metric {} } s)

/-- RECORDER_INTERVAL: what each tile of a cluster measured since the last interval, by tile and metric; in SERVICE mode
the tile's interval closes. -/
def execRecorderInterval (cluster : Fin 10) (m : List (Fin 5 × Fin 6 × List Int)) (s : State) :
    Host.Outcome State Fault Refusal :=
  let c := cluster.val
  let tiles := (List.range 5).filter fun t => tilePresent s.part c t
  let s1 := m.foldl (fun u x => if tiles.contains x.1.val && (tileMetrics c x.1.val).contains x.2.1.val then
    takeSamples c x.1.val (x.2.1.val, x.2.2) u else u) s
  let s2 := tiles.foldl (fun u t => if recMode u c t then u else (tileMetrics c t).foldl (closeMetric c t) u) s1
  .next (whenRuns kprRuns (fun _ => [1, 2, 3, 4, 5].foldl (closeCluster c) s2) s)

/-! ## Reading a recorder (R507 to R509, R515 to R517) -/

/-- The 64 bytes of an entry (R504). -/
def recBytes (e : RecEntry) : Bytes :=
  le 4 e.rseq ++ le 1 e.kind ++ le 1 (e.sev + shl (b2n e.cont) 7) ++ le 2 e.code ++
  le 8 (e.tick % 2 ^ 40 + shl e.cycle 40) ++ le 8 e.place ++ slice e.data 0 40

/-- Cluster and tile of an EVR_READ body. -/
def evCluster (c : AdminCmd) : Nat := byteAt c.pb 0
def evTile (c : AdminCmd) : Nat := byteAt c.pb 1
def evKey (c : AdminCmd) : Nat := recKey (evCluster c) (if evTile c = 15 then 5 else evTile c)

/-- The body of R509. -/
def evBodyOk (s : State) (c : AdminCmd) : Bool :=
  let m := leAt c.pb 2 2
  aTarget c.desc == 0 && c.pb.length == 8 && evCluster c ≤ 9 &&
  (evTile c == 15 || tilePresent s.part (evCluster c) (evTile c)) && 1 ≤ m && m ≤ 256 && leAt c.pb 4 4 == 0

/-- EVR_READ (R508, R509): the recorder is frozen, read and released in one step; while another one is frozen the selection
would be discarded, and the read waits. (Log entry 220: DEDUCED.) -/
def evrRead (c : AdminCmd) (s : State) : State :=
  let m := leAt c.pb 2 2
  if !evBodyOk s c then finishCmd c stBadParameter 2 [] s
  else if dOutLen c.desc < 16 + 64 * m then finishShort c (16 + 64 * m) s
  else if s.recorders.freeze && !recFrozen s (evKey c) then s
  else
    let r := getRec s (evKey c)
    let l := (r.slots.map Prod.snd).take m
    let head := le 2 l.length ++ le 2 r.drop ++ le 2 r.frozenCnt ++ le 1 (b2n (recMode s (evCluster c) (evTile c))) ++ zeros 9
    finishCmd c stOK 0 (head ++ (l.map recBytes).flatten)
      { s with recorders := { s.recorders with selCluster := evCluster c, selTile := evTile c, freeze := false } }

def execEvrRead (d : Fin 256) (s : State) : Host.Outcome State Fault Refusal :=
  .next (onCmd d.val 0x8A 0 evrRead s)

/-- EVR_CLEAR (R507, R511): the clear releases a freeze of the recorder. -/
def evrClear (c : AdminCmd) (s : State) : State :=
  if !evBodyOk s c then finishCmd c stBadParameter 2 [] s
  else if (logRefusal s).isSome then finishCmd c stPolicyDenied 0 [] (countRefused s)
  else
    let s1 := logAdmin c 0x07 3 3 (evCluster c + shl (evTile c) 4) 0 0 s
    let frozen := recFrozen s1 (evKey c)
    let s2 := setRec (evKey c) {} s1
    finishCmd c stOK 0 [] { s2 with recorders := { s2.recorders with freeze := s2.recorders.freeze && !frozen } }

def execEvrClear (d : Fin 256) (s : State) : Host.Outcome State Fault Refusal :=
  .next (onCmd d.val 0x8A 1 evrClear s)

/-- EVR_SEL_WRITE (R508, R515). -/
def execEvrSelWrite (v : BitVec 32) (s : State) : Host.Outcome State Fault Refusal :=
  let e := s.recorders
  .next (whenRuns kprRuns (fun s => if e.freeze then s
  else { s with recorders := { e with selCluster := fld v.toNat 3 0, selTile := fld v.toNat 7 4 } }) s)

/-- EVR_FREEZE_WRITE (R508, R515). -/
def execEvrFreezeWrite (v : BitVec 32) (s : State) : Host.Outcome State Fault Refusal :=
  .next (whenRuns kprRuns (fun s =>
    let e := s.recorders
    { s with recorders := { e with freeze := nbit v.toNat 0, timeout := e.timeout && !nbit v.toNat 1 } }) s)

/-- EVR_FREEZE_TIMEOUT (R508): a freeze held for 100 ms. -/
def execEvrFreezeTimeout (s : State) : Host.Outcome State Fault Refusal :=
  let e := s.recorders
  .next (whenRuns kprRuns (fun s =>
      if e.freeze then { s with recorders := { e with freeze := false, timeout := true } } else s) s)

/-- Word `w` of EVR_WINDOW (R517). -/
def evrWindow (s : State) (w : Nat) : Nat :=
  match (getRec s (selKey s)).slots.find? fun e => e.1 == s.recorders.cursor with
  | none => 0
  | some e => leAt (recBytes e.2) (4 * w) 4

/-- What a read of EVR_WINDOW_w changes (R515). -/
def evrAdvance (w : Nat) (s : State) : State :=
  let e := s.recorders
  if w = 15 && e.auto then { s with recorders := { e with cursor := (e.cursor + 1) % 256 } } else s

/-- EVR_WINDOW_READ (R515, R517). -/
def execEvrWindowRead (w : Fin 16) (s : State) : Host.Outcome State Fault Refusal :=
  .next (whenRuns kprRuns (fun s => evrAdvance w.val (emit (.readReply (evrWindow s w.val)) s)) s)

end Sys2Proof.Machine
end

