-- ==== Sys2Proof/Machine/Flash.lean ====
section
/-! DEFINITION. The flash array (15 of spec/): direct commands, reads, the rotation engine, and FLC_XO_LOCK. -/
namespace Sys2Proof.Machine

def modFlash (f : Flash → Flash) (s : State) : State := { s with flash := f s.flash }

/-! ## Pages of the firmware partition (R365, R366) -/

/-- A page of the firmware partition: its 512 bytes, or none where it is erased. -/
def fwPage (f : Flash) (n : Nat) : Option Bytes :=
  match mget .shipped f.fw n with
  | .shipped => if (Config.shippedPage n).isEmpty then none else some (slice (Config.shippedPage n) 0 512)
  | .erased => none
  | .data b => some b

/-- The 512 bytes read from a page of the firmware partition: ones where it is erased. -/
def fwBytes (f : Flash) (n : Nat) : Bytes := (fwPage f n).getD (List.replicate 512 0xFF)

def setFw (n : Nat) (p : FwPage) (f : Flash) : Flash := { f with fw := mset .shipped f.fw n p }

/-- Every page of a firmware sector erased, and its erase counted. -/
def eraseFw (sec : Nat) (f : Flash) : Flash :=
  { (List.range 32).foldl (fun g i => setFw (32 * sec + i) .erased g) f with
    erases := mmod 0 f.erases sec (· + 1) }

/-- 512 bytes of no stated value. -/
def freePage (s : State) : Bytes := le 512 (freeNow s)

/-! ## Execute-only regions (R370, R392) -/

/-- A firmware sector lies in an execute-only region. -/
def xoSector (f : Flash) (sec : Nat) : Bool :=
  (List.range 4).any fun i =>
    let w := mget 0 f.xo i
    nbit w 31 && decide (fld w 10 0 ≤ sec) && decide (sec ≤ fld w 26 16)

/-- A write of FLC_XO_n: discarded while LOCK is 1. -/
def setXo (n v : Nat) (f : Flash) : Flash :=
  if f.xoLock then f
  else { f with xo := mset 0 f.xo n (fld v 10 0 + shl (fld v 26 16) 16 + shl (fld v 31 31) 31) }

/-! ## The spare area (R367) -/

/-- The 32 bytes of a page's spare area: KIND, PAGE, PAGES, STREAM_SEQ, the CRC of the data and, on a sector's page 0,
ERASES; ones where the page is erased. A pool record whose layout the spec leaves open has no stated CRC. -/
def spareBytes (s : State) (n : Nat) : Bytes :=
  let f := s.flash
  let area (kind page pages seq crc : Nat) : Bytes :=
    le 1 kind ++ le 1 page ++ le 1 pages ++ zeros 1 ++ le 8 seq ++ le 4 crc ++
    le 4 (if n % 32 = 0 then mget 0 f.erases (n / 32) else 0) ++ zeros 12
  if n < 65536 then
    match fwPage f n with
    | none => List.replicate 32 0xFF
    | some b => area 0 0 1 0 (crc32 b)
  else
    match mget none f.pages n with
    | none => List.replicate 32 0xFF
    | some p => area p.kind p.page p.pages p.seq (if p.data.isEmpty then freeNow s % 2 ^ 32 else crc32 (slice p.data 0 512))

/-! ## Suspension (R375) -/

/-- The plane of a sector. -/
def plane (sec : Nat) : Nat := sec / 4096

/-- A direct erase runs or is suspended. -/
def directErase (f : Flash) : Option Nat :=
  match f.running with
  | some (2, a) => some (a / 16384)
  | _ => none

/-- A direct erase is suspended, by command or automatically (R388). -/
def suspended (f : Flash) : Bool := (f.held || f.directSusp) && (directErase f).isSome

/-- A read or program needs a plane: an erase there is suspended. -/
def needPlane (p : Nat) (f : Flash) : Flash :=
  { f with
    directSusp := f.directSusp || (match directErase f with | some x => plane x == p | none => false)
    poolSusp := f.poolSusp || (match f.reclaim with | some x => plane x == p | none => false) }

/-- ERASE_AUTO_RESUME. -/
def execEraseAutoResume (s : State) : Host.Outcome State Fault Refusal :=
  .next (whenRuns kprRuns (modFlash fun f => { f with directSusp := false, poolSusp := false }) s)

/-! ## The command sequence (R372 to R374) -/

/-- The sequence is discarded. -/
def seqDiscard (f : Flash) : Flash := { f with seq := 0, words := [], seqErr := true }

/-- A write of another FLC_ register discards a sequence under way. (Log entry 100: DEDUCED.) -/
def seqDisturb (f : Flash) : Flash := if f.seq = 0 then f else seqDiscard f

/-- A write of FLC_UNLOCK. -/
def seqUnlock (v : Nat) (f : Flash) : Flash :=
  if f.seq = 0 && v = 0xA5C30F96 then { f with seq := 1 }
  else if f.seq = 1 && v = 0x5A3CF069 then { f with seq := 2 }
  else seqDiscard f

/-- A write of FLC_CMD. -/
def seqCmd (v : Nat) (f : Flash) : Flash :=
  let c := fld v 7 0
  if f.seq = 2 && 1 ≤ c && c ≤ 6 then { f with seq := 3, code := c } else seqDiscard f

/-- A write of FLC_ADDR. -/
def seqAddr (v : Nat) (f : Flash) : Flash :=
  let a := fld v 26 0
  if f.seq = 3 && (a = 0 || (f.code ≠ 3 && f.code ≠ 4)) then { f with seq := 4, addr := a, words := [] }
  else seqDiscard f

/-- A value that the command's FLC_DATA write may hold. -/
def dataFits (code v : Nat) : Bool :=
  match code with
  | 1 => true
  | 5 => decide (1 ≤ v) && decide (v ≤ 4)
  | _ => v == 0

/-- The write would be the command's last. -/
def lastData (f : Flash) : Bool := f.seq == 4 && f.code != 1 || f.seq == 5 && f.words.length == 127

/-- A started command is refused (R374). -/
def cmdBad (s : State) : Bool :=
  let f := s.flash
  let sec := f.addr / 16384
  let isPage := f.code == 1 || f.code == 5
  let isSec := f.code == 2 || f.code == 6
  (isPage && f.addr % 512 != 0) || (isSec && f.addr % 16384 != 0) ||
  ((f.code == 1 || f.code == 2) && 2048 ≤ sec) ||
  (f.code == 1 && (fwPage f (f.addr / 512)).isSome) ||
  (f.code == 5 && sec < 2048 && xoSector f sec) ||
  ((f.code == 1 || f.code == 2) && flashStage s == 5) ||
  (f.code != 3 && f.code != 4 && f.running.isSome) || (f.code == 4 && !suspended f)

/-- The command starts on its last FLC_DATA write. -/
def startCmd (s : State) : State :=
  let f := s.flash
  let f0 := { f with seq := 0 }
  if cmdBad s then { s with flash := { f0 with done := true, addrErr := true } }
  else match f.code with
    | 3 => { s with flash := { f0 with done := true, held := (directErase f).isSome || f.held } }
    | 4 => { s with flash := { f0 with done := true, held := false } }
    | 2 => appendJournal (f.addr / 16384) 1 [] { s with flash := { f0 with running := some (2, f.addr) } }
    | c => { s with flash := { needPlane (plane (f.addr / 16384)) f0 with
        running := some (c, f.addr)
        progData := if c = 1 then (f.words.map fun w => le 4 w.toNat).flatten else f.progData } }

/-- A write of FLC_DATA. -/
def seqData (v : BitVec 32) (s : State) : State :=
  let f := s.flash
  if !((f.seq = 4 || f.seq = 5) && dataFits f.code v.toNat) then modFlash seqDiscard s
  else
    let last := lastData f
    let s1 := { s with flash := { f with seq := 5, words := f.words ++ [v] } }
    if last then startCmd s1 else s1

def execFlcUnlockWrite (v : BitVec 32) (s : State) : Host.Outcome State Fault Refusal :=
  .next (whenRuns kprRuns (modFlash (seqUnlock v.toNat)) s)

def execFlcCmdWrite (v : BitVec 32) (s : State) : Host.Outcome State Fault Refusal :=
  .next (whenRuns kprRuns (modFlash (seqCmd v.toNat)) s)

def execFlcAddrWrite (v : BitVec 32) (s : State) : Host.Outcome State Fault Refusal :=
  .next (whenRuns kprRuns (modFlash (seqAddr v.toNat)) s)

/-- Log entry 101: DEDUCED. -/
def execFlcDataWrite (v : BitVec 32) (s : State) : Host.Outcome State Fault Refusal :=
  .next (whenRuns kprRuns (seqData v) s)

/-- A write of FLC_DATA that starts the command with a code; any other write of it takes effect as FLC_DATA_WRITE. -/
def dataFor (code : Nat) (v : BitVec 32) (s : State) : State :=
  if kprRuns s && s.flash.code = code && lastData s.flash then seqData v s else s

def execProgramPage (v : BitVec 32) (s : State) : Host.Outcome State Fault Refusal := .next (dataFor 1 v s)
def execEraseSector (v : BitVec 32) (s : State) : Host.Outcome State Fault Refusal := .next (dataFor 2 v s)
def execEraseSuspend (v : BitVec 32) (s : State) : Host.Outcome State Fault Refusal := .next (dataFor 3 v s)
/-- Log entry 103: DEDUCED. -/
def execEraseResume (v : BitVec 32) (s : State) : Host.Outcome State Fault Refusal := .next (dataFor 4 v s)
def execReadMargin (v : BitVec 32) (s : State) : Host.Outcome State Fault Refusal := .next (dataFor 5 v s)
def execBlankCheck (v : BitVec 32) (s : State) : Host.Outcome State Fault Refusal := .next (dataFor 6 v s)

/-- FLASH_SEQUENCE_TIMEOUT (R372): 1 ms after step 1. -/
def execFlashSequenceTimeout (s : State) : Host.Outcome State Fault Refusal := 
  .next (whenRuns kprRuns (modFlash seqDisturb) s)

/-- A sector is erased: no programmed page stands in it. -/
def sectorBlank (f : Flash) (sec : Nat) : Bool :=
  if sec < 2048 then (List.range 32).all fun i => (fwPage f (32 * sec + i)).isNone
  else f.pages.all fun e => e.1 / 32 != sec

/-- FLASH_COMMAND_DONE (R373, R374): `ok` is the verify's result, `errs` the bits that a margin read differed in. The page
of a failed program, and the pages of a failed erase, hold no stated value. (Log entry 102: DESIGN CHOICE.) -/
def execFlashCommandDone (ok : Bool) (errs : Nat) (s : State) : Host.Outcome State Fault Refusal :=
  let f := s.flash
  .next (whenRuns kprRuns (fun s => match f.running with
    | none => s
    | some (c, a) =>
      if !powered s || ((f.held || f.directSusp) && c = 2) then s
      else
        let f0 := { f with running := none, done := true }
        let sec := a / 16384
        match c, ok with
        | 1, true => { s with flash := setFw (a / 512) (.data (slice f.progData 0 512)) f0 }
        | 1, false => raise 4 (useFree { s with flash := { setFw (a / 512) (.data (freePage s)) f0 with progFail := true } })
        | 2, true => { s with flash := eraseFw sec f0 }
        | 2, false =>
          let g := (List.range 32).foldl (fun g i => setFw (32 * sec + i) (.data (freePage s)) g) f0
          raise 4 (useFree { s with flash := { g with eraseFail := true, erases := mmod 0 g.erases sec (· + 1) } })
        | 5, _ => { s with flash := { f0 with marginErrs := min 65535 errs } }
        | _, _ => { s with flash := { f0 with blank := sectorBlank f sec } }) s)

/-! ## Retirement (R384, R385) -/

/-- The bytes of a record, from the pages of one copy. (Log entry 99: DESIGN CHOICE.) -/
def recordOf (f : Flash) (p : PoolPage) : Bytes :=
  ((List.range p.pages).map fun i =>
    ((f.pages.find? fun e => match e.2 with
      | some q => q.kind == p.kind && q.id == p.id && q.inst == p.inst && q.page == i
      | none => false).bind fun e => e.2.map PoolPage.data).getD []).flatten

/-- A live record is copied to the frontier; a logbook page that the logbook has given up is dead (R377), and in stage 5
nothing more is programmed (R385). (Log entry 218: DEDUCED.) -/
def copyRec (p : PoolPage) (from_ : Nat) (s : State) : State :=
  if (p.kind = 3 && p.id < logFirst s) || flashStage s = 5 then s
  else { s with flash := { s.flash with jobs := s.flash.jobs ++
    [{ kind := p.kind, id := p.id, pages := p.pages, data := recordOf s.flash p, fromSec := some from_ }] } }

/-- The live records with a page in a sector, once each, by their first page there. -/
def liveIn (f : Flash) (sec : Nat) : List PoolPage :=
  let l := f.pages.filterMap fun e => if e.1 / 32 = sec then e.2 else none
  (l.filter fun p => p.live).foldl (fun m p =>
    if m.any fun q => q.kind == p.kind && q.id == p.id && q.inst == p.inst then m else m ++ [p]) []

/-- Relocate every live record of a sector. -/
def relocate (sec : Nat) (s : State) : State := (liveIn s.flash sec).foldl (fun t p => copyRec p sec t) s

/-- The stage's entry effects (R385, R498). -/
def enterStage (before : Nat) (s : State) : State :=
  let now := flashStage s
  if now = before then s
  else if now = 4 then raise 13 (raise 4 s)
  else if now = 5 then noteFreeze (noteRecording (recordFault 6 0 3 5 (raise 4 s)))
  else s

/-- A pool sector is retired. -/
def retire (sec : Nat) (s : State) : State :=
  let before := flashStage s
  if !goodSector s.flash sec then s
  else
    let s1 := relocate sec s
    let f := s1.flash
    let w := (f.worn ++ [sec]).mergeSort (· ≤ ·)
    let f1 := { f with worn := w }
    let f2 := if f.frontSec = sec then { f1 with frontSec := nextGood f1 sec, frontPage := 0 } else f1
    let f3 := if f.tail = sec then { f2 with tail := nextGood f1 sec } else f2
    let s2 := appendJournal 65535 0 [sec] { s1 with flash := f3 }
    enterStage before (recordPlace 3 6 0 2 0 (flashPlace 3 sec 0) (raise 4 s2))

/-! ## Programming at the frontier (R376, R377, R381) -/

/-- A record may take the frontier's next page now. -/
def mayProgram (s : State) (j : PoolJob) : Bool :=
  let f := s.flash
  let need := decide (f.frontPage = 31)
  let spare := j.kind == 7 || j.fromSec.isSome || (j.kind == 3 && s.power.phase == .stopping)
  !need || decide (2 < freeSectors f) || (spare && decide (0 < freeSectors f))

/-- The frontier advances one page; every 128 sectors a checkpoint is due. -/
def advanceFront (f : Flash) : Flash :=
  if f.frontPage < 31 then { f with frontPage := f.frontPage + 1 }
  else
    let g := { f with frontSec := nextGood f f.frontSec, frontPage := 0, sinceCk := f.sinceCk + 1 }
    if 128 ≤ g.sinceCk then { g with sinceCk := 0, jobs := g.jobs ++ [{ kind := 8, id := 0, pages := 4, data := [] }] } else g

/-- A record's last page is programmed: its copy is the live one, and what it supersedes is dead. A tombstone has every copy
of the slot's record programmed to zero (R356 step 3). -/
def finishRec (kind id inst : Nat) (f : Flash) : Flash :=
  let same (p : PoolPage) : Bool := p.id == id && (p.kind == kind || (kind == 1 && p.kind == 2) || (kind == 2 && p.kind == 1))
  { f with pages := f.pages.map fun e => (e.1, e.2.map fun p =>
      if p.kind = kind && p.id = id && p.inst = inst then { p with live := kind != 7 && kind != 8 }
      else if same p then { p with live := false, data := if kind = 2 && p.kind = 1 then zeros 512 else p.data } else p) }

/-- Program the next page of a record at the frontier. -/
def programJob (j : PoolJob) (rest : List PoolJob) (f : Flash) : Flash :=
  let inst := if j.done = 0 then f.streamSeq else j.inst
  let n := 32 * f.frontSec + f.frontPage
  let p : PoolPage := {
    kind := j.kind, id := j.id, page := j.done, pages := j.pages, seq := f.streamSeq, inst := inst, live := false
    data := slice j.data (512 * j.done) 512 }
  let j1 := { j with done := j.done + 1, inst := inst }
  let f1 := { f with pages := mset none f.pages n (some p), streamSeq := f.streamSeq + 1 }
  let f2 := if j1.done < j.pages then { f1 with jobs := j1 :: rest } else finishRec j.kind j.id inst { f1 with jobs := rest }
  advanceFront f2

/-- POOL_PAGE_PROGRAM_COMPLETE (R376, R384): one page of the record at the head of the queue is programmed, in `pulses`
verify pulses. A page that failed its verify is programmed again in another sector. -/
def execPoolPageProgramComplete (pulses : Nat) (ok : Bool) (s : State) : Host.Outcome State Fault Refusal :=
  let f := s.flash
  .next (whenRuns kprRuns (fun s => match f.jobs.find? (fun j => powered s && mayProgram s j) with
    | none => s
    | some j =>
      let rest := f.jobs.erase j
      let sec := f.frontSec
      let g := { needPlane (plane sec) f with pulses := (pulses :: f.pulses).take 1024 }
      let s1 := { s with flash := if ok then programJob j rest g else { g with jobs := { j with done := 0 } :: rest } }
      if !ok || 24 < pulses then retire sec s1 else enterStage (flashStage s) s1) s)

/-! ## Reclaim (R379, R380) -/

/-- RECLAIM: fewer than 64 sectors are free. -/
def execReclaim (s : State) : Host.Outcome State Fault Refusal :=
  let f := s.flash
  .next (whenRuns kprRuns (fun s =>
      if !powered s || f.reclaim.isSome || 64 ≤ freeSectors f || f.tail = f.frontSec || flashStage s = 5 then s
  else
    let s1 := appendJournal f.tail 0 [] (relocate f.tail s)
    { s1 with flash := { s1.flash with reclaim := some f.tail } }) s)

/-- RECLAIM_ERASE_COMPLETE: `first` and `second` are the results of the blank checks after the erase and its repeat. It
follows the relocation of the sector's live records. -/
def execReclaimEraseComplete (first second : Bool) (s : State) : Host.Outcome State Fault Refusal :=
  let f := s.flash
  .next (whenRuns kprRuns (fun s => match f.reclaim with
    | none => s
    | some x =>
      if !powered s || f.poolSusp || f.jobs.any fun j => j.fromSec == some x then s
      else
        let n := if first then 1 else 2
        let next := nextGood f x
        let g := { f with
          reclaim := none, lastErased := x, tail := next, laps := if next ≤ x then f.laps + 1 else f.laps
          erases := mmod 0 f.erases x (· + n) }
        if first || second then { s with flash := { g with pages := mdrop (fun k => k / 32 == x) f.pages } }
        else
          let dead := f.pages.map fun e => if e.1 / 32 = x then (e.1, e.2.map fun p => { p with live := false }) else e
          retire x { s with flash := { g with pages := dead } }) s)

/-! ## Reads (R369, R371) -/

/-- The page of the pool at a page number. -/
def poolPage (f : Flash) (n : Nat) : Option PoolPage := mget none f.pages n

/-- The 4-byte word at an array address: of the pool, what the record holds where the spec lays it out. -/
def flashWord (s : State) (a : Nat) : Nat :=
  let f := s.flash
  let n := a / 512
  if a / 16384 < 2048 then leAt (fwBytes f n) (a % 512) 4
  else match poolPage f n with
    | none => 0xFFFFFFFF
    | some p => if p.data.isEmpty then freeNow s % 2 ^ 32 else leAt p.data (a % 512) 4

/-- A record of the pool is unreadable: a key record becomes DAMAGED (R344, R371). -/
def recordLost (p : PoolPage) (s : State) : State :=
  if p.kind = 1 && p.live && (getKey s p.id).st == .active then
    recordFault 6 1 2 0 (setKey p.id { (getKey s p.id).unimage with st := .damaged } s)
  else s

/-- What a read's decoding does beside giving its word (R371, R375). -/
def noteRead (a : Nat) (k : FlashRead) (s : State) : State :=
  let f := s.flash
  let sec := a / 16384
  let f1 := { needPlane (plane sec) f with reads := f.reads + 1 }
  let p := if sec < 2048 then none else poolPage f (a / 512)
  match k with
  | .clean => { s with flash := f1 }
  | .retry n =>
    let before := flashStage s
    let s1 := { s with flash := { f1 with
      retryAt := f1.reads :: f1.retryAt.filter fun x => f1.reads < x + 16777216 } }
    match p with
    | none => enterStage before s1
    | some q =>
      if 2 ≤ n.val then retire sec s1
      else if q.live then enterStage before (copyRec q sec s1) else enterStage before s1
  | .lost =>
    let s1 := recPlace 6 0 1 0 (flashPlace 2 sec (a % 16384 / 16)) (raise 4 { s with flash := { f1 with uncorr := satAdd 65535 f1.uncorr 1 } })
    match p with
    | none => s1
    | some q => recordLost q s1

/-- A data read of the window: the word, tagged ERR where it cannot be read or lies in an execute-only region (R370).
(Log entry 171: DESIGN CHOICE.) -/
def windowRead (a : Nat) (k : FlashRead) (s : State) : KWord × State :=
  let s1 := noteRead a k s
  if k = .lost || (a / 16384 < 2048 && xoSector s.flash (a / 16384)) then (errWord, s1)
  else (⟨BitVec.ofNat 32 (flashWord s (a / 4 * 4)), .int⟩, if a / 16384 < 2048 then s1 else useFree s1)

/-- FLASH_WINDOW_READ (R369, R371): value and tag leave as one number. -/
def execFlashWindowRead (a : Fin 134217728) (k : FlashRead) (s : State) : Host.Outcome State Fault Refusal :=
  let r := windowRead a.val k s
  .next (whenRuns kprRuns (fun _ => emit (.readReply (r.1.val.toNat + shl r.1.tag.num 32)) r.2) s)

/-- A sector lies in the lens: the 512 good sectors that begin at the tail (R376). -/
def inLens (f : Flash) (sec : Nat) : Bool :=
  ((f.tail :: ringAfter f.tail).filter (goodSector f)).take 512 |>.contains sec

/-- LENS_MARGIN_READ (R376): a page of the lens that fails its margin read has its record rewritten. -/
def execLensMarginRead (page : Fin 262144) (fails : Bool) (s : State) : Host.Outcome State Fault Refusal :=
  .next (whenRuns kprRuns (fun s => if !fails || !inLens s.flash (page.val / 32) then s
  else match poolPage s.flash page.val with
    | none => s
    | some p => if p.live then copyRec p (page.val / 32) s else s) s)

/-! ## Start (R381, R382) -/

/-- The key slots as the scan finds them (R344): a record under another KEK fails its MAC. -/
def scanKeys (s : State) : State :=
  let good (k : KeySlot) : Bool := s.backup.kekPresent && k.kekEpoch == s.backup.kekEpoch
  let bad := s.keys.slots.filter fun e => e.2.st == .active && !good e.2
  let s1 := bad.foldl (fun t e => recordFault 6 1 2 0 (setKey e.1 { e.2.unimage with st := .damaged } t)) s
  { s1 with keys := { s1.keys with scanned := true } }

/-- A change that a stop left without its record is undone, and logged as not applied (R309, R359, R382). -/
def undoJob (s : State) (j : PoolJob) : State :=
  match j.undo with
  | .none => s
  | .key old n => logFw (fwEntry s 0x08 0x21 1 n 0 0) (setKey j.id old.unimage s)
  | .curve old n => logFw (fwEntry s 0x08 0x21 1 n 0 0)
      { s with curves := mset {} s.curves j.id { mget {} s.curves j.id with record := old } }
  | .means l n => { s with health := { s.health with days := l, stored := l, age := n, storedAge := n } }

/-- FLASH_START_SCAN (R381): incomplete records are ignored, and unfinished erases are completed, but in stage 5 (R385). -/
def execFlashStartScan (s : State) : Host.Outcome State Fault Refusal :=
  let f := s.flash
  .next (whenRuns kprRuns (fun s => if f.scanned then s
  else
    let cut := if flashStage s = 5 then none else f.unfinished
    let f1 := { f with jobs := [], scanned := true, unfinished := if flashStage s = 5 then f.unfinished else none }
    let f2 := match cut with | none => f1 | some x => eraseFw x f1
    let s1 := f.jobs.reverse.foldl undoJob { s with flash := f2 }
    let s2 := match cut with | none => s1 | some x => appendJournal x 2 [] s1
    scanKeys (match f.reclaim with | none => s2 | some x => appendJournal x 2 [] s2)) s)

/-- FLC_XO_LOCK_WRITE (R392): writing 0 has no effect. -/
def execFlcXoLockWrite (v : BitVec 32) (s : State) : Host.Outcome State Fault Refusal :=
  .next (whenRuns kprRuns (fun s =>
      modFlash (fun f => let g := seqDisturb f; { g with xoLock := g.xoLock || nbit v.toNat 0 }) s) s)

end Sys2Proof.Machine
end

