-- ==== Sys2Proof/Machine/Daymark.lean ====
section
/-! DEFINITION. Daymark (24 of spec/): Tabow, the page store, firmware's pages and the password. -/
namespace Sys2Proof.Machine

def modDay (f : Daymark → Daymark) (s : State) : State := { s with daymark := f s.daymark }
/-- Reader work keeps the front end's oscillator running; it stops while the front end is idle, and between pings (R64). -/
def rfBusy (r : Rf) : Bool := r.result.busy || r.session.active || r.drive

/-- Change the front end; its 27.12 MHz oscillator runs while the unit works and is not idle (R64, R69). -/
def modRf (f : Rf → Rf) (s : State) : State :=
  let r := f s.rf
  let runs := worksOn (unitSt s .rf) && rfBusy r
  { s with rf := r, clocks := { s.clocks with xtal27m := runs, rfOsc := runs } }

/-! ## The page store (R587, R590) -/

def dayPage (s : State) (p : Nat) : DayPage := mget {} s.daymark.pages p

/-- The CRC-32 over the page holds. -/
def PageCopy.good (c : PageCopy) : Bool := !c.data.isEmpty && c.crc == crc32 c.data

/-- A committed copy whose CRC holds. -/
def PageCopy.ok (c : PageCopy) : Bool := c.commit && c.good

/-- The second copy's version is the later one. -/
def DayPage.later1 (p : DayPage) : Bool := decide ((p.c1.ver + 65536 - p.c0.ver) % 65536 - 1 < 32767) && p.c1.ver != p.c0.ver

/-- The valid copy. -/
def DayPage.valid (p : DayPage) : Option PageCopy :=
  if p.c0.ok && p.c1.ok then some (if p.later1 then p.c1 else p.c0)
  else if p.c0.ok then some p.c0
  else if p.c1.ok then some p.c1
  else none

/-- A page's 256 bytes: zero where no copy is valid. -/
def pageBytes (s : State) (p : Nat) : Bytes :=
  match (dayPage s p).valid with
  | some c => slice c.data 0 256
  | none => zeros 256

/-- The write goes to the second copy: the first holds the valid content. -/
def DayPage.toSecond (p : DayPage) : Bool := p.c0.ok && !(p.c1.ok && p.later1)

/-- Steps 3 to 5 of a page write. -/
def DayPage.write (p : DayPage) (data : Bytes) : DayPage :=
  let new : PageCopy := {
    commit := true, ver := ((p.valid.map PageCopy.ver).getD 0 + 1) % 65536, data := data, crc := crc32 data }
  if p.toSecond then { c0 := { p.c0 with commit := false }, c1 := new }
  else { c0 := new, c1 := { p.c1 with commit := false } }

/-- A write that ends before step 4: the copy under programming is not committed, and the rest of it is not stated. -/
def DayPage.torn (s : State) (p : DayPage) : DayPage :=
  let bad : PageCopy := {
    commit := false, ver := freeNow s % 65536, data := freeBytes (useFree s) 256, crc := freeNow (useFree (useFree s)) % 2 ^ 32 }
  if p.toSecond then { p with c1 := bad } else { p with c0 := bad }

/-- A write that ends at or after step 4: both copies are committed until the next power. -/
def DayPage.doubled (p : DayPage) (data : Bytes) : DayPage :=
  let q := p.write data
  if p.toSecond then { q with c0 := { q.c0 with commit := p.c0.commit } } else
      { q with c1 := { q.c1 with commit := p.c1.commit } }

/-- What the check at power does to a page (R590): a copy that fails its CRC is erased, and step 5 is completed. -/
def DayPage.repair (p : DayPage) : DayPage :=
  let q : DayPage := { c0 := if p.c0.good then p.c0 else {}, c1 := if p.c1.good then p.c1 else {} }
  if q.c0.ok && q.c1.ok then
    if q.later1 then { q with c0 := { q.c0 with commit := false } } else { q with c1 := { q.c1 with commit := false } }
  else q

def putPage (p : Nat) (x : DayPage) (s : State) : State :=
  modDay (fun d => { d with pages := mset {} d.pages p x }) s

/-- A page write joins the writes in hand. -/
def queuePage (p : Nat) (data : Bytes) (who : PageBy) (s : State) : State :=
  modDay (fun d => { d with writes := d.writes ++ [⟨p, slice data 0 256, who⟩] }) s

/-- The first write ends before its completion: by `committed`, at or after step 4 or before it. The writes of the same
source that wait are lost with it. (Log entry 147: DESIGN CHOICE.) -/
def tearWrites (mine : PageBy → Bool) (committed : Bool) (s : State) : State :=
  match s.daymark.writes with
  | [] => s
  | w :: _ =>
    let s1 := if mine w.source then
        putPage w.page (if committed then (dayPage s w.page).doubled w.data else
            (dayPage s w.page).torn s) (useFree (useFree (useFree s)))
      else s
    modDay (fun d => { d with writes := d.writes.filter fun x => !mine x.source }) s1

/-! ## Tabow frames (R583, R584, R591) -/

/-- Daymark hears frames: it is present, not mute, and the reader does not drive its aerial (R581, R593). -/
def dayHears (s : State) : Bool := contactlessPresent s.part && !s.rf.antBad && !s.rf.drive

/-- A response, with its CRC; while the module is powered the access is counted and DM_ACCESS is set. -/
def dayRespond (status : Nat) (b : Bytes) (s : State) : State :=
  let f := le 1 status ++ b
  let s1 := emit (.daymark (f ++ crc16 f)) s
  if powered s then
    modRf (fun r => { r with events := setBit r.events 4 }) (modDay (fun d => { d with accesses := (d.accesses + 1) % 65536 }) s1)
  else s1

/-- A selection ends. -/
def Daymark.deselect (d : Daymark) : Daymark := { d with selected := false, rand := [], auth := false }

/-- Daymark is selected and hears. -/
def daySelected (s : State) : Bool := dayHears s && s.daymark.selected && !s.daymark.quiet

/-- It answers in the slot that it drew. -/
def answerSlot (k : Nat) (s : State) : State :=
  match s.daymark.handle with
  | some h => if s.daymark.slot = k then dayRespond 0 (le 2 h) s else s
  | none => s

/-- INVENTORY (R585): a fresh handle and slot from the noise cell. A Q above 8 is not a request of R584.
(Log entry 146: DEDUCED.) -/
def execInventory (q : BitVec 8) (s : State) : Host.Outcome State Fault Refusal :=
  .next (if !dayHears s || s.daymark.quiet || 8 < q.toNat then s
  else
    let h := freeNow s % 65536
    let s1 := useFree s
    let k := freeNow s1 % 2 ^ q.toNat
    answerSlot 0 (modDay (fun d => { d.deselect with handle := some h, slot := k, round := some (q.toNat, 0) }) (useFree s1)))

/-- DAYMARK_SLOT_ADVANCE (R585): a lone EOF. -/
def execDaymarkSlotAdvance (s : State) : Host.Outcome State Fault Refusal :=
  .next (match s.daymark.round with
    | none => s
    | some (q, k) =>
      if !dayHears s || s.daymark.quiet then s
      else if 2 ^ q ≤ k + 1 then modDay (fun d => { d with round := none }) s
      else answerSlot (k + 1) (modDay (fun d => { d with round := some (q, k + 1) }) s))

/-- SELECT (R585): the matching handle selects, with a fresh RAND; any other deselects. -/
def execSelect (h : BitVec 16) (s : State) : Host.Outcome State Fault Refusal :=
  .next (if !dayHears s || s.daymark.quiet then s
  else if s.daymark.handle = some h.toNat then
    let r := le 8 (freeNow s)
    dayRespond 0 (slice Config.serial 0 8 ++ r) (modDay (fun d => { d with selected := true, rand := r }) (useFree s))
  else modDay Daymark.deselect s)

/-- The live bytes 16 to 23 of page 1 (R589); `vbat` says that VBAT is present. -/
def liveBytes (vbat : Bool) (s : State) : Bytes :=
  if !vbat && !powered s then List.replicate 8 0xFF
  else
    le 1 (b2n s.watch.lock + shl (b2n s.watch.restrict) 1 + shl (b2n s.backup.zeroisedBk) 2 + shl (b2n s.backup.batLow) 3) ++
    le 1 s.backup.bkSource ++ zeros 6

/-- A page as READ_PAGE returns it. -/
def pageRead (p : Nat) (vbat : Bool) (s : State) : Bytes :=
  let b := pageBytes s p
  if p = 1 then slice b 0 16 ++ liveBytes vbat s ++ slice b 24 232 else b

/-- READ_PAGE (R584, R591). (Log entry 150: DESIGN CHOICE.) -/
def execReadPage (p : BitVec 8) (vbat : Bool) (s : State) : Host.Outcome State Fault Refusal :=
  .next (if !daySelected s then s
  else if 63 < p.toNat then dayRespond 1 [] s
  else dayRespond 0 (pageRead p.toNat vbat s) s)

/-- Writes are locked, or no password is set (R592). -/
def dayLocked (d : Daymark) : Bool := d.locked || d.password.isEmpty

/-- WRITE_PAGE (R584, R590, R592): its response follows the write. (Log entry 149: DEDUCED.) -/
def execWritePage (p : BitVec 8) (data : List (BitVec 8)) (s : State) : Host.Outcome State Fault Refusal :=
  .next (if !daySelected s || data.length ≠ 256 then s
  else if dayLocked s.daymark then dayRespond 4 [] s
  else if !s.daymark.auth then dayRespond 2 [] s
  else if 63 < p.toNat then dayRespond 1 [] s
  else if p.toNat < 16 then dayRespond 5 [] s
  else queuePage p.toNat data .reader s)

/-- The password XOR RAND. -/
def maskedPassword (d : Daymark) : Bytes := (d.password.zip d.rand).map fun x => x.1 ^^^ x.2

/-- AUTH (R585, R592): the eighth consecutive failure locks writes. -/
def execAuth (x : BitVec 64) (s : State) : Host.Outcome State Fault Refusal :=
  .next (if !daySelected s then s
  else if dayLocked s.daymark then dayRespond 4 [] s
  else if le 8 x.toNat = maskedPassword s.daymark then dayRespond 0 [] (modDay (fun d => { d with auth := true, fails := 0 }) s)
  else dayRespond 3 [] (modDay (fun d => { d with fails := d.fails + 1, locked := decide (8 ≤ d.fails + 1) }) s))

/-- QUIET (R585). -/
def execQuiet (s : State) : Host.Outcome State Fault Refusal :=
  .next (if !daySelected s then s else modDay (fun d => { d.deselect with quiet := true }) (dayRespond 0 [] s))

/-- DAYMARK_FIELD_LOSS (R585, R590): selection, quiet state, round and handle end; a reader's write under way ends by
`committed`. -/
def execDaymarkFieldLoss (committed : Bool) (s : State) : Host.Outcome State Fault Refusal :=
  .next (if !contactlessPresent s.part then s
  else
    modDay (fun d => { d.deselect with quiet := false, round := none, handle := none })
      (tearWrites (· == .reader) committed s))

/-- DAYMARK_POWER_UP (R590). -/
def execDaymarkPowerUp (s : State) : Host.Outcome State Fault Refusal :=
  .next (if !contactlessPresent s.part then s
  else (s.daymark.pages.map fun e => e.1).foldl (fun t p => putPage p (dayPage t p).repair t) s)

/-- DAYMARK_PAGE_WRITE_DONE (R590): `ok` says that programming verified; else the old content stands. -/
def execDaymarkPageWriteDone (ok : Bool) (s : State) : Host.Outcome State Fault Refusal :=
  .next (match s.daymark.writes with
    | [] => s
    | w :: rest =>
      let x := dayPage s w.page
      let s1 := putPage w.page (if ok then x.write w.data else x.torn s)
        (modDay (fun d => { d with writes := rest }) (if ok then s else useFree (useFree (useFree s))))
      match w.source with
      | .reader => dayRespond (if ok then 0 else 6) [] s1
      | .regs => modDay (fun d => { d with pageDone := true, pageFail := d.pageFail || !ok }) s1
      | .upkeep => s1)

/-! ## RFX_PAGE_CMD (R603) -/

/-- BUSY: a page command runs. -/
def pageBusy (s : State) : Bool := s.daymark.writes.any fun w => w.source == .regs

/-- The page buffer's 256 bytes, and a buffer that holds given bytes. -/
def bufBytes (m : SMap (BitVec 32)) (words : Nat) : Bytes :=
  ((List.range words).map fun i => le 4 (mget 0 m i).toNat).flatten

def bufOf (b : Bytes) (words : Nat) : SMap (BitVec 32) :=
  (List.range words).foldl (fun m i => mset 0 m i (BitVec.ofNat 32 (leAt b (4 * i) 4))) []

/-- FIRMWARE_PAGE_WRITE (R590, R603). -/
def execFirmwarePageWrite (p : Fin 64) (s : State) : Host.Outcome State Fault Refusal :=
  .next (whenRuns kprRuns (fun s => if !contactlessPresent s.part || !powered s || pageBusy s then s
  else queuePage p.val (bufBytes s.daymark.buf 64) .regs s) s)

/-- FIRMWARE_PAGE_READ (R591, R603). -/
def execFirmwarePageRead (p : Fin 64) (s : State) : Host.Outcome State Fault Refusal :=
  .next (whenRuns kprRuns (fun s => if !contactlessPresent s.part || !powered s || pageBusy s then s
  else modDay (fun d => { d with buf := bufOf (pageBytes s p.val) 64, pageDone := true }) s) s)

/-! ## Firmware's pages (R587, R588, R589) -/

/-- CAP_ID and CAP_UNITS (R84, R86). -/
def capId (s : State) : Nat := 1 + shl s.boot.version 8

def capUnits (p : Part) : Nat :=
  let bits (f : Nat → Bool) : Nat := ((List.range 4).map fun i => shl (b2n (f i)) i).foldl (· + ·) 0
  bits (cipherTilePresent p) + shl (bits (pkTilePresent p)) 4 + shl (b2n (latticePresent p)) 8 +
  shl (b2n (contactlessPresent p)) 9 + shl (b2n (contactlessPresent p)) 10 + 2048 + 4096 + shl (b2n (p != .g0810)) 13

/-- Page 0. -/
def identityPage (s : State) : Bytes :=
  slice Config.serial 0 8 ++ zeros 4 ++ le 4 (capUnits s.part) ++ le 4 (capId s) ++ zeros 4 ++ slice Config.madeAt 0 8

/-- Page 1's bytes 0 to 15. -/
def lockPage (s : State) : Bytes :=
  le 1 (lifecycleCode s.lifecycle) ++ le 1 (devState s) ++ le 1 (inForce s) ++ zeros 1 ++ le 4 s.watch.latched ++
  le 4 s.backup.bootCount ++ zeros 4

/-- Page 2: ALARMS of each source and the RTC time of its last alarm. -/
def tamperPage (s : State) : Bytes :=
  ((List.range 19).map fun i => le 4 (mget 0 s.watch.alarms i) ++ le 8 (mget 0 s.watch.alarmTimes i)).flatten

/-- The last 16 entries of severity 3, oldest first. -/
def lastGrave (s : State) : Bytes :=
  let l := (s.log.prog ++ s.log.staged).filter fun e => e.sev == 3
  ((l.drop (l.length - 16)).map logBytes).flatten

/-- What a page will hold once the writes in hand are done. -/
def pageToBe (s : State) (p : Nat) : Bytes :=
  match s.daymark.writes.reverse.find? fun w => w.page == p with
  | some w => w.data
  | none => pageBytes s p

/-- Firmware writes one of its pages where its content, from byte 0 on, has changed. -/
def keepPage (p : Nat) (b : Bytes) (tail : Bytes) (s : State) : State :=
  if (pageToBe s p).take b.length = b then s else queuePage p (b ++ tail) .upkeep s

/-- Firmware's upkeep of pages 0, 1, 2 and 4 to 7. (Log entry 148: DEDUCED.) -/
def keepPages (s : State) : State :=
  if !contactlessPresent s.part || s.power.phase ≠ .ready then s
  else
    let s1 := if s.lifecycle = .factory then s else keepPage 0 (identityPage s) [] s
    let s2 := keepPage 1 (lockPage s) (zeros 8 ++ le 8 (rtcStamp s)) s1
    let s3 := if s.watch.alarms.isEmpty then s2 else keepPage 2 (tamperPage s) [] s2
    let g := lastGrave s
    (List.range 4).foldl (fun t i => let b := slice g (256 * i) 256; if allZero b then t else keepPage (4 + i) b [] t) s3

/-! ## DAYMARK_PASSWORD and DAYMARK_UNLOCK (R592) -/

/-- What the two sub-functions refuse; a part without Daymark answers UNIT_ABSENT (R4, R6). -/
def dayRefusal (s : State) (c : AdminCmd) (bodyOk : Bool) : Option (Nat × Nat) :=
  match deviceWide s c bodyOk with
  | some a => some a
  | none => if contactlessPresent s.part then none else some (stUnitAbsent, 0)

def daymarkPassword (c : AdminCmd) (s : State) : State :=
  checked c (dayRefusal s c (c.pb.length == 8 && !allZero c.pb)) (fun s =>
    ifLogged c (fun t => finishCmd c stOK 0 [] (modDay (fun d => { d with password := c.pb }) (logChange c 0 0 0 t))) s) s

/-- Log entry 145: DEDUCED. -/
def execDaymarkPassword (d : Fin 256) (s : State) : Host.Outcome State Fault Refusal :=
  .next (onCmd d.val 0x8F 0x30 daymarkPassword s)

def daymarkUnlock (c : AdminCmd) (s : State) : State :=
  checked c (dayRefusal s c true) (fun s =>
    ifLogged c (fun t =>
      finishCmd c stOK 0 [] (modDay (fun d => { d with locked := false, fails := 0 }) (logChange c 0 t.daymark.fails 0 t))) s) s

def execDaymarkUnlock (d : Fin 256) (s : State) : Host.Outcome State Fault Refusal :=
  .next (onCmd d.val 0x8F 0x31 daymarkUnlock s)

end Sys2Proof.Machine
end

