-- ==== Sys2Proof/Machine/Fit.lean ====
section
/-! DEFINITION. The arithmetic of health's fits (22 of spec/): logarithms and powers of 2 in fixed point, least-squares
lines, and the test on a slope. -/
namespace Sys2Proof.Machine

/-! ## Fixed point: 24 bits after the point -/

/-- 1 in fixed point. -/
def fixOne : Nat := 2 ^ 24

/-- The bits after the point of log₂ of a mantissa from 1 to 2, which has 30 bits after its own point. -/
def logBits : Nat → Nat → Nat → Nat
  | 0, _, acc => acc
  | n + 1, m, acc =>
    let q := m * m / 2 ^ 30
    if 2 ^ 31 ≤ q then logBits n (q / 2) (2 * acc + 1) else logBits n q (2 * acc)

/-- log₂ of a number above 0, rounded down. -/
def log2Fix (v : Nat) : Int := (Nat.log2 v * fixOne + logBits 24 (v * 2 ^ 30 / 2 ^ Nat.log2 v) 0 : Nat)

/-- The square root, rounded down, by bits from `n` down. -/
def rootBits (v : Nat) : Nat → Nat → Nat
  | 0, r => r
  | n + 1, r => if (r + 2 ^ n) * (r + 2 ^ n) ≤ v then rootBits v n (r + 2 ^ n) else rootBits v n r

/-- 2 to the power 0.b₁b₂…, from the last bit to the first, with 30 bits after the point. -/
def powBits : Nat → Nat → Nat → Nat
  | 0, _, r => r
  | n + 1, f, r => powBits n (f / 2) (rootBits ((if f % 2 = 1 then 2 * r else r) * 2 ^ 30) 32 0)

/-- `v` times 2 to the power `e` in fixed point, rounded down. -/
def mulPow2 (v : Nat) (e : Int) : Nat :=
  let whole := e / fixOne
  let x := v * powBits 24 (e % fixOne).toNat (2 ^ 30)
  if 0 ≤ whole then x * 2 ^ whole.toNat / 2 ^ 30 else x / 2 ^ (30 + (-whole).toNat)

/-! ## Least squares (R546) -/

/-- The sums over points: their number, and Σx, Σy, Σx², Σxy and Σy². -/
structure Sums where
  n : Int := 0
  x : Int := 0
  y : Int := 0
  xx : Int := 0
  xy : Int := 0
  yy : Int := 0
  deriving DecidableEq, Repr, Inhabited

/-- One point more. -/
def Sums.add (t : Sums) (p : Int × Int) : Sums :=
  { n := t.n + 1, x := t.x + p.1, y := t.y + p.2, xx := t.xx + p.1 * p.1, xy := t.xy + p.1 * p.2, yy := t.yy + p.2 * p.2 }

def sumsOf (l : List (Int × Int)) : Sums := l.foldl Sums.add {}

/-- The slope of the line is `Sums.num` over `Sums.den`. -/
def Sums.num (t : Sums) : Int := t.n * t.xy - t.x * t.y
def Sums.den (t : Sums) : Int := t.n * t.xx - t.x * t.x

/-- The 90 % interval of the slope, b ± t·s/√Sxx with the residual standard error s, excludes 0; `q` is Student's t in
millionths. -/
def Sums.slopeClear (t : Sums) (q : Nat) : Bool :=
  decide ((q : Int) * q * ((t.n * t.yy - t.y * t.y) * t.den - t.num * t.num) < t.num * t.num * (t.n - 2) * 10 ^ 12)

/-- The point at which the line reaches `top`, as a numerator and a denominator. -/
def Sums.reach (t : Sums) (top : Int) : Int × Int :=
  (top * t.n * t.den - t.y * t.den + t.num * t.x, t.n * t.num)

end Sys2Proof.Machine
end

