-- ==== Sys2Proof/Machine/Health.lean ====
section
/-! DEFINITION. Health, its publications, and the SMBus target (22 of spec/). -/
namespace Sys2Proof.Machine
open Sys2Proof (primBytes primOk)

def modHealth (f : Health → Health) (s : State) : State := { s with health := f s.health }

/-! ## The wear metrics, in millionths (R544) -/

/-- M at its end point. -/
def wearEnd : Nat := 1000000

/-- SILICON: the largest slowdown, in 0.001 %, over 4 %. -/
def wearSilicon (l : List Int) : Nat := (l.foldl max 0).toNat * 250

/-- FLASH: MARGIN over MARGIN at manufacture. (Log entry 122: DEDUCED.) -/
def wearFlash (s : State) : Nat := (s.health.marginRef - spareMargin s.flash) * wearEnd / s.health.marginRef

/-- VBAT: millionths of a nAh used over 90 % of the capacity in mAh. -/
def wearVbat (used cap : Nat) : Nat := used / (900000 * cap)

/-- DRAM: corrections in the second since the last publication, over 1,000. -/
def wearDram (ecc last : Nat) : Nat := (ecc - last) * 1000

/-- REGULATOR: the largest drop, in 0.001 of a percentage point, over 5. -/
def wearRegulator (drop : Nat) : Nat := drop * 200

/-- Self-discharge since the last publication, a second before, in millionths of a nAh: 1 % of the capacity in mAh per year
of 365 days at 25 °C, doubling for each 10 °C of die temperature, given in 1/16 °C. (Log entry 121: DESIGN CHOICE.) -/
def selfDischarge (cap : Nat) (tj16 : Int) : Nat :=
  mulPow2 (cap * 10 ^ 10) ((tj16 - 400) * fixOne / 160) / 31536000

/-! ## Fits (R546, R547) -/

/-- The stored daily means of a source, oldest first. -/
def series (h : Health) (src : Nat) : List Nat :=
  h.days.reverse.filterMap fun d =>
    match src with
    | 0 => some d.silicon
    | 1 => some d.flash
    | 2 => d.vbat
    | 3 => some d.dram
    | _ => some d.regulator

/-- The points of a source's fit: day and M, or for SILICON the logarithms of the days since commissioning and of M. A mean
of 0 has no logarithm, and is left out. (Log entry 223: DESIGN CHOICE.) -/
def fitPoints (src age : Nat) (ys : List Nat) : List (Int × Int) :=
  (List.range ys.length).filterMap fun i =>
    let y := ys.getD i 0
    if src ≠ 0 then some ((i : Int), (y : Int))
    else
      let day := age + i + 1 - ys.length
      if y = 0 || day = 0 then none else some (log2Fix day, log2Fix y - log2Fix wearEnd)

/-- The means as bytes, for the parts of a fit that the model leaves open. -/
def seriesBytes (ys : List Nat) : Bytes := (ys.map (le 4)).flatten

/-- Student's t for a two-sided 90 % interval, in millionths, by degrees of freedom. -/
def studentT (n : Int) : Nat := leAt (primBytes (.fit 3 3) 4 [le 4 (n - 2).toNat]) 0 4

/-- The exponent of SILICON's power law, in fixed point: the slope, bounded to 0.1 and 0.5. -/
def powerExp (t : Sums) : Int := max (fixOne / 10 : Nat) (min (fixOne / 2 : Nat) (t.num * fixOne / t.den))

/-- Whole days from the last mean until the fit reaches M = 1, for one that rises. -/
def fitDays (src age n : Nat) (t : Sums) : Nat :=
  if src = 0 then
    let e := (t.x - t.y * fixOne / powerExp t) / t.n
    if 17 * fixOne ≤ e then 65535 else min 65535 (mulPow2 1 e - age)
  else
    let r := t.reach wearEnd
    min 65535 (r.1 / r.2 - (n - 1)).toNat

/-- Whether the fit rises, whether the 90 % interval of its slope excludes 0, and DAYS (R546). -/
def fitOf (src age : Nat) (ys : List Nat) : Bool × Bool × Nat :=
  let t := sumsOf (fitPoints src age ys)
  (decide (0 < t.num) && decide (0 < t.den), t.slopeClear (studentT t.n), fitDays src age ys.length t)

/-- LOW and HIGH, which bound DAYS (R546): how the interval of the date follows from that of the fit is not given. -/
def boundsOf (src age days : Nat) (ys : List Nat) : Nat × Nat :=
  (min days (leAt (primBytes (.fit src 1) 2 [seriesBytes ys, le 4 age]) 0 2),
   max days (leAt (primBytes (.fit src 2) 2 [seriesBytes ys, le 4 age]) 0 2))

/-- The prediction of a source whose metric is `m` (R547); `must` is FLASH in stage 4. -/
def predict (src age m place : Nat) (known must : Bool) (ys : List Nat) : Pred :=
  let base : Pred := { metric := min 65535 (m / 1000), place := place }
  if !known then base
  else if wearEnd ≤ m then { base with state := 3, days := 0, low := 0, high := 0 }
  else if ys.length < 7 && !must then base
  else
    let f := fitOf src age ys
    let b := boundsOf src age f.2.2 ys
    if f.1 && (f.2.1 || must) then { base with state := 1, days := f.2.2, low := b.1, high := b.2 }
    else if must then { base with state := 1 }
    else { base with state := 2 }

/-- The sources other than VBAT. -/
def moduleSources : List Nat := [0, 1, 3, 4]

def predOf (p : Published) (n : Nat) : Pred := mget {} p.preds n

/-- The overall prediction (R549): the first source with the smallest DAYS, and the highest STATE. -/
def overall (p : Published) : Pred :=
  let best := moduleSources.foldl (fun b n => if (predOf p n).days < (predOf p b).days then n else b) 0
  let top := moduleSources.foldl (fun m n => max m (predOf p n).state) 0
  { predOf p best with state := top }

/-! ## Advice (R550) -/

def moduleAdvice (p : Published) (stage : Nat) : Nat :=
  let o := predOf p 5
  if o.low < 90 || moduleSources.any (fun n => (predOf p n).state == 3) || 4 ≤ stage then 2
  else if o.low < 365 || stage = 3 then 1
  else 0

def cellAdvice (p : Published) (low : Bool) : Nat :=
  let v := predOf p 2
  if v.low < 30 || v.state == 3 || low then 2 else if v.low < 180 then 1 else 0

/-- A change of an advice is recorded in the keeper cluster recorder, at its severity, and a REPLACE in the logbook too
(R506, R550). -/
def noteAdvice (which old new : Nat) (s : State) : State :=
  if old = new then s
  else
    let s1 := recCluster 5 new (0x40 + 4 * which + new) s
    if new = 2 then logExempt (hwEntry 0x08 5 2 (placeTile 0 5 15 5)) s1 else s1

/-! ## Publication (R545, R551, R552) -/

/-- One PRED entry (R551). -/
def predBytes (p : Published) (n : Nat) : Bytes :=
  let x := predOf p n
  le 1 n ++ le 1 x.state ++ le 2 x.metric ++ le 2 x.days ++ le 2 x.low ++ le 2 x.high ++ zeros 6 ++ le 8 x.place

def adviceByte (p : Published) : Nat := p.module + shl p.cell 2

/-- The 160 bytes of HEALTH_READ (R551). -/
def healthBytes (p : Published) : Bytes :=
  le 8 p.computed ++ le 2 p.daysOfData ++ le 1 (adviceByte p) ++ zeros 5 ++ ((List.range 6).map (predBytes p)).flatten

/-- Page 3 (R588). -/
def healthPage (p : Published) : Bytes := le 1 (adviceByte p) ++ zeros 7 ++ ((List.range 6).map (predBytes p)).flatten

/-- The index of the largest slowdown. -/
def slowest (l : List Int) : Nat :=
  (List.range l.length).foldl (fun b i => if l.getD b 0 < l.getD i 0 then i else b) 0

/-- The predictions of one sample (R545 to R549). -/
def publish (s : State) (drift : List Int) (layer drop : Nat) : Published :=
  let h := s.health
  let used := h.used
  let stage := flashStage s
  let ps : List Pred := [
    predict 0 h.age (wearSilicon drift) (placeTile (clusterDie (slowest drift)) (slowest drift) 15 5) true false (series h 0),
    predict 1 h.age (wearFlash s) (placeTile 1 6 0 4) true (stage == 4) (series h 1),
    predict 2 h.age (match h.capacity with | some c => wearVbat used c | none => 0) (placeTile 1 7 1 4) h.capacity.isSome false
      (series h 2),
    predict 3 h.age (wearDram s.moor.eccCorr h.lastEcc) (placeTile (2 + layer) 15 15 6) true false (series h 3),
    predict 4 h.age (wearRegulator drop) (placeTile 1 9 0 4) true false (series h 4)]
  let p : Published := {
    computed := logTime s, daysOfData := h.days.length
    preds := (List.range 5).foldl (fun m i => mset {} m i (ps.getD i {})) []
    drift := (List.range 10).foldl (fun m i => mset 0 m i (drift.getD i 0)) [] }
  let p1 := { p with preds := mset {} p.preds 5 (overall p) }
  { p1 with module := moduleAdvice p1 stage, cell := cellAdvice p1 s.backup.batLow }

/-- The sample joins the day's means. -/
def healthSample (s : State) (drift : List Int) (drop : Nat) (h : Health) : Health :=
  let d := h.sum
  { h with
    lastEcc := s.moor.eccCorr
    sum := { d with
      n := d.n + 1, silicon := d.silicon + wearSilicon drift, flash := d.flash + wearFlash s
      vbatN := d.vbatN + b2n h.capacity.isSome
      vbat := d.vbat + (match h.capacity with | some c => wearVbat h.used c | none => 0)
      dram := d.dram + wearDram s.moor.eccCorr h.lastEcc, regulator := d.regulator + wearRegulator drop } }

/-- A STATE or an advice has changed. -/
def healthChanged (a b : Published) : Bool :=
  a.module != b.module || a.cell != b.cell || (List.range 6).any fun n => (predOf a n).state != (predOf b n).state

/-- Page 3 is written once per day, and at a change of STATE or advice (R552). -/
def healthToPage (old new : Published) (s : State) : State :=
  if contactlessPresent s.part && (!s.health.pageDone || healthChanged old new) then
    modHealth (fun h => { h with pageDone := true }) (queuePage 3 (healthPage new) .upkeep s)
  else s

/-- SMB_ALERT_N is asserted when either advice rises (R553). -/
def raiseSmbAlert (old new : Published) (s : State) : State :=
  if old.module < new.module || old.cell < new.cell then
      emit (.pin .smbAlertN false) (modHealth (fun h => { h with smbAlert := true }) s) else s

/-- HEALTH_PUBLISH (R545): the slowdown of each cluster in 0.001 %, the charge drawn from VBAT since the last publication in
nAh, VBAT in mV, the DRAM layer with the most corrections, and the largest drop of regulator efficiency in 0.001 of a
percentage point. (Log entries 123, 126: DEDUCED.) -/
def execHealthPublish (drift : List (BitVec 16)) (drawn : BitVec 32) (vbat : BitVec 13) (layer : Fin 4) (drop : BitVec 16)
    (s : State) : Host.Outcome State Fault Refusal :=
  .next (whenRuns kprRuns (fun s => if !passed s 9 then s
  else
    let l := (List.range 10).map fun i => (drift.getD i 0).toInt
    let self := match s.health.capacity with | some c => selfDischarge c s.power.tj16 | none => 0
    let s0 := { s with
      backup := { s.backup with vbatMv := vbat.toNat, batLow := decide (vbat.toNat < 2400) }
      health := { s.health with used := s.health.used + drawn.toNat * 1000000 + self } }
    let old := s0.health.pub
    let new := publish s0 l layer.val drop.toNat
    let s1 := modHealth (fun h => { healthSample s0 l drop.toNat h with pub := new, new := true }) s0
    noteAdvice 1 old.cell new.cell (noteAdvice 0 old.module new.module (raiseSmbAlert old new (healthToPage old new s1)))) s)

/-- The mean of each metric over the day's samples. -/
def meanOf (s : State) (d : DaySum) : DayMean :=
  { date := if s.backup.rtcValid then some (s.backup.rtcSec / 86400) else none
    silicon := d.silicon / d.n, flash := d.flash / d.n
    vbat := if d.vbatN = 0 then none else some (d.vbat / d.vbatN)
    dram := d.dram / d.n, regulator := d.regulator / d.n }

/-- HEALTH_DAILY_MEAN (R545, R557): the day's means join the last 365, and the settings record is written where the flash
still takes it. (Log entry 124: DEDUCED.) -/
def execHealthDailyMean (s : State) : Host.Outcome State Fault Refusal :=
  .next (whenRuns kprRuns (fun s => if !passed s 9 || s.health.sum.n = 0 then s
  else
    let h := s.health
    let days := (meanOf s h.sum :: h.days).take 365
    let h1 := { h with days := days, age := h.age + 1, sum := {}, pageDone := false }
    if canProgram s then
      appendUndo 6 setHealth 1 [] (.means h.stored h.storedAge)
        { s with health := { h1 with stored := days, storedAge := h.age + 1 } }
    else { s with health := h1 }) s)

/-! ## HEALTH_READ and BATTERY_SET (R548, R551) -/

def healthRead (c : AdminCmd) (s : State) : State :=
  if aTarget c.desc ≠ 0 || !c.input.isEmpty then finishCmd c stBadParameter 2 [] s
  else if dOutLen c.desc < 160 then finishShort c 160 s
  else finishCmd c stOK 0 (healthBytes s.health.pub) s

def execHealthRead (d : Fin 256) (s : State) : Host.Outcome State Fault Refusal :=
  .next (onCmd d.val 0x8B 0 healthRead s)

/-- The capacity is set; the charge used and the VBAT history start again. -/
def setBattery1 (cap : Nat) (h : Health) : Health :=
  { h with
    capacity := some cap, used := 0, days := h.days.map fun d => { d with vbat := none }
    stored := h.stored.map fun d => { d with vbat := none }, sum := { h.sum with vbatN := 0, vbat := 0 } }

def batterySet (c : AdminCmd) (s : State) : State :=
  let cap := leAt c.pb 0 2
  checked c (deviceWide s c (c.pb.length == 8 && allZero (c.pb.drop 2) && 20 ≤ cap && cap ≤ 2000)) (fun s =>
    ifLogged c (fun t =>
      let t1 := appendSetting setBattery (logChange c 0 (t.health.capacity.getD 0) cap t)
      finishCmd c stOK 0 [] (modHealth (setBattery1 cap) t1)) s) s

def execBatterySet (d : Fin 256) (s : State) : Host.Outcome State Fault Refusal :=
  .next (onCmd d.val 0x8F 0x20 batterySet s)

/-! ## The SMBus target at 0x5A (R553) -/

/-- A Block Read's answer: the count, the data and the PEC over the whole transaction. -/
def smbusBlock (cmd : Nat) (data : Bytes) (s : State) : State :=
  let b := le 1 data.length ++ data
  if powered s then emit (.smbus (b ++ [pec ([0xB4] ++ le 1 cmd ++ [0xB5] ++ b)])) s else s

/-- SMBUS_HEALTH_SUMMARY: command 0x10. (Log entry 127: DEDUCED.) -/
def execSmbusHealthSummary (s : State) : Host.Outcome State Fault Refusal :=
  .next (whenRuns kprRuns (fun s => smbusBlock 0x10 ((healthBytes s.health.pub).take 16) s) s)

/-- SMBUS_PREDICTION: commands 0x11 to 0x16. -/
def execSmbusPrediction (n : Fin 6) (s : State) : Host.Outcome State Fault Refusal :=
  .next (whenRuns kprRuns (fun s => smbusBlock (0x11 + n.val) (predBytes s.health.pub n.val) s) s)

/-- A signed value in 16 bits. -/
def le2s (v : Int) : Bytes := le 2 (v % 65536).toNat

/-- SMBUS_POWER: command 0x20, eight bytes: TJ_MAX, HOT_CLUSTER, VIN_MV and two of zero. -/
def execSmbusPower (s : State) : Host.Outcome State Fault Refusal :=
  .next (whenRuns kprRuns (fun s =>
      smbusBlock 0x20 (le2s s.power.tj16 ++ le 2 s.power.hotCluster ++ le 2 s.power.vinMv.toNat ++ zeros 2) s) s)

/-- SMBUS_STATE: command 0x21. -/
def execSmbusState (s : State) : Host.Outcome State Fault Refusal :=
  .next (whenRuns kprRuns (fun s =>
      smbusBlock 0x21 (le 1 (devState s) ++ le 1 (lifecycleCode s.lifecycle) ++ le 1 (inForce s) ++ zeros 1) s) s)

/-- SMBUS_FIELD: command 0x22. -/
def execSmbusField (s : State) : Host.Outcome State Fault Refusal :=
  .next (whenRuns kprRuns (fun s => smbusBlock 0x22 (le 1 (b2n (contactlessPresent s.part && s.rf.field)) ++ zeros 1) s) s)

/-- SMBUS_ALERT_RESPONSE: the asserting target answers with its address, and releases SMB_ALERT_N. -/
def execSmbusAlertResponse (s : State) : Host.Outcome State Fault Refusal :=
  .next (whenRuns kprRuns (fun s => if powered s && s.health.smbAlert then
    emit (.pin .smbAlertN true) (modHealth (fun h => { h with smbAlert := false }) (emit (.smbus [0xB4]) s)) else s) s)

/-- SMBUS_UNKNOWN_COMMAND: not acknowledged. -/
def execSmbusUnknownCommand (s : State) : Host.Outcome State Fault Refusal :=
  .next (whenRuns kprRuns (fun s => if powered s then emit (.smbus []) s else s) s)

/-- SMBUS_TIMEOUT (R638): the bus interface is reset; no value of the target changes. -/
def execSmbusTimeout (s : State) : Host.Outcome State Fault Refusal := .next (whenRuns kprRuns id s)

end Sys2Proof.Machine
end

