-- ==== Sys2Proof/Machine/Card.lean ====
section
/-! DEFINITION. The contact card interface (23 of spec/). -/
namespace Sys2Proof.Machine

def modCard (f : Card → Card) (s : State) : State := { s with card := f s.card }
def Card.res (f : XferResult → XferResult) (c : Card) : Card := { c with result := f c.result }
def Card.eng (f : BlockCtx → BlockCtx) (c : Card) : Card := { c with ctx := f c.ctx }

/-! ## Endings (R566, R568, R576) -/

/-- An activation or transfer begins; the outcome before it reads until it ends. -/
def XferResult.start (r : XferResult) : XferResult := { r with busy := true, wtx := 0, retries := 0 }

/-- It ends. -/
def XferResult.finish (outcome reason : Nat) (r : XferResult) : XferResult :=
  { r with busy := false, done := true, outcome := outcome, reason := reason, rxLen := 0 }

/-- A command write is refused. -/
def cardRefuse (s : State) : State := modCard (Card.res fun r => { r with refused := true }) s

/-- Deactivation (R568, R571): the card loses its power, the session ends, and both buffers are written to zero. -/
def Card.deactivate (c : Card) : Card :=
  { c with session := {}, tx := [], rx := [], phase := .idle, ctx := {}, ppsSent := [] }

/-- The outcome that R566 gives for the phase at an ending short of its goal. -/
def cardOutcome (c : Card) : Nat :=
  if c.phase = .transfer then (if c.ctx.committed then 3 else 2) else 5

/-- The work under way ends short of its goal. -/
def Card.fail (reason : Nat) (c : Card) : Card :=
  { c with result := c.result.finish (cardOutcome c) reason, phase := .idle, rx := [] }

/-- The work under way ends, and the card is deactivated. -/
def Card.failOff (reason : Nat) (c : Card) : Card := (c.fail reason).deactivate

/-- A reason that the spec does not give. -/
def cardFailFree (s : State) : State := useFree (modCard (Card.failOff (freeNow s % 12)) s)

/-! ## Blocks (R558, R562 to R566) -/

/-- A block with its EDC. -/
def withEdc (crc : Bool) (b : Bytes) : Bytes := if crc then b ++ crc16 b else b ++ [xorAll b]

/-- Send a block, given without its EDC, and keep it for a retransmission. -/
def cardSend (b : Bytes) (s : State) : State :=
  modCard (Card.eng fun x => { x with last := b }) (emit (.card (withEdc s.card.session.crc b)) s)

/-- Prologue and information field. -/
def blockOf (pcb : Nat) (inf : Bytes) : Bytes := [0] ++ le 1 pcb ++ le 1 inf.length ++ inf

/-- The next I-block of the command; the last one commits the transfer. (Log entry 135: DEDUCED.) -/
def cardSendI (s : State) : State :=
  let c := s.card
  let n := min c.session.ifsc (c.ctx.request.length - c.ctx.off)
  let more := decide (c.ctx.off + n < c.ctx.request.length)
  cardSend (blockOf (shl (b2n c.ctx.ns) 6 + shl (b2n more) 5) (slice c.ctx.request c.ctx.off n))
    (modCard (Card.eng fun x => { x with cur := n, committed := x.committed || !more }) s)

/-- An R-block with N(R) as expected; `err` is its error code. -/
def cardSendR (err : Nat) (s : State) : State :=
  modCard (Card.res fun r => { r with retries := satAdd 15 r.retries 1 })
    (cardSend (blockOf (0x80 + shl (b2n s.card.ctx.nr) 4 + err) []) s)

/-- S(RESYNCH request). (Log entry 132: DEDUCED.) -/
def cardResynch (s : State) : State :=
  modCard (fun c => (c.res fun r => { r with retries := satAdd 15 r.retries 1 }).eng fun x =>
    { x with sTries := x.sTries + 1, resyncing := true }) (cardSend (blockOf 0xC0 []) s)

/-- An invalid block (R565): R-blocks up to three times, then S(RESYNCH request) up to three times; then the recovery is
spent. -/
def cardInvalid (err : Nat) (s : State) : State :=
  let x := s.card.ctx
  if !x.resyncing && x.rTries < 3 then
    cardSendR err (modCard (Card.eng fun y => { y with rTries := y.rTries + 1 }) s)
  else if x.sTries < 3 then cardResynch s
  else modCard (Card.failOff 3) s

/-- The start of the engine: the S(IFS request) of an activation, or a command's first block. -/
def cardBegin (s : State) : State :=
  if s.card.phase = .ifs then cardSend (blockOf 0xC1 (le 1 s.card.inUse.ifsd)) s else cardSendI s

/-- S(RESYNCH response) (R565): the work begins again, once, before its commit. -/
def cardResynched (s : State) : State :=
  let x := s.card.ctx
  if x.committed || x.resynced then modCard (Card.failOff 3) s
  else
    cardBegin (modCard (fun c => { c with
      session := { c.session with ifsc := c.atr.ifsc }
      ctx := { request := x.request, resynced := true } }) s)

/-- A valid block has come: the counts of the recovery start again. -/
def BlockCtx.heard (x : BlockCtx) : BlockCtx := { x with rTries := 0, sTries := 0, resyncing := false, wtxMult := 1 }

/-- The whole response has been received. -/
def cardDone (resp : Bytes) (s : State) : State :=
  modCard (fun c => { c with
    result := { c.result.finish 1 0 with rxLen := resp.length }, phase := .idle, rx := resp }) s

/-- An I-block of the response (R563). -/
def cardTakeI (pcb : Nat) (inf : Bytes) (s : State) : State :=
  let x := s.card.ctx
  let sending := 0 < x.cur
  if (sending && x.off + x.cur < x.request.length) || nbit pcb 6 ≠ x.nr then cardInvalid 2 s
  else
    let y := { x.heard with
      off := x.request.length, cur := 0, ns := if sending then !x.ns else x.ns, nr := !x.nr, resp := x.resp ++ inf }
    let s1 := modCard (fun c => { c with ctx := y }) s
    if 512 < y.resp.length then modCard (Card.fail 7) (cardSend (blockOf 0xC2 []) s1)
    else if nbit pcb 5 then cardSend (blockOf (0x80 + shl (b2n y.nr) 4) []) s1 |>
      modCard (Card.res fun r => { r with retries := satAdd 15 r.retries 1 })
    else cardDone y.resp s1

/-- An R-block (R563, R565): an acknowledgement of a chained block, or a request for the last block again. -/
def cardTakeR (nr : Bool) (err : Nat) (s : State) : State :=
  let x := s.card.ctx
  if 0 < x.cur && nr ≠ x.ns then
    if x.off + x.cur < x.request.length && err = 0 then
      cardSendI (modCard (Card.eng fun y => { y.heard with off := y.off + y.cur, cur := 0, ns := !y.ns }) s)
    else cardInvalid 2 s
  else cardSend x.last (modCard (Card.eng BlockCtx.heard) s)

/-- An S-block from the card (R564). -/
def cardTakeS (pcb : Nat) (inf : Bytes) (s : State) : State :=
  let v := byteAt inf 0
  if pcb = 0xC3 && inf.length = 1 then
    cardSend (blockOf 0xE3 inf) (modCard (fun c => (c.res fun r => { r with wtx := satAdd 255 r.wtx 1 }).eng fun x =>
      { x.heard with wtxMult := v }) s)
  else if pcb = 0xC1 && inf.length = 1 && 1 ≤ v && v ≤ 254 then
    cardSend (blockOf 0xE1 inf) (modCard (fun c => { c with
      ctx := c.ctx.heard, session := { c.session with ifsc := v } }) s)
  else if pcb = 0xC2 && inf.isEmpty then modCard (Card.fail 4) (cardSend (blockOf 0xE2 []) s)
  else cardInvalid 2 s

/-- A block with its EDC as the card sent it, without the EDC where it is a valid block (R565). -/
def cardBlock (s : State) (blk : Bytes) (ok : Bool) : Option Bytes :=
  let e := if s.card.session.crc then 2 else 1
  let n := blk.length - e
  if ok && 3 + e ≤ blk.length && byteAt blk 0 == 0 && byteAt blk 2 + 3 == n &&
      byteAt blk 2 ≤ s.card.inUse.ifsd && withEdc s.card.session.crc (blk.take n) == blk
  then some (blk.take n) else none

/-- A valid block's PCB decides what it is. -/
def cardTake (b : Bytes) (s : State) : State :=
  let pcb := byteAt b 1
  let inf := b.drop 3
  if s.card.ctx.resyncing then (if pcb = 0xE0 && inf.isEmpty then cardResynched s else cardInvalid 2 s)
  else if pcb < 128 then (if pcb % 32 = 0 then cardTakeI pcb inf s else cardInvalid 2 s)
  else if pcb < 192 then
    (if inf.isEmpty && !nbit pcb 5 && pcb % 16 ≤ 2 then cardTakeR (nbit pcb 4) (pcb % 16) s else cardInvalid 2 s)
  else cardTakeS pcb inf s

/-- CARD_BLOCK_RECEIVED (R562 to R566): a whole block, and whether its characters had right parity and coding.
(Log entry 136: DEDUCED.) -/
def execCardBlockReceived (blk : List (BitVec 8)) (ok : Bool) (s : State) : Host.Outcome State Fault Refusal :=
  .next (whenRuns kprRuns (fun s => if s.card.phase ≠ .transfer then s
  else match cardBlock s blk ok with
    | some b => cardTake b s
    | none => cardInvalid 1 s) s)

/-- CARD_WAIT_TIMEOUT (R565): BWT or CWT is exceeded. -/
def execCardWaitTimeout (s : State) : Host.Outcome State Fault Refusal :=
  .next (whenRuns kprRuns (fun s => if s.card.phase = .transfer || s.card.phase = .ifs then cardInvalid 2 s else s) s)

/-! ## Activation (R559 to R561) -/

/-- The class tried after a class, in the order of rising voltage: C, B, A, coded 3, 2 and 1; 0 is none. -/
def nextClass (allowed from_ : Nat) : Nat :=
  (([3, 2, 1].filter fun k => k < from_ && nbit allowed (k - 1)).head?).getD 0

/-- C_VCC is switched on at a class (R559). -/
def cardAttempt (cls : Nat) (s : State) : State :=
  modCard (fun c => { c with
    phase := .attempt, session := { cls := cls, fi := 1, di := 1, clkMhz := 4 }, ctx := {}, ppsSent := [] }) s

/-- A failed attempt: the next allowed class in 10 ms, or the activation ends with `reason`. -/
def cardNextAttempt (cls reason : Nat) (s : State) : State :=
  if cls = 0 then modCard (Card.failOff reason) s
  else modCard (fun c => { c.deactivate with phase := .retryWait, session := { cls := cls } }) s

/-- The card interface takes commands (R571). -/
def cardUnitOn (s : State) : Bool := unitOn s .card

/-- A short less than 100 ms ago (R570). -/
def recentShort (s : State) : Bool := match s.card.shortAt with | some t => decide (s.tick < t + 100) | none => false

/-- CARD_ACTIVATE (R559): OP ACTIVATE of CRD_CMD. A card that is ACTIVE is deactivated first. -/
def execCardActivate (s : State) : Host.Outcome State Fault Refusal :=
  .next (whenRuns kprRuns (fun s => if !cardUnitOn s || s.card.result.busy then cardRefuse s
  else
    let s1 := modCard (fun c =>
      { (if c.session.active then c.deactivate else c) with inUse := c.cfg, noPps1 := false, result := c.result.start }) s
    if !s.card.present then modCard (Card.res (XferResult.finish 4 0)) s1
    else if recentShort s then modCard (Card.res (XferResult.finish 5 2)) s1
    else cardAttempt (nextClass s.card.cfg.classes 4) s1) s)

/-- CARD_CLASS_RETRY (R559): 10 ms later. -/
def execCardClassRetry (s : State) : Host.Outcome State Fault Refusal :=
  .next (whenRuns kprRuns (fun s => if s.card.phase = .retryWait then cardAttempt s.card.session.cls s else s) s)

/-- No answer, or a faulty one: the next class (R559). -/
def cardMute (s : State) : State := cardNextAttempt (nextClass s.card.inUse.classes s.card.session.cls) 8 s

/-- CARD_MUTE_TIMEOUT (R559). -/
def execCardMuteTimeout (s : State) : Host.Outcome State Fault Refusal :=
  .next (whenRuns kprRuns (fun s => if s.card.phase = .attempt then cardMute s else s) s)

/-! ### The ATR (R558, R560, R561, R562, R567) -/

/-- Fi and fmax in units of 100 kHz, of an index of the standard's table. (Log entry 133: PRESUMED.) -/
def fiOf : Nat → Option (Nat × Nat)
  | 0 => some (372, 40) | 1 => some (372, 50) | 2 => some (558, 60) | 3 => some (744, 80) | 4 => some (1116, 120)
  | 5 => some (1488, 160) | 6 => some (1860, 200) | 9 => some (512, 50) | 10 => some (768, 75) | 11 => some (1024, 100)
  | 12 => some (1536, 150) | 13 => some (2048, 200) | _ => none

/-- Di of an index of the standard's table. -/
def diOf : Nat → Option Nat
  | 1 => some 1 | 2 => some 2 | 3 => some 4 | 4 => some 8 | 5 => some 16 | 6 => some 32 | 7 => some 64 | 8 => some 12
  | 9 => some 20 | _ => none

/-- A value of TA1 is supported (R558). -/
def fdOk (v : Nat) : Bool :=
  match fiOf (v / 16), diOf (v % 16) with
  | some f, some d => decide (8 * d ≤ f.1)
  | _, _ => false

/-- The operating clock in whole MHz for an Fi index (R558, R560, R575). -/
def clockOf (maxClk fi : Nat) : Nat :=
  match fiOf fi with
  | some f => if 10 * maxClk ≤ f.2 then maxClk else (f.2 + 5) / 10
  | none => 4

/-- Take the interface bytes of group `i` on, under the presence bits `y`; `t` is the protocol of the group, for i of 3 and
more. The bytes after the groups, and what they gave. -/
def atrGroups : Nat → Nat → Nat → Nat → Bytes → Atr → Option (Bytes × Atr × Bool)
  | 0, _, _, _, _, _ => none
  | fuel + 1, i, y, t, b, a =>
    let has (k : Nat) : Bool := nbit y k
    let n := b2n (has 0) + b2n (has 1) + b2n (has 2) + b2n (has 3)
    if b.length < n then none
    else
      let at_ (k : Nat) : Nat := byteAt b (((List.range k).filter has).length)
      let fresh1 := i ≥ 3 && t = 1
      let a1 := if has 0 && i = 1 then { a with ta1 := some (at_ 0) }
        else if has 0 && i = 2 then { a with specific := some (at_ 0) }
        else if has 0 && fresh1 then { a with ifsc := at_ 0 }
        else if has 0 && i ≥ 3 && t = 15 then { a with clkStop := at_ 0 / 64, classes := some (at_ 0 % 64) }
        else a
      let a2 := if has 1 && fresh1 then { a1 with waits := at_ 1 } else a1
      let a3 := if has 2 && i = 1 then { a2 with guard := at_ 2 }
        else if has 2 && fresh1 then { a2 with crc := nbit (at_ 2) 0 } else a2
      if has 3 then
        let td := at_ 3
        let a4 := if td % 16 = 15 then a3 else { a3 with offers := a3.offers ++ [td % 16] }
        match atrGroups fuel (i + 1) (td / 16) (td % 16) (b.drop n) a4 with
        | some (r, x, chk) => some (r, x, chk || td % 16 ≠ 0)
        | none => none
      else some (b.drop n, a3, false)

/-- An ATR that has no fault, taken apart: TS, T0, the interface bytes, the historical bytes and TCK. -/
def parseAtr (b : Bytes) : Option Atr :=
  if b.length < 2 || 33 < b.length || !(byteAt b 0 == 0x3B || byteAt b 0 == 0x3F) then none
  else
    let t0 := byteAt b 1
    match atrGroups 32 1 (t0 / 16) 0 (b.drop 2) {} with
    | none => none
    | some (r, a, chk) =>
      if r.length ≠ t0 % 16 + b2n chk || (chk && xorAll (b.drop 1) ≠ 0) then none else some a

/-- Parameters are settled: the clock is raised, and S(IFS request) follows unless IFSD is 32 (R560, R561). -/
def cardSettle (fi di : Nat) (s : State) : State :=
  let s1 := modCard (fun c => { c with session := { c.session with
    fi := fi, di := di, clkMhz := clockOf c.inUse.maxClk fi, crc := c.atr.crc, ifsc := c.atr.ifsc } }) s
  if s.card.inUse.ifsd = 32 then
    modCard (fun c => { c with
      phase := .idle, session := { c.session with active := true }, result := c.result.finish 1 0 }) s1
  else cardBegin (modCard (fun c => { c with phase := .ifs, ctx := {} }) s1)

/-- The PPS request (R560 step 5). -/
def ppsRequest (c : Card) : Bytes :=
  let b : Bytes := match c.atr.ta1 with
    | some v => if fdOk v && !c.noPps1 then [0xFF, 0x11] ++ le 1 v else [0xFF, 0x01]
    | none => [0xFF, 0x01]
  b ++ [xorAll b]

/-- TA2 (R558, R560 step 4): its protocol is T=1, and the parameters are those of TA1, or the default. -/
def cardSpecific (ta2 : Nat) (s : State) : State :=
  let v := s.card.atr.ta1.getD 0x11
  if ta2 % 16 = 1 && !nbit ta2 4 && fdOk v then cardSettle (v / 16) (v % 16) s else cardFailFree s

/-- R560 on an ATR without fault. -/
def cardActOn (a : Atr) (s : State) : State :=
  let c := s.card
  let cls := c.session.cls
  let excluded := match a.classes with | some m => !nbit m (cls - 1) | none => false
  if excluded then cardNextAttempt (nextClass (c.inUse.classes &&& a.classes.getD 0) 4) 11 s
  else if !a.offers.contains 1 then modCard (Card.failOff 9) s
  else match a.specific with
    | some t => cardSpecific t s
    | none =>
      let r := ppsRequest c
      modCard (fun c => { c with phase := .pps, ppsSent := r }) (emit (.card r) s)

/-- CARD_ATR_RECEIVED (R559, R560): TS and what follows, and whether every character had right parity.
(Log entry 131: DEDUCED.) -/
def execCardAtrReceived (b : List (BitVec 8)) (ok : Bool) (s : State) : Host.Outcome State Fault Refusal :=
  .next (whenRuns kprRuns (fun s => if s.card.phase ≠ .attempt then s
  else match (if ok then parseAtr b else none) with
    | none => cardMute s
    | some a => cardActOn a (modCard (fun c => { c with atr := a, atrRec := slice (le 1 b.length ++ b) 0 36 }) s)) s)

/-- A PPS that failed (R560 step 6): once more at the same class, without PPS1; then the activation ends. -/
def cardPpsFailed (s : State) : State :=
  if s.card.noPps1 then modCard (Card.failOff 10) s
  else
    let cls := s.card.session.cls
    cardAttempt cls (modCard (fun c => { c.deactivate with noPps1 := true }) s)

/-- CARD_PPS_RESPONSE (R560). -/
def execCardPpsResponse (b : List (BitVec 8)) (s : State) : Host.Outcome State Fault Refusal :=
  .next (whenRuns kprRuns (fun s => if s.card.phase ≠ .pps then s
  else if b ≠ s.card.ppsSent then cardPpsFailed s
  else if b.length = 4 then cardSettle (byteAt b 2 / 16) (byteAt b 2 % 16) s
  else cardSettle 1 1 s) s)

/-- CARD_PPS_TIMEOUT (R560). (Log entry 130: DEDUCED.) -/
def execCardPpsTimeout (s : State) : Host.Outcome State Fault Refusal :=
  .next (whenRuns kprRuns (fun s => if s.card.phase = .pps then cardPpsFailed s else s) s)

/-- The activation completes (R561). -/
def cardActivated (s : State) : State :=
  modCard (fun c => { c with
    phase := .idle, ctx := {}, session := { c.session with active := true }, result := c.result.finish 1 0 }) s

/-- CARD_IFS_RESPONSE (R561): S(IFS response) with IFSD; a request for the last block again is answered, and anything else
is an invalid block. -/
def execCardIfsResponse (blk : List (BitVec 8)) (ok : Bool) (s : State) : Host.Outcome State Fault Refusal :=
  .next (whenRuns kprRuns (fun s => if s.card.phase ≠ .ifs then s
  else match cardBlock s blk ok with
    | none => cardInvalid 1 s
    | some b =>
      if s.card.ctx.resyncing then (if b = blockOf 0xE0 [] then cardResynched s else cardInvalid 2 s)
      else if b = blockOf 0xE1 (le 1 s.card.inUse.ifsd) then cardActivated s
      else if byteAt b 1 / 64 = 2 && byteAt b 2 = 0 then cardSend (blockOf 0xC1 (le 1 s.card.inUse.ifsd)) s
      else cardInvalid 2 s) s)

/-! ## Transfers and the other commands (R562, R564, R567, R571, R573) -/

/-- CARD_TRANSFER: OP TRANSFER with TX_LEN. (Log entry 129: DEDUCED.) -/
def execCardTransfer (len : Fin 2048) (s : State) : Host.Outcome State Fault Refusal :=
  let n := len.val
  .next (whenRuns kprRuns (fun s => if !cardUnitOn s || s.card.result.busy then cardRefuse s
  else if !s.card.session.active then modCard (Card.res fun r => r.start.finish 4 0) s
  else if n < 4 || 512 < n then modCard (fun c => { c with result := c.result.start.finish 2 3, rx := [] }) s
  else
    cardSendI (modCard (fun c => { c with
      inUse := { c.inUse with maxWait := c.cfg.maxWait }, result := c.result.start, phase := .transfer
      session := { c.session with clkStopped := false }
      ctx := { request := (bufBytes c.tx 128).take n, ns := c.ctx.ns, nr := c.ctx.nr } }) s)) s)

/-- CARD_DEACTIVATE (R571). -/
def execCardDeactivate (s : State) : Host.Outcome State Fault Refusal :=
  .next (whenRuns kprRuns (fun s => if !cardUnitOn s || s.card.result.busy then cardRefuse s else modCard Card.deactivate s) s)

/-- CARD_ABORT (R571): it ends a running transfer; during an activation it is refused. (Log entry 134: DEDUCED.) -/
def execCardAbort (s : State) : Host.Outcome State Fault Refusal :=
  .next (whenRuns kprRuns (fun s => if !cardUnitOn s then cardRefuse s
  else if s.card.phase = .transfer then modCard (Card.fail 5) s
  else if s.card.result.busy then cardRefuse s
  else s) s)

/-- CARD_MAX_WAIT (R564): MAX_WAIT has passed since the transfer's start. -/
def execCardMaxWait (s : State) : Host.Outcome State Fault Refusal :=
  .next (whenRuns kprRuns (fun s => if s.card.phase = .transfer then modCard (Card.failOff 6) s else s) s)

/-- CARD_CLOCK_STOP (R567): 1,860 cycles after an exchange, where the ATR allows it; no preference gives low. -/
def execCardClockStop (s : State) : Host.Outcome State Fault Refusal :=
  let c := s.card
  .next (whenRuns kprRuns (fun s => if c.session.active && c.phase == .idle && c.atr.clkStop != 0 then
    modCard (fun c => { c with session := { c.session with clkStopped := true, clkHigh := c.atr.clkStop == 2 } }) s
  else s) s)

/-- CRD_CFG_WRITE (R573): a write with a field out of range is discarded whole. -/
def execCrdCfgWrite (v : BitVec 32) (s : State) : Host.Outcome State Fault Refusal :=
  let n := v.toNat
  let x : CardCfg := {
    classes := fld n 2 0, detPol := nbit n 3, maxClk := fld n 8 4, ifsd := fld n 16 9, maxWait := fld n 31 17 }
  .next (whenRuns kprRuns (fun s =>
      if x.classes = 0 || x.maxClk = 0 || 20 < x.maxClk || x.ifsd = 0 || x.ifsd = 255 || x.maxWait = 0 then s
  else modCard (fun c => { c with cfg := x }) s) s)

/-! ## Insertion, removal and shorts (R568 to R570, R577) -/

/-- CARD_INSERTION (R568). -/
def execCardInsertion (s : State) : Host.Outcome State Fault Refusal :=
  .next (whenRuns kprRuns (fun s => if !powered s || s.card.present then s
  else modCard (fun c => { c with present := true, events := setBit c.events 0 }) s) s)

/-- CARD_REMOVAL (R568, R569). -/
def execCardRemoval (s : State) : Host.Outcome State Fault Refusal :=
  .next (whenRuns kprRuns (fun s => if !powered s || !s.card.present then s
  else
    let s1 := if s.card.result.busy then modCard (Card.fail 1) s else s
    modCard (fun c => { c.deactivate with present := false, events := setBit c.events 1 }) s1) s)

/-- CARD_SHORT (R570): 3 ms of continuous limiting. A short in the cycle of a removal is still set and counted (R572), so
the row does not ask whether the removal has switched C_VCC off. (Log entry 232: DEDUCED.) -/
def execCardShort (s : State) : Host.Outcome State Fault Refusal :=
  .next (whenRuns kprRuns (fun s => if !powered s then s
  else
    let s1 := if s.card.result.busy then modCard (Card.fail 2) s else s
    recTile 8 0 1 2 (modCard (fun c => { c.deactivate with
      events := setBit c.events 2, shortCount := satAdd 65535 c.shortCount 1, shortAt := some s.tick }) s1)) s)

/-! ## The unit (R571) -/

/-- The interface enters FAULTED: its work ends, with a reason that the spec does not give, and the card is deactivated. -/
def faultCard (cause : Nat) (s : State) : State :=
  if unitSt s .card = .faulted then s
  else
    let s1 := if s.card.result.busy then cardFailFree s else modCard Card.deactivate s
    recordFault 8 0 2 cause (moveUnit .card (unitStep (getUnit s1 .card) (.fault cause)) 2 s1)

/-- QUIESCE, or a drain that ends: what runs ends with HOST_ABORT, and the card is deactivated. -/
def cardQuiesce (s : State) : State :=
  modCard Card.deactivate (if s.card.result.busy then modCard (Card.fail 5) s else s)

end Sys2Proof.Machine
end

