-- ==== Sys2Proof/Machine/Reader.lean ====
section
/-! DEFINITION. The reader role of the contactless front end (24 of spec/). Frames stand without their CRC and without start
and end of frame; a short frame stands as one byte. -/
namespace Sys2Proof.Machine

def Rf.res (f : XferResult → XferResult) (r : Rf) : Rf := { r with result := f r.result }
def Rf.eng (f : BlockCtx → BlockCtx) (r : Rf) : Rf := { r with ctx := f r.ctx }

/-- The front end takes commands (R595). -/
def rfUnitOn (s : State) : Bool := contactlessPresent s.part && unitOn s .rf

def rfRefuse (s : State) : State :=
  if contactlessPresent s.part then modRf (Rf.res fun r => { r with refused := true }) s else s

/-- HOLDOFF (R593): a foreign field is present, or went less than 500 ms ago. (Log entry 144: DEDUCED.) -/
def rfHeld (s : State) : Bool := s.rf.field || s.rf.holdoff

/-! ## Endings (R580, R604) -/

/-- The field is switched off; the session ends and both buffers are written to zero. -/
def Rf.off (r : Rf) : Rf :=
  { r with session := {}, uid := [], tx := [], rx := [], phase := .idle, drive := false, known := [], ctx := {} }

/-- The outcome of R566 for the phase. -/
def rfOutcome (r : Rf) : Nat := if r.phase = .transfer then (if r.ctx.committed then 3 else 2) else 5

/-- The work ends short of its goal. -/
def Rf.fail (reason : Nat) (r : Rf) : Rf := ({ r with result := r.result.finish (rfOutcome r) reason }).off

/-- A reason that the spec does not give, among those that RFX_RESULT can read (R600). (Log entry 140: DESIGN CHOICE.) -/
def rfFailFree (s : State) : State :=
  useFree (modRf (Rf.fail ([0, 1, 3, 5, 6, 7, 8, 12, 13].getD (freeNow s % 9) 0)) s)

/-- The work ends because of a foreign field (R593). -/
def Rf.foreign (r : Rf) : Rf :=
  (if r.result.busy then { r with result := r.result.finish 6 12 } else r).off

/-! ## Frames sent -/

/-- Send a frame, and keep it for a retransmission. -/
def rfSend (b : Bytes) (s : State) : State :=
  modRf (Rf.eng fun x => { x with last := b }) (emit (.rf b) s)

/-- Move to a phase with a frame; a new frame has its own retransmissions. -/
def rfGo (p : RfPhase) (b : Bytes) (s : State) : State :=
  modRf (fun r => { r with phase := p, ctx := { r.ctx with rTries := 0 } }) (rfSend b s)

/-! ## Activation of Type A (R579) -/

/-- The command byte of a cascade level. -/
def selOf (level : Nat) : Nat := match level with | 0 => 0x93 | 1 => 0x95 | _ => 0x97

/-- Bits of a byte string, lowest first within each byte. -/
def bitsOf (b : Bytes) : List Bool := (b.map fun x => (List.range 8).map fun i => nbit x.toNat i).flatten

/-- Bytes of bits, lowest first, the last byte filled with zero. -/
def bytesOf (l : List Bool) : Bytes :=
  (List.range ((l.length + 7) / 8)).map fun i =>
    BitVec.ofNat 8 (((List.range 8).map fun j => shl (b2n (l.getD (8 * i + j) false)) j).foldl (· + ·) 0)

/-- An anticollision frame with the bits known so far. -/
def antiFrame (level : Nat) (known : List Bool) : Bytes :=
  let n := known.length
  le 1 (selOf level) ++ le 1 (shl (2 + n / 8) 4 + n % 8) ++ bytesOf known

def rfAnti (level : Nat) (known : List Bool) (s : State) : State :=
  rfGo (.anticoll level) (antiFrame level known) (modRf (fun r => { r with known := known }) s)

/-- Polling for Type B: REQB with one slot, or with sixteen (R579). (Log entry 139: DEDUCED.) -/
def rfReqb (all : Bool) (s : State) : State := rfGo (.reqb 0 all) [0x05, 0x00, if all then 0x04 else 0x00] s

/-- No Type A badge answers: Type B is polled where it is allowed. -/
def rfNoTypeA (s : State) : State :=
  if nbit s.rf.cfg.types 1 then rfReqb false s else modRf (Rf.fail 8) s

/-- The four bytes of a level and their check byte: selected, or a bit more is known after a collision (the reader's own
choice of the bit). -/
def rfAntiAnswer (level : Nat) (b : Bytes) (coll : Option (Fin 40)) (s : State) : State :=
  match coll with
  | some k =>
    let n := max k.val s.rf.known.length
    if 32 ≤ n then modRf (Rf.fail 3) s
    else useFree (rfAnti level ((bitsOf b).take n ++ [nbit (freeNow s) 0]) s)
  | none =>
    if b.length ≠ 5 || xorAll b ≠ 0 then modRf (Rf.fail 3) s
    else rfGo (.select level) (le 1 (selOf level) ++ [0x70] ++ b)
      (modRf (fun r => { r with uid := r.uid ++ (if byteAt b 0 = 0x88 then slice b 1 3 else slice b 0 4) }) s)

/-- SAK: the UID goes on at the next level, or the badge is selected and RATS follows with FSD 256. -/
def rfSak (level : Nat) (b : Bytes) (s : State) : State :=
  if b.length ≠ 1 then modRf (Rf.fail 3) s
  else if nbit (byteAt b 0) 2 then
    (if level < 2 then rfAnti (level + 1) [] s else modRf (Rf.fail 3) s)
  else if nbit (byteAt b 0) 5 then rfGo .rats [0xE0, 0x80] s
  else rfFailFree s

/-! ## Parameters and completion (R579, R580, R599) -/

/-- FSC of a badge's frame size code. -/
def fscOf (n : Nat) : Nat := [16, 24, 32, 40, 48, 64, 96, 128].getD n 256

/-- The highest of three rate bits at or below a limit, as MAX_RATE codes it; bit `lo` is 212 kbit/s. -/
def bestRate (v lo limit : Nat) : Nat :=
  (([3, 2, 1].filter fun k => k ≤ limit && nbit v (lo + k - 1)).head?).getD 0

/-- Rates toward and from the badge, of TA(1) or of Bit_Rate_capability. -/
def ratesOf (v limit : Nat) : Nat × Nat :=
  if nbit v 7 then
    let both := (([3, 2, 1].filter fun k => k ≤ limit && nbit v (k - 1) && nbit v (3 + k)).head?).getD 0
    (both, both)
  else (bestRate v 0 limit, bestRate v 4 limit)

/-- The badge is ACTIVE. -/
def rfActivated (s : State) : State :=
  modRf (fun r => { r with
    phase := .idle, result := r.result.finish 1 0, session := { r.session with active := true, uidLen := r.uid.length }
    ctx := {} }) s

/-- ATS: frame size, rates and FWT, then PPS where a rate above 106 kbit/s is chosen. -/
def rfAts (b : Bytes) (s : State) : State :=
  let n := byteAt b 0
  if n = 0 || n ≠ b.length then modRf (Rf.fail 3) s
  else
    let t0 := if 2 ≤ n then byteAt b 1 else 2
    let hasA := nbit t0 4
    let hasB := nbit t0 5
    let ta := if hasA then byteAt b 2 else 0
    let tb := if hasB then byteAt b (2 + b2n hasA) else 0x40
    let r := ratesOf ta s.rf.cfg.maxRate
    let s1 := modRf (fun x => { x with
      fwi := tb / 16
      session := { x.session with typeB := false, fsc := fscOf (t0 % 16), rateTx := r.1, rateRx := r.2 } }) s
    if r.1 = 0 && r.2 = 0 then rfActivated s1 else rfGo .pps ([0xD0, 0x11] ++ le 1 (4 * r.2 + r.1)) s1

/-- The badge's answer to PPS. -/
def rfPps (b : Bytes) (s : State) : State := if b = [0xD0] then rfActivated s else modRf (Rf.fail 3) s

/-! ## Activation of Type B (R579) -/

/-- The next slot marker, or no badge was singulated. -/
def rfNextSlot (slot : Nat) (all : Bool) (s : State) : State :=
  if all && slot < 15 then rfGo (.reqb (slot + 1) true) (le 1 (16 * (slot + 1) + 5)) s else modRf (Rf.fail 8) s

/-- ATQB: PUPI, rates, frame size and FWT; ATTRIB follows. -/
def rfAtqb (b : Bytes) (s : State) : State :=
  if b.length < 12 || byteAt b 0 ≠ 0x50 then modRf (Rf.fail 3) s
  else if !nbit (byteAt b 10) 0 then rfFailFree s
  else
    let r := ratesOf (byteAt b 9) s.rf.cfg.maxRate
    let pupi := slice b 1 4
    let s1 := modRf (fun x => { x with
      uid := pupi, fwi := byteAt b 11 / 16
      session := { x.session with typeB := true, fsc := fscOf (byteAt b 10 / 16), rateTx := r.1, rateRx := r.2 } }) s
    rfGo .attrib ([0x1D] ++ pupi ++ [0x00] ++ le 1 (8 + 16 * r.1 + 64 * r.2) ++ [0x01, 0x00]) s1

/-! ## Transfers over ISO/IEC 14443-4 (R579, R580) -/

/-- The next I-block of the command; the last one commits the transfer. -/
def rfSendI (s : State) : State :=
  let r := s.rf
  let n := min (r.session.fsc - 3) (r.ctx.request.length - r.ctx.off)
  let more := decide (r.ctx.off + n < r.ctx.request.length)
  rfSend (le 1 (0x02 + shl (b2n more) 4 + b2n r.ctx.ns) ++ slice r.ctx.request r.ctx.off n)
    (modRf (Rf.eng fun x => { x with cur := n, committed := x.committed || !more }) s)

/-- The response is complete. -/
def rfDone (resp : Bytes) (s : State) : State :=
  modRf (fun r => { r with result := { r.result.finish 1 0 with rxLen := resp.length }, phase := .idle, rx := resp }) s

/-- An I-block of the response. -/
def rfTakeI (pcb : Nat) (inf : Bytes) (s : State) : Option State :=
  let x := s.rf.ctx
  if (0 < x.cur && x.off + x.cur < x.request.length) || nbit pcb 0 ≠ x.ns then none
  else
    let y := { x.heard with off := x.request.length, cur := 0, ns := !x.ns, resp := x.resp ++ inf }
    let s1 := modRf (fun r => { r with ctx := y }) s
    some (if 512 < y.resp.length then modRf (Rf.fail 7) s1
    else if nbit pcb 4 then
      modRf (Rf.res fun r => { r with retries := satAdd 15 r.retries 1 }) (rfSend (le 1 (0xA2 + b2n y.ns)) s1)
    else rfDone y.resp s1)

/-- An R(ACK): a chained block is acknowledged, or the last I-block is asked for again. -/
def rfTakeR (pcb : Nat) (s : State) : Option State :=
  let x := s.rf.ctx
  if x.cur = 0 then none
  else if nbit pcb 0 = x.ns then
    (if x.off + x.cur < x.request.length then
      some (rfSendI (modRf (Rf.eng fun y => { y.heard with off := y.off + y.cur, cur := 0, ns := !y.ns }) s))
    else none)
  else some (rfSendI (modRf (Rf.eng BlockCtx.heard) s))

/-- S(WTX): the multiplier is 1 to 59. -/
def rfTakeWtx (inf : Bytes) (s : State) : Option State :=
  let m := byteAt inf 0 % 64
  if inf.length ≠ 1 || m = 0 || 59 < m then none
  else some (rfSend (le 1 0xF2 ++ le 1 m) (modRf (fun r => (r.res fun y => { y with wtx := satAdd 255 y.wtx 1 }).eng fun x =>
    { x.heard with wtxMult := m }) s))

/-- A frame of a transfer, if it is a block that ISO/IEC 14443-4 expects. -/
def rfTake (b : Bytes) (s : State) : Option State :=
  let pcb := byteAt b 0
  if b.isEmpty then none
  else if pcb / 32 = 0 && pcb % 16 / 2 = 1 then rfTakeI pcb (b.drop 1) s
  else if pcb / 2 = 0x51 && b.length = 1 then rfTakeR pcb s
  else if pcb = 0xF2 then rfTakeWtx (b.drop 1) s
  else none

/-- An invalid block or no block within FWT (R580): two retransmissions or R(NAK) blocks, then the work ends. In a chained
response the R(ACK) is sent again. (Log entry 141: DEDUCED.) -/
def rfRecover (reason : Nat) (s : State) : State :=
  let x := s.rf.ctx
  if 2 ≤ x.rTries then modRf (Rf.fail reason) s
  else
    let s1 := modRf (Rf.eng fun y => { y with rTries := y.rTries + 1 }) s
    if s.rf.phase = .transfer && (0 < x.cur || byteAt x.last 0 = 0xF2) then
      modRf (Rf.res fun r => { r with retries := satAdd 15 r.retries 1 }) (emit (.rf (le 1 (0xB2 + b2n x.ns))) s1)
    else emit (.rf x.last) s1

/-- A frame during activation. -/
def rfActivating (b : Bytes) (coll : Option (Fin 40)) (ok : Bool) (s : State) : State :=
  match s.rf.phase with
  | .reqa => rfAnti 0 [] s
  | .anticoll l => if ok || coll.isSome then rfAntiAnswer l b coll s else rfRecover 3 s
  | .select l => if ok then rfSak l b s else rfRecover 3 s
  | .rats => if ok then rfAts b s else rfRecover 3 s
  | .pps => if ok then rfPps b s else rfRecover 3 s
  | .reqb slot all => if ok then rfAtqb b s else if all then rfNextSlot slot all s else rfReqb true s
  | .attrib => if ok then rfActivated s else rfRecover 3 s
  | _ => s

/-- RF_BLOCK_RECEIVED (R579, R580): a frame, whether its coding and CRC held, and in anticollision the first bit of a
collision among the 40 of a level. (Log entry 138: DESIGN CHOICE.) -/
def execRfBlockReceived (b : List (BitVec 8)) (ok : Bool) (coll : Option (Fin 40)) (s : State) :
    Host.Outcome State Fault Refusal :=
  .next (whenRuns kprRuns (fun s => if s.rf.phase = .idle then s
  else if s.rf.phase = .transfer then
    match (if ok then rfTake b s else none) with
    | some t => t
    | none => rfRecover 3 s
  else rfActivating b coll ok s) s)

/-- RF_FWT_TIMEOUT (R580): nothing within FWT. -/
def execRfFwtTimeout (s : State) : Host.Outcome State Fault Refusal :=
  .next (whenRuns kprRuns (fun s => match s.rf.phase with
    | .idle => s
    | .reqa => rfNoTypeA s
    | .reqb slot all => rfNextSlot slot all s
    | _ => rfRecover 1 s) s)

/-- MAX_WAIT of a transfer, in units of 100 ms (R564, R597), judged at each management tick.
(Log entry 143: DESIGN CHOICE.) -/
def rfWaitLimit (s : State) : State :=
  if s.rf.phase = .transfer && decide (s.rf.start + 100 * s.rf.cfg.maxWait < s.tick) then modRf (Rf.fail 6) s else s

/-! ## Commands (R580, R595, R597, R598) -/

/-- RF_ACTIVATE (R579, R593): Type A is polled first. With the aerial known bad the activation fails.
(Log entry 142: DEDUCED.) -/
def execRfActivate (s : State) : Host.Outcome State Fault Refusal :=
  .next (whenRuns kprRuns (fun s => if !rfUnitOn s || s.rf.result.busy then rfRefuse s
  else
    let s1 := modRf (fun r => { r.off with result := r.result.start }) s
    if rfHeld s then modRf (Rf.res (XferResult.finish 6 12)) s1
    else if s.rf.antBad then modRf (Rf.res (XferResult.finish 5 13)) s1
    else
      let s2 := modRf (fun r => { r with drive := true }) s1
      if nbit s.rf.cfg.types 0 then rfGo .reqa [0x26] s2 else rfReqb false s2) s)

/-- RF_TRANSFER (R580, R593): OP TRANSFER with TX_LEN. -/
def execRfTransfer (len : Fin 2048) (s : State) : Host.Outcome State Fault Refusal :=
  let n := len.val
  .next (whenRuns kprRuns (fun s => if !rfUnitOn s || s.rf.result.busy then rfRefuse s
  else if rfHeld s then modRf (fun r => { r with result := r.result.start.finish 6 12 }.off) s
  else if !s.rf.session.active then modRf (Rf.res fun r => r.start.finish 4 0) s
  else if n < 4 || 512 < n then modRf (fun r => { r with result := r.result.start.finish 2 3 }.off) s
  else
    rfSendI (modRf (fun r => { r with
      result := r.result.start, phase := .transfer, start := s.tick
      ctx := { request := (bufBytes r.tx 128).take n, ns := r.ctx.ns } }) s)) s)

/-- RF_DEACTIVATE (R580): S(DESELECT), then the field goes off. -/
def execRfDeactivate (s : State) : Host.Outcome State Fault Refusal :=
  .next (whenRuns kprRuns (fun s => if !rfUnitOn s || s.rf.result.busy then rfRefuse s
  else modRf Rf.off (if s.rf.session.active then emit (.rf [0xC2]) s else s)) s)

/-- RF_ABORT (R571, R595). -/
def execRfAbort (s : State) : Host.Outcome State Fault Refusal :=
  .next (whenRuns kprRuns (fun s => if !rfUnitOn s then rfRefuse s
  else if s.rf.phase = .transfer then modRf (Rf.fail 5) s
  else if s.rf.result.busy then rfRefuse s
  else s) s)

/-- RFX_CFG_WRITE (R597): a write with a field out of range is discarded whole. -/
def execRfxCfgWrite (v : BitVec 32) (s : State) : Host.Outcome State Fault Refusal :=
  let n := v.toNat
  let x : RfCfg := {
    types := fld n 1 0, maxRate := fld n 3 2, pingInt := fld n 14 4, detectThr := fld n 22 15, pingEn := nbit n 23
    maxWait := fld n 31 24 }
  .next (whenRuns kprRuns (fun s =>
      if !contactlessPresent s.part || x.types = 0 || x.pingInt < 100 || 2000 < x.pingInt || x.detectThr = 0 ||
      x.maxWait = 0 then s
  else modRf (fun r => { r with cfg := x }) s) s)

/-! ## Foreign fields (R593, R594) -/

/-- A foreign carrier is heard: reader work ends, FIELD and HOLDOFF are set and FIELD_DET is asserted. -/
def foreignOn (s : State) : State :=
  let s1 := emit (.pin .fieldDet false) (modRf (fun r => { r.foreign with field := true }) s)
  if powered s then modRf (fun r => { r with holdoff := true, events := setBit r.events 1 }) s1 else s1

/-- FOREIGN_FIELD_ON (R593). -/
def execForeignFieldOn (s : State) : Host.Outcome State Fault Refusal :=
  .next (if !contactlessPresent s.part || s.rf.field then s else foreignOn s)

/-- FOREIGN_FIELD_OFF (R593). -/
def execForeignFieldOff (s : State) : Host.Outcome State Fault Refusal :=
  .next (if !contactlessPresent s.part || !s.rf.field then s
  else
    let s1 := emit (.pin .fieldDet true) (modRf (fun r => { r with field := false }) s)
    if powered s then modRf (fun r => { r with holdoff := true, events := setBit r.events 2 }) s1 else s1)

/-- HOLDOFF_EXPIRY (R593): 500 ms after the field went. -/
def execHoldoffExpiry (s : State) : Host.Outcome State Fault Refusal :=
  .next (if s.rf.field then s else modRf (fun r => { r with holdoff := false }) s)

/-! ## Pings and calibration (R581) -/

/-- A value has changed by more than the threshold against its reference. -/
def detuned (thr v ref : Nat) : Bool := decide (thr * ref < 1000 * (if v < ref then ref - v else v - ref))

/-- An aerial fault: the driver at its limit, or the amplitude outside 30 % to 300 % of the reference. -/
def aerialFault (amp : Nat) (limit : Bool) (ref : Option (Nat × Nat)) : Bool :=
  limit || (match ref with | some r => decide (10 * amp < 3 * r.1) || decide (3 * r.1 < amp) | none => false)

/-- What a burst measured. -/
def judgePing (amp ph : Nat) (limit : Bool) (r : Rf) : Rf :=
  if aerialFault amp limit r.ref then { r with antBad := true, events := setBit r.events 3 }
  else
    let r1 := { r with antBad := false }
    match r.ref with
    | some x => if detuned r.cfg.detectThr amp x.1 || detuned r.cfg.detectThr ph x.2 then
        { r1 with events := setBit r1.events 0 } else r1
    | none => r1

/-- A ping is due: no reader work runs, DETECT is clear and no field holds it off. -/
def pingDue (s : State) : Bool :=
  rfUnitOn s && s.rf.cfg.pingEn && !s.rf.result.busy && !s.rf.session.active && !nbit s.rf.events 0 && !rfHeld s

/-- RF_PING (R581, R596): `heard` is a foreign carrier in the listen, else amplitude, phase and the driver's limit. -/
def execRfPing (heard : Bool) (amp ph : BitVec 16) (limit : Bool) (s : State) : Host.Outcome State Fault Refusal :=
  .next (whenRuns kprRuns (fun s => if !pingDue s then s
  else if heard then foreignOn s
  else modRf (judgePing amp.toNat ph.toNat limit) s) s)

/-- CALIBRATE (R581): one burst's measures become the reference, in the settings record. -/
def execCalibrate (amp ph : BitVec 16) (s : State) : Host.Outcome State Fault Refusal :=
  .next (whenRuns kprRuns (fun s => if !rfUnitOn s || s.rf.result.busy then rfRefuse s
  else appendSetting setAerial (modRf (fun r => { r with ref := some (amp.toNat, ph.toNat) }) s)) s)

/-! ## The unit (R595) -/

/-- The front end enters FAULTED: its work ends, with a reason that the spec does not give, and the field goes off. -/
def faultRf (cause : Nat) (s : State) : State :=
  if unitSt s .rf = .faulted then s
  else
    let s1 := if s.rf.result.busy then rfFailFree s else modRf Rf.off s
    recordFault 8 1 2 cause (moveUnit .rf (unitStep (getUnit s1 .rf) (.fault cause)) 2 s1)

/-- QUIESCE, or a drain that ends: what runs ends with HOST_ABORT, and the field goes off. -/
def rfQuiesce (s : State) : State := modRf (fun r => if r.result.busy then r.fail 5 else r.off) s

end Sys2Proof.Machine
end

