-- ==== Sys2Proof/Machine/Power.lean ====
section
/-! DEFINITION. Supply, governor, thermal limits, clocks, and what stops and resets clear (02 and 03 of spec/). -/
namespace Sys2Proof.Machine

def modPower (f : Power → Power) (s : State) : State := { s with power := f s.power }
def modClocks (f : Clocks → Clocks) (s : State) : State := { s with clocks := f s.clocks }

/-- A bit of PWR_EVENTS is set (R53). -/
def powerBit (i : Nat) (s : State) : State := { s with pwrEvents := { s.pwrEvents with bits := setBit s.pwrEvents.bits i } }

/-! ## What resets clear (R66) -/

/-- Units on the NV die. -/
def nvUnits (m : SMap UnitRec) : SMap UnitRec :=
  m.filter fun e => e.1 == unitKey .card || e.1 == unitKey .rf || e.1 == unitKey .logbook

/-- Everything on the logic die and in the DRAM stack is cleared; what the NV die, flash, the fuses and the backup domain
hold stays. Draws of the DRBG and keys of the boot stay fresh. (Log entry 32: DEDUCED.) -/
def logicReset (s : State) : State :=
  { s with
    policy := {}, units := nvUnits s.units, snap := {}
    owner := { s.owner with staged := {} }
    boot := { s.boot with cause := 0, update := none, applets := [], starts := s.boot.starts + 1 }
    watch := { s.watch with ceremony := none }
    clocks := { s.clocks with pllDp := false, pllDram := false, pllKpr := false, portClk := 0, dramSr := false }
    ports := s.ports.filterMap fun e => if e.2.perst then some (e.1, { perst := true }) else none
    funcs := [], domains := [], queues := [], engine := {}, ops := [], moor := {}, lanes := [], pipes := [], legacy := {}
    pairs := []
    curves := s.curves.filterMap fun e => e.2.record.map fun r => (e.1, { record := some r })
    curveRegs := {}, rng := {}, arb := {}
    keys := { s.keys with
      slots := s.keys.slots.map fun e => (e.1, e.2.unimage)
      approval := none, scrubs := [], next := [], building := false }
    keeper := {}, ints := [], mpus := []
    recorders := { recs := s.recorders.recs.filter fun e => 36 ≤ e.1 }
    health := {
      days := s.health.stored, age := s.health.storedAge, stored := s.health.stored, storedAge := s.health.storedAge
      capacity := s.health.capacity, used := s.health.used, marginRef := s.health.marginRef }
    tick := 0 }

/-- A direct program under way completes at a stop (R43 step 4). -/
def finishProgram (f : Flash) : Flash :=
  match f.running with
  | some (1, a) =>
    setFw (a / 512) (.data (slice f.progData 0 512)) { f with running := none }
  | _ => f

/-- An erase under way is suspended by a stop, and its journal entry stands (R43 step 4). -/
def suspendErases (f : Flash) : Flash :=
  { f with directSusp := f.directSusp || (directErase f).isSome, poolSusp := f.poolSusp || f.reclaim.isSome }

/-- The flash controller after a power-up: an erase that was under way stands as unfinished (R43, R381, R392). -/
def flashReset (f : Flash) : Flash :=
  { f with
    seq := 0, code := 0, addr := 0, words := [], running := none, held := false, directSusp := false, poolSusp := false
    unfinished := match directErase f with | some x => some x | none => f.unfinished
    done := false, seqErr := false, addrErr := false, progFail := false, eraseFail := false, blank := false
    marginErrs := 0, xo := [], xoLock := false, pulses := [], reads := 0, retryAt := [], uncorr := 0, scanned := false }

/-- The card interface and the front end without their supply; a card is inserted anew after each start.
(Log entry 137: DEDUCED.) -/
def frontOff (s : State) : State :=
  { s with
    card := {}, rf := { ref := s.rf.ref, field := s.rf.field }
    clocks := { s.clocks with xtal27m := false, rfOsc := false }
    daymark := { s.daymark with accesses := 0, pageDone := false, pageFail := false, buf := [] } }

/-- What a power-up clears beside the logic die: every unit is OFF, and the registers and counters of the NV die take
their values after reset (R66). -/
def powerReset (s : State) : State :=
  let t := frontOff (logicReset s)
  { t with
    units := [], tap := {}, flash := flashReset s.flash, recorders := {}
    log := { s.log with
      refused := 0, droppedLow := 0, lost := 0, overwrote := false, chainBreak := false, ctlFault := false
      couldRecord := true }
    watch := { t.watch with alarms := [], mismatches := 0, fuseArm := none }
    keys := { t.keys with scanned := false, frozenSeen := false } }

/-- Lock-outs timed by management ticks restart in full (R122). -/
def restartLocks (s : State) : State :=
  if s.backup.rtcValid then s
  else { s with backup := { s.backup with locks := s.backup.locks.map fun e =>
    (e.1, if e.2.locked then { e.2 with left := 4096000 * e.2.period } else e.2) } }

/-! ## Stops (R31, R41, R43) -/

/-- Steps 2 to 4 of a stop: `bit` is the PWR_EVENTS bit of its cause, and step 2 latches BROWNOUT whatever the cause.
Operations end without completions; the moorings are lost. (Log entry 23: DEDUCED.) -/
def stopDevice (bit : Nat) (s : State) : State :=
  let torn := nbit (freeNow s) 0
  let s1 := powerBit bit (powerBit 0 (endCeremony (useFree (tearWrites (· != .reader) torn s))))
  let s2 := frontOff (logicReset { s1 with flash := suspendErases (finishProgram s1.flash), units := [] })
  modPower (fun p => { p with phase := .stopping, switchClosed := false, stopped := true, governed := false
                              stretch := false, clampActive := false }) s2

/-- BROWNOUT_STOP (R43): VIN has stayed below 4.2 V for 50 µs. -/
def execBrownoutStop (s : State) : Host.Outcome State Fault Refusal :=
  .next (if powered s && decide (s.power.vinMv < 4200) then stopDevice 0 s else s)

/-- OVERVOLTAGE_STOP (R31): 100 ms of clamping. -/
def execOvervoltageStop (s : State) : Host.Outcome State Fault Refusal :=
  .next (if powered s && decide (100 ≤ s.power.clampMs) then
    modPower (fun p => { p with overvoltStop := true }) (stopDevice 1 s) else s)

/-- The logbook pages waiting are programmed at the frontier, which may use the last free sectors (R43 step 5). -/
def flushPages : Nat → State → State
  | 0, s => s
  | n + 1, s =>
    match s.flash.jobs.find? fun j => j.kind == 3 && j.fromSec.isNone && mayProgram s j with
    | none => s
    | some j => flushPages n { s with flash := programJob j (s.flash.jobs.erase j) s.flash }

/-- STOP_FLUSH_COMPLETE (R43 steps 5 and 6): the staged entries are flushed, and the backup-only state is entered. In
stage 5 they are lost (R500). -/
def execStopFlushComplete (s : State) : Host.Outcome State Fault Refusal :=
  .next (if s.power.phase ≠ .stopping then s
  else
    let s1 := flushPages 64 (programPage 8 (programGroups 32 s))
    modPower (fun p => { p with phase := .backupOnly, holdupLow := false, vhuMv := 0 })
      { s1 with log := { s1.log with staged := [] } })

/-! ## Starts (R32, R36, R41, R68) -/

/-- The band of a voltage by the falling edges of R35. -/
def bandOf (mv : Int) : Nat := ([6000, 7200, 8400, 9600, 10800].filter fun (e : Int) => decide (e ≤ mv)).length

/-- VIN lies where a start is decided (R32). -/
def startable (s : State) : Bool := decide (4500 ≤ s.power.vinMv) && decide (s.power.vinMv ≤ 18000)

/-- Steps 1 and 2 of R68: the switch closes, and the governor takes its band from VIN. -/
def startUp (s : State) : State :=
  let again := s.power.stopped
  let s1 := restartLocks (powerReset s)
  { s1 with
    strap := s.strapNext
    boot := { s1.boot with kind := if again then 1 else 0 }
    clocks := { s1.clocks with xtal25 := true, resetCause := if again then 2 else 1 }
    power := {
      phase := .booting 2, vinMv := s.power.vinMv, iinMa := s.power.iinMa, band := bandOf s.power.vinMv, governed := true
      switchClosed := true } }

/-- POWER_START (R32): VIN has lain between 4.5 V and 18 V for 10 ms. -/
def execPowerStart (s : State) : Host.Outcome State Fault Refusal :=
  .next (if backupOnly s && startable s && !s.power.thermalWait && !s.power.thermalHold then startUp s else s)

/-- THERMAL_RESTART (R41): every junction reads 90 °C or less. (Log entry 27: DEDUCED.) -/
def execThermalRestart (tj : BitVec 16) (s : State) : Host.Outcome State Fault Refusal :=
  .next (if backupOnly s && s.power.thermalWait && decide (tj.toInt ≤ 90 * 16) then
    let s1 := modPower (fun p => { p with thermalWait := false, tj16 := tj.toInt }) s
    if startable s1 && !s1.power.thermalHold then startUp s1 else s1
  else s)

/-- A debug certificate covers a boot count; none covers a saturated one (R619, R631). -/
def DebugCert.covers (n : Nat) (c : DebugCert) : Bool :=
  decide (n < 2 ^ 32 - 1) && decide (c.first ≤ n) && decide (n ≤ c.first + c.span)

/-- PLL_LOCK (R68 step 4, R534): the boot counter advances and never wraps; a debug certificate outside its range of boot
counts ends (R619). Nothing starts while EXTEST drives the lands (R618). -/
def execPllLock (s : State) : Host.Outcome State Fault Refusal :=
  .next (if (s.power.phase = .booting 2 || s.power.phase = .booting 3) && !s.tap.extest then
    let n := satAdd (2 ^ 32 - 1) s.backup.bootCount 1
    let cert := s.tap.cert.filter (DebugCert.covers n)
    { s with
      power := { s.power with phase := .booting 4 }
      clocks := { s.clocks with pllDp := true, pllDram := true, pllKpr := true }
      backup := { s.backup with bootCount := n }
      tap := { s.tap with cert := cert } }
  else s)

/-! ## VIN and the governor (R31, R33, R36, R39) -/

/-- What a clamped sample adds: CLAMP_MS counts milliseconds of samples 10 µs apart; a new activation is a surge (R53). -/
def clampSample (on : Bool) (s : State) : State :=
  if !on then modPower (fun p => { p with clampActive := false }) s
  else
    let was := s.power.clampActive
    let n := s.power.clampSamples + 1
    let s1 := modPower (fun p => { p with
      clampActive := true, clampSamples := n % 100, clampMs := if n = 100 then satAdd 100 p.clampMs 1 else p.clampMs }) s
    if was then s1
    else raise 11 { s1 with pwrEvents := { s1.pwrEvents with surge := satAdd 65535 s1.pwrEvents.surge 1 } }

/-- VIN_SAMPLE (R31, R47, R49, R50, R54): VIN and input current; `low` says that VIN has been below 4.2 V for 1 s, which
ends a thermal hold (R41). -/
def execVinSample (mv ma : BitVec 16) (low : Bool) (s : State) : Host.Outcome State Fault Refusal :=
  let v := mv.toInt
  let run := powered s
  let s1 := modPower (fun p => { p with
    vinMv := v, iinMa := ma.toNat, vinLow := run && decide (v < 4500), ovWarn := run && decide (18000 < v)
    thermalHold := p.thermalHold && !(low && decide (v < 4200))
    overvoltStop := p.overvoltStop && decide (18000 < v)
    band := if run && !p.governed then bandOf v else p.band, governed := p.governed || run }) s
  let s2 := if v < 0 then powerBit 2 s1 else s1
  let s3 := if run && decide (18000 < v) && !s.power.ovWarn then raise 11 s2 else s2
  let s4 := clampSample (run && decide (20000 < v)) s3
  .next (if run && !s.power.governed then applyAllotment s4 else s4)

/-- CLAMP_MS_DECAY (R33). (Log entry 24: DEDUCED.) -/
def execClampMsDecay (s : State) : Host.Outcome State Fault Refusal :=
  .next (if s.power.clampActive then s else modPower (fun p => { p with clampMs := p.clampMs - 1 }) s)

/-- A band change (R36, R54): recorded in the governor's recorder with severity 1. -/
def setBand (b : Nat) (s : State) : State :=
  applyAllotment (recTile 9 2 1 b (raise 11 (modPower (fun p => { p with band := b }) s)))

/-- The falling edge of a band (R35). -/
def bandEdge (b : Nat) : Int := match b with | 0 => 4500 | 1 => 6000 | 2 => 7200 | 3 => 8400 | 4 => 9600 | _ => 10800

/-- GOVERNOR_BAND_FALL (R36): below the edge for 100 µs. (Log entry 227: DEDUCED.) -/
def execGovernorBandFall (s : State) : Host.Outcome State Fault Refusal :=
  let b := s.power.band
  .next (if powered s && decide (0 < b) && decide (s.power.vinMv < bandEdge b) then setBand (b - 1) s else s)

/-- GOVERNOR_BAND_RISE (R36): 0.2 V above the next edge for 10 ms. -/
def execGovernorBandRise (s : State) : Host.Outcome State Fault Refusal :=
  let b := s.power.band
  .next (if powered s && decide (b < 5) && decide (bandEdge (b + 1) + 200 ≤ s.power.vinMv) then setBand (b + 1) s else s)

/-- CLOCK_STRETCH (R39, R54): more than 8.5 A in the reduced band. (Log entry 37: DEDUCED.) -/
def execClockStretch (s : State) : Host.Outcome State Fault Refusal :=
  .next (if powered s && decide (s.power.vinMv < 10800) && decide (8500 < s.power.iinMa) && !s.power.stretch then
    raise 11 (modPower (fun p => { p with stretch := true }) s) else s)

/-- STRETCH_RELEASE (R39): 8.0 A or less for 10 µs. -/
def execStretchRelease (s : State) : Host.Outcome State Fault Refusal :=
  .next (if s.power.stretch && decide (s.power.iinMa ≤ 8000) then modPower (fun p => { p with stretch := false }) s else s)

/-! ## Thermal limits (R40, R41) -/

/-- The hottest sensor's reading (R52). -/
def setTemp (tj : BitVec 16) (cl : Fin 10) (s : State) : State :=
  modPower (fun p => { p with tj16 := tj.toInt, hotCluster := cl.val }) s

/-- A fault of the power cluster in its recorder and the logbook (R15, R54). -/
def powerFault (sev code : Nat) (s : State) : State :=
  logExempt (hwEntry 0x08 5 sev (placeTile 1 9 15 5)) (recCluster 9 sev code s)

/-- THERMAL_THROTTLE_STEP (R40): a row down at 105 °C or more, a row up at 100 °C or less. (Log entry 26: DEDUCED.) -/
def execThermalThrottleStep (tj : BitVec 16) (cl : Fin 10) (s : State) : Host.Outcome State Fault Refusal :=
  let s0 := setTemp tj cl s
  let row := s.power.thermalRow
  .next (if !powered s then s
  else if 105 * 16 ≤ tj.toInt then
    let s1 := modPower (fun p => { p with thermalRow := row - 1, throttle := true }) s0
    applyAllotment (if s.power.throttle then s1 else powerFault 2 0 (raise 12 s1))
  else if tj.toInt ≤ 100 * 16 && s.power.throttle then
    if s.power.band ≤ row + 1 then
      applyAllotment (raise 12 (modPower (fun p => { p with thermalRow := 5, throttle := false }) s0))
    else applyAllotment (modPower (fun p => { p with thermalRow := row + 1 }) s0)
  else s0)

/-- THERMAL_SHUTDOWN (R41): two samples 1 ms apart at 120 °C or more. The third within an hour of the RTC holds the device
in the backup-only state. -/
def execThermalShutdown (tj : BitVec 16) (cl : Fin 10) (s : State) : Host.Outcome State Fault Refusal :=
  .next (if powered s && decide (120 * 16 ≤ tj.toInt) then
    let l := s.backup.rtcSec :: s.pwrEvents.thermalStops.filter fun t => s.backup.rtcSec < t + 3600
    let hold := decide (3 ≤ l.length)
    let s1 := stopDevice 3 (powerFault 3 1 (setTemp tj cl s))
    let s2 := { s1 with pwrEvents := { s1.pwrEvents with thermalStops := l } }
    modPower (fun p => { p with thermalWait := true, thermalHold := hold }) (if hold then powerBit 4 s2 else s2)
  else s)

/-! ## The hold-up bank (R46) -/

/-- HOLDUP_LOW is set or cleared by what CAP_UF and VHU_MV read; becoming 1 it pends POWER_EVENT (R46, R53, R54).
(Log entry 33: DEDUCED.) -/
def judgeHoldup (s : State) : State :=
  let low := decide (s.power.capUf < 1300) || decide (s.power.vhuMv < 4700)
  let s1 := modPower (fun p => { p with holdupLow := low }) s
  noteFreeze (noteRecording (if low && !s.power.holdupLow then powerBit 5 (raise 11 s1) else s1))

/-- HOLDUP_LOW_DETECT (R46): in service. -/
def execHoldupLowDetect (vhu : BitVec 16) (s : State) : Host.Outcome State Fault Refusal :=
  .next (if s.power.phase ≠ .ready then s
  else
    let s1 := modPower (fun p => { p with vhuMv := vhu.toNat }) s
    if s1.power.capUf < 1300 || s1.power.vhuMv < 4700 then judgeHoldup s1 else s1)

/-- HOLDUP_RECOVERY (R46): VHU_MV is back at 4,700 and CAP_UF is adequate. -/
def execHoldupRecovery (vhu : BitVec 16) (s : State) : Host.Outcome State Fault Refusal :=
  .next (if s.power.phase ≠ .ready || !s.power.holdupLow || vhu.toNat < 4700 || s.power.capUf < 1300 then s
  else judgeHoldup (modPower (fun p => { p with vhuMv := vhu.toNat }) s))

/-! ## Clock supervision and the DRAM (R61, R62, R64, R65) -/

/-- The crystal of the RTC has stopped (R62). -/
def stopRtc (s : State) : State := { s with backup := { s.backup with rtcValid := false } }

/-- The clock runs and can be lost: the supply of the RTC crystal never stops, and the RF crystal belongs to a front end
that is present, and neither OFF nor FAULTED (R55). (Log entry 34: DESIGN CHOICE.) -/
def clockRuns (s : State) (k : ClockId) : Bool :=
  let c := s.clocks
  match k with
  | .xtal25 => powered s && c.xtal25
  | .xtal32k => c.xtal32k
  | .xtal27m => powered s && contactlessPresent s.part && unitSt s .rf != .off && unitSt s .rf != .faulted
  | .pllDp => powered s && c.pllDp
  | .pllDram => powered s && c.pllDram
  | .pllKpr => powered s && c.pllKpr
  | .port n => portPresent s n.val && nbit c.portClk n.val

/-- What the loss of a clock changes (R61, R62). -/
def loseClock (k : ClockId) (s : State) : State :=
  match k with
  | .xtal25 => modClocks (fun c => { c with xtal25 := false }) s
  | .xtal32k => stopRtc (modClocks (fun c => { c with xtal32k := false }) s)
  | .xtal27m => faultRf 1 s
  | .pllDp => modClocks (fun c => { c with pllDp := false }) s
  | .pllDram => modClocks (fun c => { c with pllDram := false }) s
  | .pllKpr => modClocks (fun c => { c with pllKpr := false }) s
  | .port n => losePort n.val 3 (modClocks (fun c => { c with portClk := clrBit c.portClk n.val }) s)

/-- CLOCK_LOSS (R61, R62): the loss shows in CLK_STATUS and pends CLOCK_MONITOR. -/
def execClockLoss (k : ClockId) (s : State) : Host.Outcome State Fault Refusal :=
  .next (if clockRuns s k then raise 10 (loseClock k s) else s)

/-- DRAM_SELF_REFRESH_ENTRY (R64): no domain ON and no request for 10 ms. -/
def execDramSelfRefreshEntry (s : State) : Host.Outcome State Fault Refusal :=
  .next (if passed s 8 && !stackWanted s then modClocks (fun c => { c with dramSr := true }) s else s)

/-- DRAM_WAKE_COMPLETE (R65). -/
def execDramWakeComplete (s : State) : Host.Outcome State Fault Refusal :=
  .next (modClocks (fun c => { c with dramSr := false }) s)

end Sys2Proof.Machine
end

