-- ==== Sys2Proof/Machine/Boot.lean ====
section
/-! DEFINITION. Boot, management ticks, firmware update and applets (03 and 25 of spec/). -/
namespace Sys2Proof.Machine
open Sys2Proof (primBytes primOk)

/-! ## The firmware banks (R605 to R608) -/

/-- The first page of a bank, and its last two. -/
def bankPage (b : Nat) : Nat := 32768 * b
def activatePage (b : Nat) : Nat := bankPage b + 32766
/-- Log entry 153: DESIGN CHOICE. -/
def rejectPage (b : Nat) : Nat := bankPage b + 32767

/-- `n` bytes of a bank from a byte that is a multiple of 512. -/
def bankBytes (f : Flash) (b off n : Nat) : Bytes :=
  slice ((List.range ((n + 511) / 512)).map fun i => fwBytes f (bankPage b + off / 512 + i)).flatten 0 n

/-- The header page, and its fields. -/
def header (f : Flash) (b : Nat) : Bytes := fwBytes f (bankPage b)
def hSeq (h : Bytes) : Nat := leAt h 8 4
def hSvn (h : Bytes) : Nat := leAt h 12 2
def hCodeLen (h : Bytes) : Nat := leAt h 20 4
def hEntry (h : Bytes) : Nat := leAt h 24 4
def hSigOff (h : Bytes) : Nat := leAt h 28 4
def hXo (h : Bytes) (n : Nat) : Nat := leAt h (32 + 4 * n) 4
def hMagic (h : Bytes) : Bool := slice h 0 4 == [0x47, 0x48, 0x46, 0x57]

/-- A bank is eligible (R608). -/
def bankEligible (f : Flash) (b : Nat) : Bool :=
  let h := header f b
  hMagic h &&
  slice (fwBytes f (activatePage b)) 0 8 == [0x41, 0x43, 0x54, 0x56] ++ le 4 (hSeq h) &&
  (fwPage f (rejectPage b)).isNone

/-- The candidate (R608). -/
def candidate (f : Flash) : Option Nat :=
  match bankEligible f 0, bankEligible f 1 with
  | true, true => some (if hSeq (header f 0) < hSeq (header f 1) then 1 else 0)
  | true, false => some 0
  | false, true => some 1
  | false, false => none

/-- An execute-only region of the header: its sectors lie in the bank, its reserved bits are zero. -/
def xoOk (v : Nat) : Bool := fld v 10 0 < 1024 && fld v 26 16 < 1024 && fld v 15 11 == 0 && fld v 30 27 == 0

/-- The header's values are those of R605 and R606. -/
def headerOk (h : Bytes) : Bool :=
  byteAt h 4 == 1 && byteAt h 5 < 16 && allZero (slice h 6 2) && allZero (slice h 17 3) && allZero (slice h 96 416) &&
  hCodeLen h % 512 == 0 && hCodeLen h ≤ 16764416 && hSigOff h == 512 + hCodeLen h &&
  512 ≤ hEntry h && hEntry h < 512 + hCodeLen h && hEntry h % 4 == 0 &&
  ((List.range 4).all fun n => xoOk (hXo h n))

/-- A signer block verifies H under a fused root (R607). -/
def signerOk (root blk h : Bytes) : Bool :=
  primBytes (.hash 2) 48 [slice blk 0 2049] == root &&
  verifyWith 0x29 p384 (slice blk 0 1952) h (slice blk 2056 3309) [] &&
  verifyWith 1 p384 (slice blk 1952 97) h (slice blk 5368 96) []

/-- Checks 2 to 4 of R609 on a bank: 0, or the cause of R610. -/
def bankCause (s : State) (b : Nat) : Nat :=
  let f := s.flash
  let h := header f b
  let dig := primBytes (.hash 2) 48 [slice h 0 256]
  let sigs := bankBytes f b (hSigOff h) 10928
  if !headerOk h then 2
  else if primBytes (.hash 2) 48 [bankBytes f b 512 (hCodeLen h)] ≠ slice h 48 48 then 3
  else if !signerOk Config.vendorRoot (slice sigs 0 5464) dig then 4
  else if s.lifecycle ≠ .factory && !signerOk s.owner.rootFuse (slice sigs 5464 5464) dig then 5
  else if hSvn h < s.boot.svnFloor then 6
  else 0

/-! ## Cores at their reset (R66, R412 to R414) -/

/-- The profile that a core takes at its entry to STARTING (R411, R412, R608). -/
def profileOf (s : State) (c : Nat) : Bool :=
  match candidate s.flash with
  | some b => nbit (byteAt (header s.flash b) 5) c
  | none => false

/-- The ROM's first address in a profile (R413). -/
def romEntry (m : Bool) : BitVec 32 := if m then 0x30008000 else 0x30000000

def setLocal (c : Nat) (m : SMap KWord) (s : State) : State :=
  match c with
  | 0 => { s with keeper := { s.keeper with local0 := m } }
  | 1 => { s with keeper := { s.keeper with local1 := m } }
  | 2 => { s with keeper := { s.keeper with local2 := m } }
  | _ => { s with keeper := { s.keeper with local3 := m } }

/-- The core reset of R66: the core's registers, its interrupt controller and regions, its mailbox slots and its local
SRAM. What places its DRAM window stays. (Log entry 155: DEDUCED.) -/
def coreReset (c : Nat) (s : State) : State :=
  let m := profileOf s c
  let k := getCore s c
  let k1 : Core := {
    pc := romEntry m, vecbase := ⟨romEntry m, .code⟩, profileM := m, txDrop := k.txDrop
    dramBase := k.dramBase, baseRefused := k.baseRefused }
  let s1 := setLocal c [] (setCore c k1 s)
  { s1 with
    ints := mset {} s1.ints c {}, mpus := mset {} s1.mpus c {}
    rng := { s1.rng with
      stalls := s1.rng.stalls.filter fun x => x.core != c, answers := s1.rng.answers.filter fun x => x.1 != c } }

/-- ROM starts a core: through STARTING to ON. -/
def startCore (c : Nat) (s : State) : State :=
  let r := unitStep (unitStep (getUnit s (coreId c)) (.enWrite true)) .initDone
  moveUnit (coreId c) r 1 (coreReset c s)

/-! ## BOOT_ROM (R609, R610) -/

/-- A boot that ends: the cause, the REJECT page for causes 3 to 6, and every core in WAIT with no source enabled. -/
def bootFail (b cause : Nat) (s : State) : State :=
  let s1 := if 3 ≤ cause && flashStage s ≠ 5 then
      let page := [0x52, 0x4A, 0x43, 0x54] ++ le 1 cause ++ slice (freePage s) 5 507
      useFree { s with flash := setFw (rejectPage b) (.data page) s.flash }
    else s
  let s2 := (List.range 4).foldl (fun t c => modCore c (fun k => { k with waiting := true }) t) s1
  { s2 with
    power := { s2.power with phase := .bootFailed }
    boot := { s2.boot with cause := cause, bank := b, failLog := some (cause + 256 * b) } }

/-- The bank bases are added to the execute-only regions, and they are locked (R609 step 5, R392). -/
def takeXo (b : Nat) (h : Bytes) (f : Flash) : Flash :=
  let put (g : Flash) (n : Nat) : Flash :=
    let v := hXo h n
    setXo n (fld v 10 0 + 1024 * b + shl (fld v 26 16 + 1024 * b) 16 + shl (fld v 31 31) 31) g
  { (List.range 4).foldl put f with xoLock := true }

/-- The image is taken: its header's values, RNG_CTRL.EN, and core 0 at ENTRY in ring 0. -/
def bootTake (b : Nat) (s : State) : State :=
  let h := header s.flash b
  let s1 := moveUnit .rng (unitStep (getUnit s .rng) (.enWrite true)) 1 { s with
    flash := takeXo b h s.flash
    power := { s.power with phase := .booting 6 }
    boot := { s.boot with
      cause := 0, bank := b, seq := hSeq h, svn := hSvn h, version := leAt h 14 3, profiles := byteAt h 5 } }
  modCore 0 (fun k => { k with pc := BitVec.ofNat 32 (0x20000000 + 16777216 * b + hEntry h) }) s1

/-- BOOT_ROM (R609, R610): the four cores start together; core 0's ROM, with core 1 for the signatures, judges the image.
Cores 1 to 3 then wait in ROM for a mailbox word. -/
def execBootRom (s : State) : Host.Outcome State Fault Refusal :=
  .next (whenRuns kprRuns (fun s => if s.power.phase ≠ .booting 4 then s
  else
    let s1 := (List.range 4).foldl (fun t c => startCore c t) s
    match candidate s1.flash with
    | none => bootFail 0 1 s1
    | some b => if bankCause s1 b = 0 then bootTake b s1 else bootFail b (bankCause s1 b) s1) s)

/-! ## FIRMWARE_START (R68 steps 8 and 9, R300, R350, R536, R610) -/

/-- The entries of a start: the reset kind, the power events found set, and a boot failure not yet logged.
(Log entries 28, 29: DEDUCED.) -/
def logStart (s : State) : State :=
  let s1 := match s.boot.kind with
    | 0 => noteReset 0 0 s
    | 1 => noteReset 1 1 s
    | _ => noteReset 2 5 s
  let bits := (List.range 6).filter (nbit s.pwrEvents.bits)
  let s2 := bits.foldl (fun t i => logExempt (hwEntry 0x08 0x16 2 i) t) s1
  match s.boot.failLog with
  | none => s2
  | some x =>
    let s3 := logFw (fwEntry s2 0x06 0x06 3 x 0 0) s2
    { s3 with boot := { s3.boot with failLog := none } }

/-- The lifecycle state that the backup domain demands (R44, R526, R536). -/
def judgeBackup (s : State) : State :=
  let b := s.backup
  if s.lifecycle = .factory then { s with backup := { b with canaryOk := true } }
  else if b.zeroisedBk || !b.canaryOk then
    let s1 := logFw (fwEntry s 0x05 0x0A 3 (if b.zeroisedBk then b.bkSource else 0xFF) 0 0) s
    if s.lifecycle = .zeroised then s1 else changeLifecycle .zeroised (fun t => transitionEntry t .zeroised) s1
  else if s.watch.lock && (s.lifecycle == .commissioned || s.lifecycle == .operational) then
    changeLifecycle .locked (fun t => transitionEntry t .locked) { s with priorLifecycle := s.lifecycle }
  else s

/-- Fresh memory keys and an empty mooring region (R194, R218). (Log entry 36: DESIGN CHOICE.) -/
def startMemory (s : State) : State :=
  useDrbg 96 (regionInit (loseDram { s with moor := { s.moor with memKeys := true, memEpoch := s.moor.memEpoch + 1 } }))

/-- The blob keys of every domain are drawn (R278). -/
def drawBlobKeys (s : State) : State :=
  useDrbg 8192 { s with
    boot := { s.boot with blobKeys := drbgBytes s 8192 }
    domains := s.domains.map fun e => (e.1, { e.2 with blobKey := none }) }

/-- A curve record is restored into copy 0, valid in both banks; one that fails its checksum is not (R300). -/
def restoreCurve (bad : List (Fin 64)) (s : State) (e : Nat × CurveSlot) : State :=
  match e.2.record with
  | none => s
  | some r =>
    if bad.any fun i => i.val == e.1 then recordFault 6 0 2 0 (setCurve e.1 { e.2 with record := none } s)
    else
      let put (b : Bank) : Bank := { b with curves := mset {} b.curves e.1 ⟨true, 0⟩ }
      setCurve e.1 { e.2 with copy0 := .loaded r }
        { s with policy := { s.policy with bank0 := put s.policy.bank0, bank1 := put s.policy.bank1 } }

/-- The settings of R106 and R130, held in flash, enter both policy banks. -/
def restoreShares (s : State) : State :=
  let share (d : Nat) : Share :=
    let c := getCfg s d
    { weight := c.weight, quota := c.quota, reserve := c.reserve, perms := c.perms.getD (defaultPerms s d) }
  let fill (b : Bank) : Bank :=
    { b with shares := (List.range 256).foldl (fun m d => if domPresent s d then mset {} m d (share d) else m) [] }
  { s with policy := { s.policy with bank0 := fill s.policy.bank0, bank1 := fill s.policy.bank1 } }

/-- FIRMWARE_START: `bad` are the slots whose curve record fails its checksum. (Log entries 156, 215: DEDUCED.) -/
def execFirmwareStart (bad : List (Fin 64)) (s : State) : Host.Outcome State Fault Refusal :=
  .next (whenRuns kprRuns (fun s => if s.power.phase ≠ .booting 6 || unitSt s .rng ≠ .on || !s.flash.scanned then s
  else
    let s1 := makeIdentity (drawBlobKeys (startMemory (judgeBackup (logStart s))))
    let s2 := moveUnit .mooring (unitStep (unitStep (getUnit s1 .mooring) (.enWrite true)) .initDone) 1 s1
    let s3 := restoreShares (s2.curves.foldl (restoreCurve bad) s2)
    let s4 := if devLocked s3 then s3 else startImage s3
    modPower (fun p => { p with phase := .booting 9 }) (modClocks (fun k => { k with pllDram := true }) s4)) s)

/-- READY_REPORT (R46, R68 steps 10 and 11, R612): CAP_UF as measured, VHU_MV at 4,700. The first READY of an image above
the SVN floor raises it. -/
def execReadyReport (cap vhu : BitVec 16) (s : State) : Host.Outcome State Fault Refusal :=
  .next (whenRuns kprRuns (fun s => if s.power.phase ≠ .booting 9 || vhu.toNat < 4700 then s
  else
    let s1 := modPower (fun p => { p with phase := .ready, capUf := cap.toNat, vhuMv := vhu.toNat }) s
    let s2 := announceIf s (judgeHoldup s1)
    if s.boot.svn ≤ s.boot.svnFloor then s2
    else
      let new := min 64 s.boot.svn
      { logFw (fwEntry s2 0x06 0x05 3 new s.boot.svnFloor new) s2 with boot := { s2.boot with svnFloor := new } }) s)

/-! ## Management ticks (R21, R122, R328, R471, R497, R533, R538) -/

/-- The RTC after `n` of its periods; a value of TIME_SET enters at the first. -/
def advanceRtc (n : Nat) (b : Backup) : Backup :=
  let run (sec frac k : Nat) : Nat × Nat :=
    let t := frac / 2 + k
    ((sec + t / 32768) % 2 ^ 40, 2 * (t % 32768))
  match b.rtcSet, n with
  | _, 0 => b
  | none, _ => let r := run b.rtcSec b.rtcFrac n; { b with rtcSec := r.1, rtcFrac := r.2 }
  | some v, k + 1 =>
    let r := run (fld v 39 0) (fld v 55 40) k
    { b with rtcSec := r.1, rtcFrac := r.2, rtcValid := true, rtcSet := none }

/-- The lock-outs count down by the RTC, or by ticks while RTC_VALID is 0. -/
def countLocks (n : Nat) (b : Backup) : Backup :=
  let step := if b.rtcValid then 125 * n else 4096
  { b with locks := b.locks.map fun e => (e.1, { e.2 with left := e.2.left - step }) }

/-- FLC_WEAR's value (R391). -/
def wearWord (f : Flash) : Nat :=
  min 255 (pulseAvg f) + shl (retryPpm f) 8 + shl f.uncorr 24 + shl (f.laps % 2 ^ 24) 40

/-- A count of every domain that has one. -/
def byDomain (f : Nat → Nat) : SMap Nat :=
  ((List.range 256).map fun d => (d, f d)).filter fun e => e.2 != 0

/-- The snapshot of every counter (R21, R132). -/
def snapshot (s : State) : Snap :=
  { domains := s.domains, lanes := s.lanes, pipes := s.pipes, pairs := s.pairs, legacy := s.legacy, rng := s.rng
    hits := s.moor.hits, misses := s.moor.misses, setHolds := s.moor.setHolds, eccCorr := s.moor.eccCorr
    wear := wearWord s.flash, taken := mooringCount s.part - freeCount s, retired := slotsIn s .retired
    poisoned := slotsIn s .poisoned, quarantined := slotsIn s .quarantined, inFlight := byDomain (inFlight s)
    moorHeld := byDomain (moorHeld s), keysHeld := byDomain (keysHeld s), tags := s.ops.length
    domsOn := ((List.range 256).filter (domOn s)).length, keysActive := keysActive s }

/-- A core's tick latch at a tick edge (R471). -/
def tickCore (s : State) (c : Nat) : State :=
  modInt c (fun i => if i.tickLatch then { i with missed := satAdd 65535 i.missed 1 } else { i with tickLatch := true }) s

/-- MANAGEMENT_TICK: `edges` periods of the RTC have passed since the tick before. (Log entry 3: DESIGN CHOICE.) -/
def execManagementTick (edges : Nat) (s : State) : Host.Outcome State Fault Refusal :=
  .next (if !dpRuns s then s
  else
    let n := if s.clocks.xtal32k then edges else 0
    let s1 := (List.range 4).foldl tickCore { s with
      tick := s.tick + 1, snap := snapshot s, backup := advanceRtc n (countLocks n s.backup)
      rng := { s.rng with reseedDue := s.rng.reseedDue || s.rng.drbg.isSome } }
    keepPages (rfWaitLimit (programGroups 32 s1)))

/-! ## FW_UPDATE (R611 to R613) -/

/-- The form of an FW_UPDATE command: its body's length, and input only for DATA. -/
def updateForm (c : AdminCmd) (body : Nat) (input : Bool) : Bool :=
  aTarget c.desc == 0 && c.pb.length == body && allZero (c.pb.drop (if input then 4 else 8)) && (input || c.input.isEmpty)

/-- The sectors `secs` of bank `b` erased in that order, its pages `new` in place of the old. -/
def eraseSecs (b : Nat) (secs : List Nat) (new : List (Nat × FwPage)) (s : State) : State :=
  let s1 := secs.foldl (fun t i => appendJournal (1024 * b + i) 1 [] t) s
  let f := s1.flash
  { s1 with flash := { f with
      fw := (f.fw.filter fun e => e.1 < bankPage b) ++ new ++ f.fw.filter fun e => bankPage b + 32767 < e.1
      erases := secs.foldl (fun m i => mmod 0 m (1024 * b + i) (· + 1)) f.erases } }

/-- Every page of a bank erased, the sector of its ACTIVATE and REJECT pages first, with a journal page before each
sector (R380, R611). -/
def eraseBank (b : Nat) (s : State) : State :=
  eraseSecs b (1023 :: List.range 1023) ((List.range 32768).map fun i => (bankPage b + i, FwPage.erased)) s

/-- FW_UPDATE BEGIN. -/
def fwBegin (c : AdminCmd) (s : State) : State :=
  let len := leAt c.pb 0 4
  let seq := leAt c.pb 4 4
  let b := 1 - s.boot.bank
  if !updateForm c 8 false || len % 512 ≠ 0 || 16776192 < len || seq ≤ s.boot.seq then finishCmd c stBadParameter 2 [] s
  else ifLogged c (fun t =>
    let t1 := eraseBank b (logAdmin c 0x06 0x03 3 seq 0 0 t)
    finishCmd c stOK 0 [] { t1 with boot := { t1.boot with update := some ⟨b, len, seq⟩ } }) s

def execFwUpdateBegin (d : Fin 256) (s : State) : Host.Outcome State Fault Refusal :=
  .next (onCmd d.val 0x92 0 fwBegin s)

/-- The pages of the input, programmed from a page of the bank on. -/
def programAll (first : Nat) (b : Bytes) (f : Flash) : Flash :=
  (List.range (b.length / 512)).foldl (fun g i => setFw (first + i) (.data (slice b (512 * i) 512)) g) f

/-- FW_UPDATE DATA: whole pages of the input, at OFFSET. In stage 5 nothing is programmed (R385), and it ends as a change
does that the logbook cannot record (R500). -/
def fwData (c : AdminCmd) (s : State) : State :=
  let off := leAt c.pb 0 4
  let n := c.input.length
  if !updateForm c 8 true || off % 512 ≠ 0 || n < 512 || 65536 < n || n % 512 ≠ 0 then finishCmd c stBadParameter 2 [] s
  else match s.boot.update with
    | none => finishCmd c stPolicyDenied 0 [] s
    | some u =>
      let first := bankPage u.bank + off / 512
      if u.len < off + n || (List.range (n / 512)).any fun i => (fwPage s.flash (first + i)).isSome then
        finishCmd c stBadParameter 3 [] s
      else if flashStage s = 5 then finishCmd c stLogFull 2 [] (countRefused s)
      else finishCmd c stOK 0 [] { s with flash := programAll first c.input s.flash }

/-- Log entry 152: DEDUCED. -/
def execFwUpdateData (d : Fin 256) (s : State) : Host.Outcome State Fault Refusal :=
  .next (onCmd d.val 0x92 1 fwData s)

/-- What FINISH answers for an open update. -/
def finishStatus (s : State) (u : FwUpdate) : Nat × Nat :=
  let h := header s.flash u.bank
  let x := bankCause s u.bank
  if x = 4 || x = 5 then (stAuthFail, 1)
  else if x ≠ 0 || 64 < hSvn h || hSeq h ≠ u.seq then (stBadParameter, 3)
  else (stOK, 0)

/-- FW_UPDATE FINISH: the checks of R609, then the ACTIVATE page. -/
def fwFinish (c : AdminCmd) (s : State) : State :=
  if !updateForm c 0 false then finishCmd c stBadParameter 2 [] s
  else match s.boot.update with
    | none => finishCmd c stPolicyDenied 0 [] s
    | some u =>
      let r := finishStatus s u
      if r.1 ≠ stOK then finishCmd c r.1 r.2 [] s
      else ifLogged c (fun t =>
        let t1 := logAdmin c 0x06 0x04 3 u.seq 0 0 t
        let page := [0x41, 0x43, 0x54, 0x56] ++ le 4 u.seq ++ zeros 504
        finishCmd c stOK 0 [] { t1 with
          flash := setFw (activatePage u.bank) (.data page) t1.flash, boot := { t1.boot with update := none } }) s

/-- Log entry 151: DEDUCED. -/
def execFwUpdateFinish (d : Fin 256) (s : State) : Host.Outcome State Fault Refusal :=
  .next (onCmd d.val 0x92 2 fwFinish s)

/-- FW_UPDATE ABORT. -/
def fwAbort (c : AdminCmd) (s : State) : State :=
  if !updateForm c 0 false then finishCmd c stBadParameter 2 [] s
  else finishCmd c stOK 0 [] { s with boot := { s.boot with update := none } }

def execFwUpdateAbort (d : Fin 256) (s : State) : Host.Outcome State Fault Refusal :=
  .next (onCmd d.val 0x92 3 fwAbort s)

/-! ## Applets (R617, R622) -/

/-- An applet slot takes new contents, with its entry. -/
def putApplet (c : AdminCmd) (code : Bytes) (s : State) : State :=
  ifLogged c (fun t =>
    let t1 := logAdmin c 0x06 0x07 3 (aTarget c.desc) 0 0 t
    finishCmd c stOK 0 [] { t1 with boot := { t1.boot with applets := mset [] t1.boot.applets (aTarget c.desc) code } }) s

/-- APPLET_LOAD: the code and its owner signer block. -/
def appletLoad (c : AdminCmd) (s : State) : State :=
  let n := leAt c.pb 0 4
  let code := c.input.take n
  if 7 < aTarget c.desc || c.pb.length ≠ 8 || !allZero (c.pb.drop 4) || n % 4 ≠ 0 || 65536 < n ||
      c.input.length ≠ n + 5464 then finishCmd c stBadParameter 2 [] s
  else if !signerOk s.owner.rootFuse (c.input.drop n) (primBytes (.hash 2) 48 [le 4 (aTarget c.desc) ++ code]) then
    finishCmd c stAuthFail 1 [] s
  else putApplet c code s

/-- Log entry 154: DEDUCED. -/
def execAppletLoad (d : Fin 256) (s : State) : Host.Outcome State Fault Refusal :=
  .next (onCmd d.val 0x90 0 appletLoad s)

/-- APPLET_LOAD SUBOP 1: the slot is emptied. -/
def appletEmpty (c : AdminCmd) (s : State) : State :=
  if 7 < aTarget c.desc || !c.input.isEmpty then finishCmd c stBadParameter 2 [] s else putApplet c [] s

def execAppletEmpty (d : Fin 256) (s : State) : Host.Outcome State Fault Refusal :=
  .next (onCmd d.val 0x90 1 appletEmpty s)

end Sys2Proof.Machine
end

