-- ==== Sys2Proof/Machine/Units.lean ====
section
/-! DEFINITION. The commands on switchable units (01 of spec/): control writes, initialisation, drains and faults, for every
kind of unit, and the lockup of a core (16, 18). -/
namespace Sys2Proof.Machine

/-- The unit exists on the part (R2, R71). -/
def unitPresent (s : State) : UnitId → Bool
  | .dom d => domPresent s d.val
  | .queue d _ => domPresent s d.val
  | .lane i => cipherTilePresent s.part (i.val / 4)
  | .pair i => pkTilePresent s.part (i.val / 3)
  | .rf => contactlessPresent s.part
  | _ => true

/-! ## Faults (R232, R263, R265, R414, R415, R500, R645) -/

/-- The operation is work of the Mooring cluster: it names a mooring, or makes one. -/
def moorWork (o : Op) : Bool := dOpcode o.desc == 0x10 || !(opMoors o).isEmpty

/-- The Mooring cluster enters FAULTED: its admitted work is aborted (R24), the moorings are lost, and every ON domain
enters FAULTED with cause 1. -/
def faultMooring (cause : Nat) (s : State) : State :=
  if unitSt s .mooring = .faulted then s
  else
    let s1 := moveUnit .mooring (unitStep (getUnit s .mooring) (.fault cause)) 3 s
    let s2 := (List.range 256).foldl (fun t d => if domOn t d then recordFault 1 1 2 1 (domMove d (.fault 1) t) else t) s1
    let s3 := abortWhere moorWork stAborted 4 s2
    logExempt (hwEntry 0x08 5 3 (placeTile 0 2 15 5)) (recCluster 2 3 cause
      { s3 with moor := { s3.moor with slots := [], fills := [] } })

/-- An NV controller is lost: nothing more can be recorded. -/
def faultNv (cause : Nat) (s : State) : State :=
  if unitSt s .logbook = .faulted then s
  else
    let s1 := moveUnit .logbook (unitStep (getUnit s .logbook) (.fault cause)) 3 s
    let s2 := logExempt (hwEntry 0x08 5 3 (placeTile 1 6 15 5)) (recCluster 6 3 cause s1)
    noteFreeze (noteRecording { s2 with log := { s2.log with ctlFault := true } })

/-- Bits of ST in use (R408). -/
def stWord (k : Core) : Nat :=
  let b := k.bank
  b2n b.c + shl (b2n b.v) 1 + shl (b2n b.z) 2 + shl (b2n b.n) 3 + shl (b2n b.fs) 4 + shl (b2n b.ie) 5 + shl b.ring 6 +
  shl (b2n k.sb) 8

/-- A register as a snapshot records it: a SECRET is recorded as 0. -/
def snapReg (w : KWord) : Nat := if w.tag = .secret then 0 else w.val.toNat

/-- What the keeper tile recorder takes of a locked core (R415). -/
def coreSnap (k : Core) : List Nat :=
  [k.pc.toNat, stWord k, k.cause, k.addrFault, k.entryRing] ++ ((List.range 16).map fun i => snapReg (k.bank.getD i)) ++
  (List.range 8).map fun i => snapReg (k.bank.getA i)

/-- LOCKUP_N (R415): asserted while any core is FAULTED by a lockup. -/
def lockupPin (s : State) : Bool := (List.range 4).any fun c => (coreUnit s c).st == .faulted

/-- The LOCKUP_N land follows the cores' states. -/
def driveLockup (before s : State) : State :=
  if lockupPin before = lockupPin s then s else emit (.pin .lockupN (!lockupPin s)) s

/-- A core locks up (R415, R464). -/
def lockup (c cause : Nat) (s : State) : State :=
  if (coreUnit s c).st = .faulted then s
  else
    let s1 := setUnit (coreId c) (unitStep (coreUnit s c) (.fault cause)) (modCore c (fun k => { k with waiting := false }) s)
    let s2 := snapTile 5 c 2 cause (coreSnap (getCore s c)) s1
    let s3 := logExempt (hwEntry 0x08 4 2 (placeTile 0 5 c 4)) s2
    driveLockup s (raiseOthers c 2 s3)

/-- A unit fault, by the kind of the unit. (Log entry 203: DESIGN CHOICE.) -/
def unitFault (u : UnitId) (cause : Nat) (s : State) : State :=
  match u with
  | .dom d => if (getDomUnit s d.val).st = .faulted then s
      else recordFault 1 1 2 cause (domMove d.val (.fault cause) s)
  | .queue d q => faultQueue d.val q.val cause s
  | .lane i => faultLane i.val cause s
  | .pair i => faultPair i.val cause s
  | .pipe i => faultPipe i.val cause s
  | .legacy => faultLegacy cause s
  | .rng => faultRng cause s
  | .card => faultCard cause s
  | .rf => faultRf cause s
  | .core c => lockup c.val cause s
  | .mooring => faultMooring cause s
  | .logbook => faultNv cause s

/-- The clock that carries a unit runs (R55, R61): the data-plane clock, or the keeper's and the NV bus's. -/
def unitClock (s : State) (u : UnitId) : Bool :=
  match u with
  | .rng => kprRuns s
  | .card => kprRuns s
  | .rf => kprRuns s
  | .core _ => kprRuns s
  | .logbook => kprRuns s
  | _ => dpRuns s

/-- UNIT_FAULT (R24). (Log entry 19: DEDUCED.) -/
def execUnitFault (u : UnitId) (cause : Fin 256) (s : State) : Host.Outcome State Fault Refusal :=
  .next (if unitPresent s u && unitClock s u then unitFault u cause.val s else s)

/-! ## Moves (R24, R27, R37, R38) -/

/-- A core's move by the state table; its entry to STARTING is the core reset of R66. (Log entry 17: DEDUCED.) -/
def coreMove (c : Nat) (ev : UnitEvent) (s : State) : State :=
  let r := coreUnit s c
  let r' := unitStep r ev
  let s1 := moveUnit (coreId c) r' 1 s
  let s2 := if r'.st = .starting && r.st ≠ .starting then
      let t := coreReset c s1
      { t with clocks := { t.clocks with resetCause := setBit t.clocks.resetCause (8 + c) } }
    else s1
  driveLockup s s2

/-- A core reset requested before READY is refused (R67). -/
def refuseReset (s : State) : State := { s with clocks := { s.clocks with resetCause := setBit s.clocks.resetCause 12 } }

/-- A lane's or pair's EN: from OFF it starts where the allotment holds it. -/
def allottedEn (u : UnitId) (v : Bool) (s : State) : State :=
  let r := getUnit s u
  applyAllotment (moveUnit u (if v && r.st = .off then { r with en := true } else unitStep r (.enWrite v)) 1 s)

/-- The unit lies in the allotment, or is of a kind that the governor never gates (R35, R37). -/
def inAllotment (s : State) : UnitId → Bool
  | .lane i => (allottedLanes s).contains i.val
  | .pair i => (allottedPairs s).contains i.val
  | _ => true

/-- A drain's end: ENABLE_PENDING outside the allotment stops in OFF (R24, R38). -/
def drainStep (s : State) (u : UnitId) : UnitRec :=
  let r := getUnit s u
  if r.st = .enablePending && !inAllotment s u then moveTo r .off else unitStep r .drained

/-- EN written, by the kind of the unit. -/
def unitEn (u : UnitId) (v : Bool) (s : State) : State :=
  match u with
  | .dom d => domMove d.val (.enWrite v) s
  | .queue d q => queueEn d.val q.val v s
  | .lane _ => allottedEn u v s
  | .pair _ => allottedEn u v s
  | .core c =>
    if v && s.power.phase ≠ .ready && unitSt s u == .off then refuseReset s else coreMove c.val (.enWrite v) s
  | .logbook => s
  | .pipe _ => startPk (moveUnit u (unitStep (getUnit s u) (.enWrite v)) 1 s)
  | .rng => seedingOff s (moveUnit u (unitStep (getUnit s u) (.enWrite v)) 1 s)
  | _ => moveUnit u (unitStep (getUnit s u) (.enWrite v)) 1 s

/-- What QUIESCE aborts of a unit's admitted work (R186, R263, R265, R290, R331, R414, R571, R595). -/
def unitAbort (u : UnitId) (s : State) : State :=
  match u with
  | .lane i => abortWhere (fun o => laneOf o == some i.val) stAborted 4 s
  | .pair i => abortWhere (fun o => pairOf o == some i.val && !o.reserved) stAborted 4 s
  | .pipe i => abortWhere (fun o => o.pipe == some i.val) stAborted 4 s
  | .legacy => abortWhere (fun o => needsLegacy o.desc && (laneOf o).isSome) stAborted 4 s
  | .rng => abortWhere (fun o => dOpcode o.desc == 0x30) stAborted 4 (failStalls s)
  | .card => cardQuiesce s
  | .rf => rfQuiesce s
  | .core c => dropAnswers c.val { s with rng := { s.rng with stalls := s.rng.stalls.filter fun x => x.core != c.val } }
  | _ => s

/-- QUIESCE, by the kind of the unit. -/
def unitQuiesce (u : UnitId) (s : State) : State :=
  let st := unitSt s u
  let working := st == .on || st == .draining || st == .enablePending
  match u with
  | .dom d => domMove d.val .quiesce s
  | .queue d q => queueMove d.val q.val .quiesce s
  | .logbook => s
  | .core c => coreMove c.val .quiesce (if working then unitAbort u s else s)
  | _ =>
    let s1 := moveUnit u (unitStep (getUnit s u) .quiesce) 1 (if working then unitAbort u s else s)
    match u with
    | .lane _ => applyAllotment s1
    | .pair _ => applyAllotment s1
    | .pipe _ => startPk s1
    | .rng => seedingOff s s1
    | _ => s1

/-- The scrub of RESET, by the kind of the unit. -/
def unitScrub (u : UnitId) (s : State) : State :=
  match u with
  | .lane i => scrubMask i.val s
  | .pair i => scrubPair i.val s
  | .legacy => scrubMask 16 s
  | .rng => dropDrbg s
  | .mooring =>
    let t := startMemory s
    if devLocked t then t else startImage t
  | _ => s

/-- RESET written in FAULTED, by the kind of the unit. -/
def unitReset (u : UnitId) (s : State) : State :=
  let r := getUnit s u
  if r.st ≠ .faulted then s
  else
    let s1 := unitScrub u s
    match u with
    | .dom d => domMove d.val .reset s1
    | .queue d q => queueStarting d.val q.val .off (queueMove d.val q.val .reset s1)
    | .core c => coreMove c.val .reset s1
    | .lane _ => applyAllotment (moveUnit u { moveTo r .off with cause := 0 } 1 s1)
    | .pair _ => applyAllotment (moveUnit u { moveTo r .off with cause := 0 } 1 s1)
    | .logbook => s
    | _ => moveUnit u (unitStep r .reset) 1 s1

/-! ## Control writes by hosts and by firmware (R10, R111, R155, R416, R492, R500, R645) -/

/-- The function and BAR0 offset of a control word that a host writes. -/
def hostCtrl : UnitId → Option (Nat × Nat)
  | .dom d => some (d.val, 0x0100)
  | .queue d q => some (d.val, qpOff q.val 0)
  | _ => none

/-- A host's write is logged; one that only stops work is never refused (R500). -/
def ctrlWrite (u : UnitId) (new : Nat) (stops : Bool) (f : State → State) (s : State) : State :=
  match hostCtrl u with
  | some (d, off) => loggedWrite d off (b2n (getUnit s u).en) new stops f s
  | none => f s

/-- A write that the spec discards and logs (R111, R645): EN 1 to a domain while the device is LOCKED. -/
def ctrlDiscard (u : UnitId) (new : Nat) (s : State) : State :=
  match u with
  | .dom d => logDiscard d.val 0x0100 (b2n (getUnit s u).en) new s
  | _ => logFw (fwEntry s 0x08 5 1 (placeTile 0 2 15 5) (b2n (getUnit s u).en) new) s

/-- The write is discarded. (Log entry 18: DEDUCED.) -/
def ctrlRefused (s : State) (u : UnitId) (en quiesce : Bool) : Bool :=
  match u with
  | .dom _ => en && devLocked s
  | .mooring => quiesce || !en
  | _ => false

/-- UNIT_EN_WRITE (R24): a control write without QUIESCE and RESET. -/
def execUnitEnWrite (u : UnitId) (v : Bool) (s : State) : Host.Outcome State Fault Refusal :=
  .next (if !unitPresent s u || !unitClock s u then s
  else if ctrlRefused s u v false then ctrlDiscard u (b2n v) s
  else ctrlWrite u (b2n v) (!v) (unitEn u v) s)

/-- UNIT_QUIESCE (R24, R25): QUIESCE, then the EN that the same write gives. -/
def execUnitQuiesce (u : UnitId) (en : Bool) (s : State) : Host.Outcome State Fault Refusal :=
  .next (if !unitPresent s u || !unitClock s u then s
  else if ctrlRefused s u en true then ctrlDiscard u (2 + b2n en) s
  else ctrlWrite u (2 + b2n en) true (fun t =>
    let t1 := unitQuiesce u t
    if en then unitEn u true t1 else t1) s)

/-- Firmware's clock for "three times within one hour" (R287, R335), in milliseconds. -/
def hourClock (s : State) : Nat := if s.backup.rtcValid then 1000 * s.backup.rtcSec else s.tick

/-- Three resets lie within the last hour. -/
def threeRecent (s : State) (l : List Nat) : Bool := decide (3 ≤ (l.filter fun t => hourClock s < t + 3600000).length)

/-- Firmware resets a pair for COMPARE and VALIDITY, and the source, at most three times within one hour (R287, R335); a
lane, the legacy unit and the Mooring cluster always. -/
def fwResets (s : State) (u : UnitId) : Bool :=
  match u with
  | .pair i => (let c := (getUnit s u).cause; c == 1 || c == 2) && !(getPair s i.val).latched
  | .rng => !s.rng.latched
  | _ => true

/-- A reset that firmware makes is remembered; after the third within an hour it makes no more until the next power-on. -/
def noteReset1 (u : UnitId) (s : State) : State :=
  match u with
  | .pair i =>
    let p := getPair s i.val
    let l := hourClock s :: p.resetTicks
    setPair i.val { p with resetTicks := l, latched := p.latched || threeRecent s l } s
  | .rng =>
    let r := s.rng
    let l := hourClock s :: r.resetTicks
    { s with rng := { r with resetTicks := l, latched := r.latched || threeRecent s l } }
  | _ => s

/-- The place code of a unit in a recovery decision. -/
def unitPlace (u : UnitId) : Nat :=
  let c := unitTile u
  match u with
  | .mooring => placeTile 0 2 15 5
  | _ => placeTile (clusterDie c.1) c.1 c.2 4

/-- A recovery decision's entry (R492): 1 for RESET written, 2 for left FAULTED. -/
def logDecision (u : UnitId) (new : Nat) (s : State) : State :=
  logFw (fwEntry s 0x08 0x22 2 (unitPlace u) (getUnit s u).cause new) s

/-- EN first, then RESET (R25); a core's before READY is refused (R67). -/
def resetWrite (u : UnitId) (en : Bool) (s : State) : State :=
  match u with
  | .core _ =>
    if s.power.phase ≠ .ready then refuseReset s else unitReset u (unitEn u en s)
  | _ => unitReset u (unitEn u en s)

/-- UNIT_RESET (R24, R25). `fw` says that the write is firmware's answer to a fault, with EN 1 (R287, R335, R465, R645): it
may be the decision to leave the unit FAULTED, and it is logged. (Log entry 14: DESIGN CHOICE.) -/
def execUnitReset (u : UnitId) (en fw : Bool) (s : State) : Host.Outcome State Fault Refusal :=
  .next (if !unitPresent s u || !unitClock s u then s
  else if ctrlRefused s u en false then ctrlDiscard u (4 + b2n en) s
  else if fw && unitSt s u == .faulted then
    (if fwResets s u then resetWrite u true (noteReset1 u (logDecision u 1 s)) else logDecision u 2 s)
  else ctrlWrite u (4 + b2n en) false (resetWrite u en) s)

/-! ## Initialisation and drains -/

/-- Initialisation complete, for a unit in STARTING. -/
def unitReady (u : UnitId) (s : State) : State :=
  let on := moveUnit u (unitStep (getUnit s u) .initDone) 1 s
  match u with
  | .lane i => startPasses i.val (fillMask i.val on)
  | .pair i => startPk (refillPair i.val on)
  | .pipe _ => startPk on
  | .legacy => (laneOrder s.part).foldl (fun t n => startPasses n t) (fillMask 16 on)
  | _ => on

/-- Lanes, pairs and the legacy unit stay in STARTING until the source is ON (R233, R265, R272). -/
def waitsSource (s : State) : UnitId → Bool
  | .lane _ => !rngOn s
  | .pair _ => !rngOn s
  | .legacy => !rngOn s
  | _ => false

/-- UNIT_INIT_COMPLETE (R24, R111, R155, R233, R253, R272, R645): `fail` is 0, or the cause with which initialisation
failed. The source's own end of SEEDING has its rows in 13. -/
def execUnitInitComplete (u : UnitId) (fail : Fin 256) (s : State) : Host.Outcome State Fault Refusal :=
  .next (if !unitPresent s u || !unitClock s u || unitSt s u ≠ .starting then s
  else match u with
    | .rng => s
    | .logbook => s
    | _ =>
      if fail.val ≠ 0 then unitFault u fail.val s
      else match u with
        | .dom d => domInit d.val s
        | .queue d q => queueInit d.val q.val s
        | _ => if waitsSource s u then s else unitReady u s)

/-- The unit holds no more admitted work. -/
def unitIdle (s : State) : UnitId → Bool
  | .lane i => (laneOps s i.val).isEmpty
  | .pair i => !(s.ops.any fun o => pairOf o == some i.val && !o.reserved && o.stage != .held)
  | .pipe i => !(s.ops.any fun o => o.pipe == some i.val && o.stage != .held)
  | .legacy => !(s.ops.any fun o => needsLegacy o.desc && (laneOf o).isSome && o.stage != .held)
  | .rng => !(s.ops.any fun o => dOpcode o.desc == 0x30) && s.rng.stalls.isEmpty
  | .card => !s.card.result.busy
  | .rf => !s.rf.result.busy
  | .core c => (mget {} s.mpus c.val).buf.isEmpty && !rngStalled s c.val
  | _ => true

/-- What ends with a drain. -/
def afterDrain (u : UnitId) (s : State) : State :=
  match u with
  | .card => modCard Card.deactivate s
  | .rf => modRf Rf.off s
  | .rng => dropDrbg s
  | _ => s

/-- UNIT_DRAIN_COMPLETE (R24, R26). -/
def execUnitDrainComplete (u : UnitId) (s : State) : Host.Outcome State Fault Refusal :=
  let st := unitSt s u
  .next (if !unitClock s u || !(st == .draining || st == .enablePending) then s
  else match u with
    | .dom d => domDrained d.val s
    | .queue d q => queueDrained d.val q.val s
    | .core c => if unitIdle s u then coreMove c.val .drained s else s
    | _ => if unitIdle s u then moveUnit u (drainStep s u) 1 (afterDrain u s) else s)

/-! ## Every core stopped (R417) -/

/-- ALL_LOCKED: no core has been ON, STARTING or DRAINING for 1 ms. (Log entry 16: DEDUCED.) -/
def execAllLocked (s : State) : Host.Outcome State Fault Refusal :=
  let runs (c : Nat) : Bool := let st := (coreUnit s c).st; st == .on || st == .starting || st == .draining
  .next (if !kprRuns s || (List.range 4).any runs then s
  else
    let s1 := recCluster 5 3 0x20 { s with keeper := { s.keeper with allLocked := true } }
    let s2 := coreMove 0 .reset (coreMove 0 (.enWrite true) s1)
    logExempt (hwEntry 0x08 5 3 (placeTile 0 5 15 5)) s2)

end Sys2Proof.Machine
end

