-- ==== Sys2Proof/Machine/Ints.lean ====
section
/-! DEFINITION. The interrupt controllers (19 of spec/): sources, pending, taking and EOI. -/
namespace Sys2Proof.Machine

/-! ## Sources (R467 to R472) -/

/-- Some of the units `n`, `n + 1`, … (`len` of them) is FAULTED. -/
def anyFaulted (u : Nat → UnitRec) (n len : Nat) : Bool :=
  (List.range len).any fun i => (u (n + i)).st == .faulted

/-- The input of a level source at a core (R468, R470). -/
def levelIn (s : State) (c src : Nat) : Bool :=
  let i := getInt s c
  let k := getCore s c
  if src = 16 then i.tickLatch
  else if src < 20 then 17 ≤ src && (mget none k.slots (src - 17)).isSome
  else if src = 20 then s.flash.done
  else if src = 21 then s.card.events != 0
  else if src = 22 then s.card.result.done
  else if src = 23 then s.rf.result.done || nbit s.rf.events 0 || nbit s.rf.events 3
  else if src = 24 then nbit s.rf.events 4
  else if src = 25 then nbit s.rf.events 1 || nbit s.rf.events 2
  else if src = 26 then s.recorders.dropNew != 0
  else if src = 27 then s.health.new
  else if src < 32 then (getPort s (src - 28)).events != 0
  else if src < 36 then anyFaulted (laneUnit s) (4 * (src - 32)) 4
  else if src < 40 then
    anyFaulted (pairUnit s) (3 * (src - 36)) 3 || (src == 39 && unitSt s .legacy == .faulted)
  else 64 ≤ src && nbit i.soft (src - 64)

/-- The count of a counted source. -/
def countOf (i : IntCtl) (src : Nat) : Nat := (mget {} i.counts src).count

/-- The source belongs to a unit that the part lacks (R5, R6). -/
def absentSrc (p : Part) (src : Nat) : Bool :=
  (23 ≤ src && src < 26 && !contactlessPresent p) || (28 ≤ src && src < 32 && !portOnPart p (src - 28)) ||
    (32 ≤ src && src < 36 && !cipherTilePresent p (src - 32)) || (36 ≤ src && src < 40 && !pkTilePresent p (src - 36))

/-- The source is pending (R469, R470); a source of an absent unit never is (R5). -/
def pendingSrc (s : State) (c src : Nat) : Bool :=
  !absentSrc s.part src && !nbit (getInt s c).active src &&
    (if src < 16 then countOf (getInt s c) src != 0 else levelIn s c src)

/-- The lowest-numbered source that is enabled and pending (R473). -/
def nextSrc (s : State) (c : Nat) : Option Nat :=
  (List.range 128).find? fun n => nbit (getInt s c).en n && pendingSrc s c n

/-- The source that the core takes at an instruction boundary (R452). -/
def takeable (s : State) (c : Nat) : Option Nat :=
  let k := getCore s c
  if k.sb || !k.main.ie then none else nextSrc s c

/-! ## Counts, EOI and latches (R469, R472, R474, R478) -/

/-- An event crosses: the count, or OVF at 255. -/
def countSrc (x : CountedSrc) : CountedSrc := if x.count = 255 then { x with ovf := true } else { x with count := x.count + 1 }

/-- COUNTED_EVENT (R57, R469): one event of the source that has not yet reached the core. -/
def execCountedEvent (c : Fin 4) (src : Fin 16) (s : State) : Host.Outcome State Fault Refusal :=
  let i := getInt s c.val
  .next (whenRuns kprRuns (fun s => if mget 0 i.crossing src.val = 0 then s
    else setInt c.val { i with
      crossing := mmod 0 i.crossing src.val (· - 1), counts := mmod {} i.counts src.val countSrc } s) s)

/-- The end of an active source (R474). -/
def eoiOf (src : Nat) (i : IntCtl) : IntCtl :=
  if !nbit i.active src then { i with eoiErr := true }
  else
    { i with
      active := clrBit i.active src
      counts := if src < 16 then mmod {} i.counts src (fun x => { x with count := x.count - 1 }) else i.counts
      tickLatch := i.tickLatch && src != 16
      soft := if 64 ≤ src then clrBit i.soft (src - 64) else i.soft }

/-- EOI (R474). -/
def execEoi (c : Fin 4) (src : Fin 128) (s : State) : Host.Outcome State Fault Refusal :=
  .next (whenRuns kprRuns (fun s => modInt c.val (eoiOf src.val) s) s)

/-- A write to INT_CLR (R478). -/
def clrOf (src : Nat) (i : IntCtl) : IntCtl :=
  if src < 16 then { i with active := clrBit i.active src, counts := mset {} i.counts src {} }
  else if 64 ≤ src then { i with active := clrBit i.active src, soft := clrBit i.soft (src - 64) }
  else i

/-- INT_CLR (R478). -/
def execIntClr (c : Fin 4) (src : Fin 128) (s : State) : Host.Outcome State Fault Refusal :=
  .next (whenRuns kprRuns (fun s => modInt c.val (clrOf src.val) s) s)

/-- The latch of a software source at a target core (R472). -/
def swiAt (target src : Nat) (s : State) : State :=
  if src < 64 then s else modInt target (fun i => { i with soft := setBit i.soft (src - 64) }) s

/-- INT_SWI (R472). -/
def execIntSwi (target : Fin 4) (src : Fin 128) (s : State) : Host.Outcome State Fault Refusal :=
  .next (whenRuns kprRuns (fun s => swiAt target.val src.val s) s)

end Sys2Proof.Machine
end

