-- ==== Sys2Proof/Machine/KMem.lean ====
section
/-! DEFINITION. The keeper address space (16 and 19 of spec/): the map, the memory protection unit, and loads and stores of
memory. -/
namespace Sys2Proof.Machine

/-! ## Faults of an instruction (R458) -/

/-- A synchronous exception: CODE, INFO, and the address of ADDR_FAULT where it holds one. -/
structure Exc where
  code : Nat
  info : Nat := 0
  addr : Option Nat := none
  deriving DecidableEq, Repr

/-- What ends an instruction early: an exception, or a read of RNG_DATA that stalls (R332). -/
inductive Stop where
  | exc (e : Exc)
  | stall
  deriving DecidableEq, Repr

def tagStop (t : Tag) (a : Option Nat := none) : Stop := .exc ⟨3, t.num, a⟩
def undefStop : Stop := .exc ⟨4, 0, none⟩
def privStop (n : Nat := 0) : Stop := .exc ⟨5, n, none⟩
def gateStop (g : Nat) : Stop := .exc ⟨6, g, none⟩
def busStop (a : Nat) : Stop := .exc ⟨7, 0, some a⟩
def mpuStop (r a : Nat) : Stop := .exc ⟨8, r, some a⟩
def mpuOffStop (a : Nat) : Stop := .exc ⟨9, 0, some a⟩

/-- A check: nothing, or the fault where it fails. -/
def need (ok : Bool) (e : Stop) : Except Stop Unit := if ok then .ok () else .error e

/-! ## The map (R396, R399) -/

/-- Where an address lies: words of local and shared SRAM, bytes of the flash window, words of the ROM, bytes of the
register blocks, and words of the core's DRAM window. -/
inductive Loc where
  | own (w : Nat)
  | shared (w : Nat)
  | flash (off : Nat)
  | rom (w : Nat)
  | reg (off : Nat)
  | dram (w : Nat)
  deriving DecidableEq, Repr

def locate (a : Nat) : Option Loc :=
  if a < 0x40000 then some (.own (a / 4))
  else if a < 0x10000000 then none
  else if a < 0x10400000 then some (.shared ((a - 0x10000000) / 4))
  else if a < 0x20000000 then none
  else if a < 0x28000000 then some (.flash (a - 0x20000000))
  else if a < 0x30000000 then none
  else if a < 0x30010000 then some (.rom ((a - 0x30000000) / 4))
  else if a < 0x40000000 then none
  else if a < 0x40160000 then some (.reg (a - 0x40000000))
  else if a < 0x80000000 then none
  else if a < 0xC0000000 then some (.dram ((a - 0x80000000) / 4))
  else none

/-- The address is one of local or shared SRAM. -/
def inSram (a : Nat) : Bool :=
  match locate a with
  | some (.own _) => true
  | some (.shared _) => true
  | _ => false

def isReg (a : Nat) : Bool := match locate a with | some (.reg _) => true | _ => false

/-! ## Memory protection (R482 to R484) -/

def getMpu (s : State) (c : Nat) : Mpu := mget {} s.mpus c
def setMpu (c : Nat) (m : Mpu) (s : State) : State := { s with mpus := mset {} s.mpus c m }
def modMpu (c : Nat) (f : Mpu → Mpu) (s : State) : State := setMpu c (f (getMpu s c)) s

/-- The region takes part and covers the byte (R482). -/
def MpuRegion.covers (r : MpuRegion) (a : Nat) : Bool :=
  nbit r.attr 0 && r.base / 256 ≤ r.limit / 256 && r.base / 256 ≤ a / 256 && a / 256 ≤ r.limit / 256

def Mpu.region (m : Mpu) (n : Nat) : MpuRegion := mget {} m.regions n

/-- The region that decides a byte. -/
def Mpu.deciding (m : Mpu) (a : Nat) : Option Nat := (List.range 16).find? fun n => (m.region n).covers a

/-- Kinds of access of R483. -/
inductive Access where
  | fetch | read | write | entry
  deriving DecidableEq, Repr

/-- The attributes permit an access from a ring (R483). -/
def permits (attr ring : Nat) (k : Access) : Bool :=
  match k with
  | .fetch => nbit attr (8 + ring) && (nbit attr 3 || nbit attr 4)
  | .read => nbit attr (8 + ring) && nbit attr 1 && !nbit attr 4
  | .write => nbit attr (8 + ring) && nbit attr 2 && !nbit attr 4
  | .entry => nbit attr 8 && nbit attr 5 && nbit attr 2

/-- The region that decides an access of one word: R482 alone. With the unit off there is none, and only ring 0 may
access (R487). -/
def mpuRegion (m : Mpu) (ring a : Nat) : Except Stop (Option Nat) :=
  if !m.en then (if ring = 0 then .ok none else .error (mpuOffStop a))
  else match m.deciding a with
    | none => .error (mpuStop 0xFF a)
    | some n => .ok (some n)

/-- R482 and R483 for an access within one 256 B block. -/
def mpuCheck (m : Mpu) (ring a : Nat) (k : Access) : Except Stop Unit := do
  match ← mpuRegion m ring a with
  | none => .ok ()
  | some n => need (permits (m.region n).attr ring k) (mpuStop n a)

/-- The attributes of the region that decides a byte, or 0. -/
def attrAt (m : Mpu) (a : Nat) : Nat := if !m.en then 0 else match m.deciding a with | some n => (m.region n).attr | none => 0

/-- A SECRET word may be stored (R402, R483): in a SECRET-capable region, or while the unit is off (R487). -/
def secretOk (m : Mpu) (a : Nat) : Bool := !m.en || nbit (attrAt m a) 6

/-- Stores to the address enter the write buffer (R485). -/
def relaxed (m : Mpu) (a : Nat) : Bool := m.en && fld (attrAt m a) 15 14 == 0 && !isReg a

/-! ## Memory words (R394, R399, R400) -/

def localOf (s : State) (c : Nat) : SMap KWord :=
  match c with | 0 => s.keeper.local0 | 1 => s.keeper.local1 | 2 => s.keeper.local2 | _ => s.keeper.local3

/-- The word of the stack that a word of the window names. -/
def dramWord (s : State) (c w : Nat) : Nat := (getCore s c).dramBase * 2 ^ 28 + w

/-- The word at a place of memory, as memory stores it. (Log entries 85, 170, 172: DESIGN CHOICE.) -/
def memWord (s : State) (c : Nat) : Loc → KWord
  | .own w => mget {} (localOf s c) w
  | .shared w => mget {} s.keeper.shared w
  | .dram w => mget {} s.keeper.dram (dramWord s c w)
  | .rom w => ⟨Config.romWord w, .int⟩
  | _ => {}

/-- A word put at a place of memory; the ROM, and the flash window (R366), discard it. (Log entry 174: DEDUCED.) -/
def putWord (c : Nat) (l : Loc) (w : KWord) (s : State) : State :=
  match l with
  | .own n => setLocal c (mset {} (localOf s c) n w) s
  | .shared n => { s with keeper := { s.keeper with shared := mset {} s.keeper.shared n w } }
  | .dram n => { s with keeper := { s.keeper with dram := mset {} s.keeper.dram (dramWord s c n) ⟨w.val, .int⟩ } }
  | _ => s

/-- An access to the stack wakes it (R65). (Log entry 177: DEDUCED.) -/
def wakeFor (l : Loc) (s : State) : State :=
  match l with
  | .dram _ => { s with clocks := { s.clocks with dramSr := false } }
  | _ => s

/-- A store by core `c` (or by none, for a debug master) ends the reservations on its granule (R440); local SRAM is
private to its core. -/
def loseResv (who : Option Nat) (a : Nat) (s : State) : State :=
  let drop (t : State) (n : Nat) : State :=
    if (getCore t n).resv = some (a / 16) && (who = some n || a ≥ 0x40000) then modCore n (fun k => { k with resv := none }) t
    else t
  (List.range 4).foldl drop s

/-- The more restrictive of two tags among INT and SECRET (R403). -/
def joinTag (a b : Tag) : Tag := if a = .err || b = .err then .err else if a = .secret || b = .secret then .secret else .int

/-- A narrow value within the old word (R403, R431). -/
def mergeWord (old : KWord) (a size : Nat) (w : KWord) : KWord :=
  if size = 4 then w
  else
    let sh := 8 * (a % 4)
    ⟨BitVec.ofNat 32 (setFld old.val.toNat (sh + 8 * size - 1) sh w.val.toNat), joinTag w.tag old.tag⟩

/-- The store reaches memory. -/
def memStore (c a size : Nat) (w : KWord) (s : State) : State :=
  match locate a with
  | none => s
  | some l => putWord c l (mergeWord (memWord s c l) a size w) (wakeFor l (loseResv (some c) a s))

/-! ## The write buffer (R485, R486) -/

/-- The oldest buffered store leaves the buffer: it is checked under R483, and a refused one is counted.
(Log entry 199: DEDUCED.) -/
def drainOne (c : Nat) (s : State) : State :=
  let m := getMpu s c
  match m.buf with
  | [] => s
  | b :: rest =>
    match mpuCheck { m with en := true } b.ring b.addr .write with
    | .ok _ => memStore c b.addr b.size ⟨BitVec.ofNat 32 b.value, (tagOf b.tag).getD .int⟩ (setMpu c { m with buf := rest } s)
    | .error _ =>
      raiseAt c 8 (setMpu c { m with
        buf := rest, impCount := satAdd 65535 m.impCount 1
        impAddr := if m.impCount = 0 then b.addr else m.impAddr
        impRing := if m.impCount = 0 then b.ring else m.impRing } s)

def drainN : Nat → Nat → State → State
  | 0, _, s => s
  | n + 1, c, s => drainN n c (drainOne c s)

/-- Every buffered store leaves. -/
def drainAll (c : Nat) (s : State) : State := drainN (getMpu s c).buf.length c s

/-- A load waits for the buffered stores to its word (R485). (Log entry 176: DEDUCED.) -/
def drainFor (c a : Nat) (s : State) : State :=
  if (getMpu s c).buf.any fun b => b.addr / 4 == a / 4 then drainAll c s else s

/-- A store enters the buffer; a full one gives up its oldest first. -/
def bufferStore (c a size : Nat) (w : KWord) (s : State) : State :=
  let s1 := if (getMpu s c).buf.length < 8 then s else drainOne c s
  modMpu c (fun m => { m with buf := m.buf ++ [⟨a, size, w.val.toNat, w.tag.num, (getCore s c).bank.ring⟩] }) s1

/-! ## Loads and stores of memory (R396, R402, R431) -/

def ringOf (s : State) (c : Nat) : Nat := (getCore s c).bank.ring

/-- The map's checks of a data access (R396): alignment, the map, and ring 0 for the ROM, which is read only.
(Log entry 173: DEDUCED.) -/
def busCheck (s : State) (c a size : Nat) (write : Bool) : Except Stop Unit :=
  need (a % size == 0 && match locate a with
    | none => false
    | some (.reg _) => size == 4
    | some (.rom _) => !write && ringOf s c == 0
    | _ => true) (busStop a)

/-- A load's word from memory, with the tag that its region gives (R369, R399), and what the read does. A word of a DRAM
line that fails its check reads as one with an uncorrectable error does (R400). (Log entry 216: DEDUCED.) -/
def readWord (c a : Nat) (s : State) : Except Stop (KWord × State) :=
  match locate a with
  | none => .error (busStop a)
  | some (.flash off) =>
    if off / 16384 < 2048 && xoSector s.flash (off / 16384) then .error (mpuStop 0xFE a)
    else .ok (windowRead off .clean s)
  | some (.dram n) =>
    let w := memWord s c (.dram n)
    if w.tag == .err then .ok (w, recordDram 2 1 1 (wakeFor (.dram n) s)) else
    .ok (if nbit (attrAt (getMpu s c) a) 6 then { w with tag := .secret } else w, wakeFor (.dram n) s)
  | some l => .ok (memWord s c l, s)

/-- A word that may be loaded or stored in part (R402, R431). -/
def narrowTag (t : Tag) (load : Bool) : Bool := t == .int || t == .secret || (load && t == .err)

/-- The part of a word that a narrow load returns. -/
def partOf (w : KWord) (a size : Nat) : KWord :=
  if size = 4 then w
  else ⟨BitVec.ofNat 32 (fld w.val.toNat (8 * (a % 4) + 8 * size - 1) (8 * (a % 4))), w.tag⟩

/-- A load of memory. -/
def memLoad (c a size : Nat) (s : State) : Except Stop (KWord × State) := do
  busCheck s c a size false
  mpuCheck (getMpu s c) (ringOf s c) a .read
  let (w, t) ← readWord c a (drainFor c a s)
  need (size == 4 || narrowTag w.tag true) (tagStop w.tag (some a))
  return (partOf w a size, t)

/-- The tag checks of a store (R399, R402): of the word, of a narrow store's target, and SECRET's region.
(Log entry 175: DEDUCED.) -/
def storeTags (s : State) (c a size : Nat) (w : KWord) : Except Stop Unit := do
  let old := match locate a with | some l => memWord s c l | none => {}
  need (size == 4 || narrowTag w.tag false) (tagStop w.tag (some a))
  need (size == 4 || narrowTag old.tag false) (tagStop old.tag (some a))
  need (match locate a with | some (.dram _) => w.tag == .int || w.tag == .secret | _ => true) (tagStop w.tag (some a))
  need (w.tag != .secret || secretOk (getMpu s c) a) (tagStop w.tag (some a))

/-- A store to memory: into the buffer where the region is relaxed, at once elsewhere. -/
def memPut (c a size : Nat) (w : KWord) (s : State) : Except Stop State := do
  let s1 := if size = 4 then s else drainFor c a s
  storeTags s1 c a size w
  busCheck s c a size true
  if relaxed (getMpu s c) a then
    let _ ← mpuRegion (getMpu s c) (ringOf s c) a
    return bufferStore c a size w s1
  else
    mpuCheck (getMpu s c) (ringOf s c) a .write
    return memStore c a size w (drainFor c a s1)

/-! ## Instruction fetch (R369, R396, R402, R453) -/

/-- The tag under which a fetch returns a word. -/
def fetchTag (s : State) (c a : Nat) : Tag :=
  match locate a with
  | some (.own w) => (memWord s c (.own w)).tag
  | some (.shared w) => (memWord s c (.shared w)).tag
  | some (.flash off) => if off / 16384 < 2048 then .code else .err
  | _ => .code

/-- A place that instructions are fetched from. -/
def fetchable (a : Nat) : Bool :=
  match locate a with
  | some (.reg _) => false
  | some (.dram _) => false
  | some _ => a % 4 == 0
  | none => false

/-- The fetch of one word. -/
def fetchWord (s : State) (c a : Nat) : Except Stop Unit := do
  need (fetchable a) (busStop a)
  mpuCheck (getMpu s c) (ringOf s c) a .fetch
  need (fetchTag s c a == .code) (tagStop (fetchTag s c a) (some a))

/-- The fetch of `n` words from an address on. -/
def fetchWords (s : State) (c : Nat) : Nat → Nat → Except Stop Unit
  | 0, _ => .ok ()
  | n + 1, a => do
    fetchWord s c (a % 2 ^ 32)
    fetchWords s c n (a + 4)

end Sys2Proof.Machine
end

