-- ==== Sys2Proof/Machine/RegRead.lean ====
section
/-! DEFINITION. What the registers read: the keeper's register blocks (R397) and a function's BAR0 (R81), field by field as
their chapters lay them out. -/
namespace Sys2Proof.Machine

/-- A register's value: its fields, the bits that are RSV and so read as undefined (R10), and whether it is 8 B wide. -/
structure RegVal where
  val : Nat
  rsv : Nat := 0
  wide : Bool := false
  deriving DecidableEq, Repr

/-- Bits `hi` down to `lo`. -/
def msk (hi lo : Nat) : Nat := 2 ^ (hi + 1) - 2 ^ lo

/-- A 4 B register whose bits from `top` up are RSV. -/
def reg4 (v : Nat) (top : Nat := 32) : RegVal := ⟨v % 2 ^ 32, msk 31 top, false⟩

/-- An 8 B register whose bits from `top` up are RSV. -/
def reg8 (v : Nat) (top : Nat := 64) : RegVal := ⟨v % 2 ^ 64, msk 63 top, true⟩

/-- RSV bits between fields. -/
def RegVal.gap (hi lo : Nat) (r : RegVal) : RegVal := { r with rsv := r.rsv + msk hi lo }

/-- The number whose bit i is `f i`. -/
def bitsNat (n : Nat) (f : Nat → Bool) : Nat := (List.range n).foldl (fun a i => if f i then a + 2 ^ i else a) 0

/-- A unit control word and a unit status word (R22, R23). -/
def ctrlReg (r : UnitRec) : RegVal := reg4 (b2n r.en) 3
def statusReg (r : UnitRec) : RegVal := (reg4 (unitStatusWord r)).gap 7 4

/-! ## The keeper cluster: MGC_, INT_, MPU_ -/

/-- Slot of core `m` that core `c` sends to (R418). -/
def slotOf (c m : Nat) : Nat := (c + 7 - m) % 4

def slotFull (s : State) (m k : Nat) : Bool := (mget none (getCore s m).slots k).isSome

/-- MGC_CORE_INFO_n (R420). -/
def coreInfo (s : State) (n : Nat) : Nat :=
  let k := getCore s n
  b2n k.profileM + shl (b2n k.waiting) 1 + shl (b2n k.sb) 2 + shl k.bank.ring 3

def mgcReg (s : State) (c r : Nat) : Option RegVal :=
  if r < 0x40 then
    let n := r / 16
    match r % 16 with
    | 0 => some (ctrlReg (coreUnit s n))
    | 4 => some (statusReg (coreUnit s n))
    | 8 => some (reg4 (coreInfo s n) 5)
    | _ => some (reg4 ((getCore s n).dramBase + shl (b2n (getCore s n).baseRefused) 4) 5)
  else if r = 0x40 then
    some (reg4 (bitsNat 4 (fun n => (coreUnit s n).st == .on) + shl (b2n (lockupPin s)) 4 + shl (b2n s.keeper.allLocked) 5) 6)
  else if 0x100 ≤ r && r < 0x110 then some (reg4 0)
  else if r = 0x120 then
    some ((reg4 (bitsNat 3 (slotFull s c) +
      shl (bitsNat 4 fun m => m != c && slotFull s m (slotOf c m)) 4 + shl (getCore s c).txDrop 8) 12).gap 3 3)
  else none

/-- Word `w` of a 128-bit mask. -/
def word128 (n w : Nat) : Nat := fld n (32 * w + 31) (32 * w)

def intReg (s : State) (c r : Nat) : Option RegVal :=
  let i := getInt s c
  if r < 0x10 then some (reg4 (word128 i.en (r / 4)))
  else if r < 0x20 then some (reg4 (bitsNat 32 fun b => pendingSrc s c (32 * (r / 4 - 4) + b)))
  else if r < 0x30 then some (reg4 (word128 i.active (r / 4 - 8)))
  else if r = 0x30 then some (reg4 0 7)
  else if r = 0x34 then some (reg4 0 7)
  else if r = 0x38 then some ((reg4 0 10).gap 7 7)
  else if r = 0x3C then
    let n := nextSrc s c
    some (reg4 (n.getD 0 + shl (b2n n.isSome) 7 + shl (b2n i.eoiErr) 8 +
      shl (b2n ((List.range 16).any fun n => (mget {} i.counts n).ovf)) 9) 10)
  else if r < 0x80 then
    let x := mget {} i.counts ((r - 0x40) / 4)
    some (reg4 (x.count + shl (b2n x.ovf) 8) 9)
  else if r = 0x80 then some ((reg4 (b2n i.tickLatch + shl i.missed 16)).gap 15 1)
  else none

def mpuReg (s : State) (c r : Nat) : Option RegVal :=
  let m := getMpu s c
  if r = 0 then some (reg4 (b2n m.en) 1)
  else if r = 4 then some (reg4 (b2n m.draining + shl (b2n m.wrRefused) 1 + shl m.buf.length 2) 6)
  else if r = 8 then some (reg4 m.impAddr)
  else if r = 12 then some ((reg4 (m.impCount + shl m.impRing 16)).gap 30 18)
  else if 0x100 ≤ r && r < 0x200 then
    let x := m.region ((r - 0x100) / 16)
    match r % 16 with
    | 0 => some ((reg4 x.base).gap 7 0)
    | 4 => some ((reg4 x.limit).gap 7 0)
    | 8 => some ((reg4 x.attr 16).gap 7 7)
    | _ => none
  else none

/-! ## Host ports, queue engine, moorings -/

/-- Log entry 229: DESIGN CHOICE. -/
def hptReg (s : State) (r : Nat) : Option RegVal :=
  if r < 0x100 then
    let n := r / 0x40
    let p := getPort s n
    match r % 0x40 with
    | 0 => some ((reg4 (b2n p.linkUp + shl p.rate 1 + shl p.width 4 + shl (b2n p.flit) 9 + shl (b2n p.perst) 10 +
        shl (b2n (portPresent s n)) 11 + shl p.lossCount 16)).gap 15 12)
    | 4 => some (reg4 p.events 7)
    | _ => none
  else if r = 0x100 then some (reg4 s.strap 8)
  else none

/-- QE_POLICY_CTRL and QE_POLICY_STATUS, whose offsets the spec does not give. PRESUMED: 0x0000 and 0x0004.
(Log entry 179: PRESUMED.) -/
def qeReg (s : State) (r : Nat) : Option RegVal :=
  if r = 0 then some (reg4 0 1)
  else if r = 4 then
    some ((reg4 (s.policy.active + shl (b2n (commitBusy s)) 1 + shl (b2n s.policy.dropped) 2 + shl (oldInflight s) 4 +
      shl (s.policy.epoch % 32768) 17)).gap 3 3)
  else none

def sesReg (s : State) (r : Nat) : Option RegVal :=
  let sn := s.snap
  match r with
  | 0x00 => some (reg4 (mooringCount s.part - sn.taken) 23)
  | 0x04 => some (reg4 sn.retired 23)
  | 0x08 => some (reg4 (min 65535 sn.poisoned + shl (min 65535 sn.quarantined) 16))
  | 0x0C => some (reg4 s.moor.lastPoison 26)
  | 0x10 => some (reg8 (sn.hits % 2 ^ 48) 48)
  | 0x18 => some (reg8 (sn.misses % 2 ^ 48) 48)
  | 0x20 => some (reg8 (sn.setHolds % 2 ^ 48) 48)
  | 0x28 => some (reg8 (sn.eccCorr % 2 ^ 48) 48)
  | 0x40 => some (ctrlReg (getUnit s .mooring))
  | 0x44 => some (statusReg (getUnit s .mooring))
  | _ => none

/-! ## The engines -/

def clnReg (s : State) (r : Nat) : Option RegVal :=
  if r < 0x100 then
    let n := r / 16
    let g := getMask s n
    match r % 16 with
    | 0 => some (ctrlReg (laneUnit s n))
    | 4 => some (statusReg (laneUnit s n))
    | 8 => some ((reg4 (g.seeds.length + shl (b2n g.full.isSome) 4 + shl g.reseeds 16)).gap 15 5)
    | _ => none
  else if r < 0x180 then
    if r % 8 = 0 then some (reg8 ((mget {} s.snap.lanes ((r - 0x100) / 8)).blocks % 2 ^ 48) 48) else none
  else if r = 0x180 then
    some (reg4 (bitsNat 16 (fun n => (laneUnit s n).st == .on) +
      shl (bitsNat 16 fun n => (laneUnit s n).st == .faulted) 16))
  else none

/-- Unit `u` of the HSH_ block: a pipe, or the legacy unit as unit 8 (R268, R269). (Log entry 196: DEDUCED.) -/
def hshUnit (s : State) (u : Nat) : UnitRec := if u = 8 then getUnit s .legacy else pipeUnit s u

def hshCtx (s : State) (u : Nat) : Nat :=
  if u = 8 then
    shl (b2n (s.ops.any fun o => needsLegacy o.desc && o.stage == .running)) 3 + shl (getMask s 16).seeds.length 8
  else
    let l := pipeOps s u
    (l.filter fun o => (pairOf o).isSome).length + shl (l.filter fun o => (pairOf o).isNone).length 3

def hshReg (s : State) (r : Nat) : Option RegVal :=
  if r < 0x90 then
    let u := r / 16
    match r % 16 with
    | 0 => some (ctrlReg (hshUnit s u))
    | 4 => some (statusReg (hshUnit s u))
    | 8 => some ((reg4 (hshCtx s u) 12).gap 7 6)
    | _ => none
  else if 0x100 ≤ r && r < 0x148 && r % 8 = 0 then
    let u := (r - 0x100) / 8
    some (reg8 ((if u = 8 then s.snap.legacy.blocks else (mget {} s.snap.pipes u).blocks) % 2 ^ 48) 48)
  else none

/-- The activity of an engine of a pair (R296); an early ending shows both as SCRUBBING (R291). -/
def engineState (s : State) (p e : Nat) : Nat :=
  match (pairOps s p).find? fun o => o.stage == .scrubbing || o.eng == e || o.eng == 2 with
  | some _ => if pairScrubbing s p then 2 else 1
  | none => if (pairUnit s p).st = .starting then 3 else 0

def pkeReg (s : State) (r : Nat) : Option RegVal :=
  if r < 0xC0 then
    let n := r / 16
    let p := getPair s n
    match r % 16 with
    | 0 => some (ctrlReg (pairUnit s n))
    | 4 => some (statusReg (pairUnit s n))
    | 8 => some (((reg4 (engineState s n 0 + shl (engineState s n 1) 3 + shl p.rand.length 8 +
        shl (min 255 p.compareFails) 16 + shl (min 255 p.validityFails) 24)).gap 7 6).gap 15 14)
    | _ => none
  else if 0x100 ≤ r && r < 0x160 && r % 8 = 0 then
    some (reg8 ((mget {} s.snap.pairs ((r - 0x100) / 8)).ops % 2 ^ 48) 48)
  else if r = 0x180 then
    some (((reg4 (bitsNat 12 (fun n => (pairUnit s n).st == .on) +
      shl (bitsNat 12 fun n => (pairUnit s n).st == .faulted) 16)).gap 15 12).gap 31 28)
  else if r = 0x190 then
    let x := s.curveRegs
    some (reg4 (x.slot + shl x.copy 6 + shl (b2n x.refused) 7 + shl x.index 8) 16)
  else if r = 0x194 then some (reg4 0)
  else if r = 0x198 then some (reg8 (bitsNat 64 fun i => (curveSel (activeBank s) i).copy == 1))
  else none

def rngReg (s : State) (r : Nat) : Option RegVal :=
  let x := s.rng
  match r with
  | 0x00 => some (ctrlReg (getUnit s .rng))
  | 0x04 => some (statusReg (getUnit s .rng))
  | 0x0C => some (((reg4 (healthyPairs s + shl (b2n x.seed.isSome) 7 +
      shl (bitsNat 4 fun c => rngStalled s c) 8 +
      shl (s.ops.filter fun o => dOpcode o.desc == 0x30).length 16)).gap 15 12).gap 31 29)
  | 0x10 => some (reg8 (healthyMask s))
  | 0x18 => some (reg8 (x.rct + shl x.apt 16 + shl x.readmits 32) 48)
  | 0x20 => some (reg8 (s.snap.rng.reseeds % 2 ^ 48) 48)
  | 0x28 => some (reg8 (s.snap.rng.bytes % 2 ^ 48) 48)
  | _ => none

/-! ## Key store and flash -/

def kstReg (s : State) (r : Nat) : Option RegVal :=
  let k := s.keys
  match r with
  | 0 => some (reg4 ((if k.scanned then keysActive s else 0) + shl (b2n (recordBlock s != 0)) 17 +
      shl (b2n (flashStage s == 5)) 18 + shl (b2n k.approval.isSome) 19 +
      shl (match k.approval with | some a => a.who.length | none => 0) 20) 25)
  | 4 => some (reg4 ((k.slots.filter fun e => e.2.st == .active && e.2.imaged).length + shl (b2n k.building) 17) 18)
  | 8 => some (reg4 (keysDamaged s) 17)
  | _ => none

/-- FLC_STATUS (R388). -/
def flcStatus (s : State) : Nat :=
  let f := s.flash
  f.seq + shl (b2n f.running.isSome) 3 + shl (b2n (suspended f)) 4 +
  shl (b2n f.done) 5 + shl (b2n f.seqErr) 6 + shl (b2n f.addrErr) 7 + shl (b2n f.progFail) 8 +
  shl (b2n f.eraseFail) 9 + shl (b2n f.blank) 10 + shl (b2n (flashStage s == 5)) 11 + shl f.marginErrs 16

def flcReg (s : State) (r : Nat) : Option RegVal :=
  let f := s.flash
  match r with
  | 0x00 => some (reg4 0)
  | 0x04 => some (reg4 0 8)
  | 0x08 => some (reg4 0 27)
  | 0x0C => some (reg4 0)
  | 0x10 => some ((reg4 (flcStatus s)).gap 15 12)
  | 0x18 => some ((((reg8 (goodCount f + shl (spareMargin f) 16 + shl (flashStage s) 26 + 
      (if f.scanned then shl (freeSectors f) 32 + shl (livePages f) 48 else 0))).gap 15 13).gap 31 29).gap 47 45)
  | 0x20 => some ((reg8 (f.frontSec + shl f.frontPage 13 + shl f.tail 32) 45).gap 31 18)
  | 0x28 => some (reg8 s.snap.wear)
  | 0x50 => some (reg4 (b2n f.xoLock) 1)
  | _ =>
    if 0x40 ≤ r && r < 0x50 then some (((reg4 (mget 0 f.xo ((r - 0x40) / 4))).gap 15 11).gap 30 27) else none

/-! ## Logbook, recorders, watch, backup domain -/

def clgReg (s : State) (r : Nat) : Option RegVal :=
  let l := s.log
  match r with
  | 0x00 => some (reg4 (b2n l.retain + shl (b2n (recordBlock s == 0 && s.flash.scanned)) 1 + shl (recordBlock s) 2 +
      shl l.staged.length 5 + shl (b2n (flashStage s == 4)) 14 + shl (b2n l.overwrote) 15 + shl (b2n l.chainBreak) 16) 17)
  | 0x08 => some (reg8 l.nextSeq)
  | 0x10 => some (reg8 (logFirst s))
  | 0x18 => some (reg8 l.ackNext)
  | 0x20 => some (reg8 (l.refused + shl l.droppedLow 16 + shl l.lost 32) 48)
  | _ => none

/-- Log entry 183: DEDUCED. -/
def evrReg (s : State) (r : Nat) : Option RegVal :=
  let e := s.recorders
  let x := getRec s (selKey s)
  match r with
  | 0x00 => some (reg4 (e.selCluster + shl e.selTile 4) 8)
  | 0x04 => some (reg4 (e.cursor + shl (b2n e.auto) 8) 9)
  | 0x08 => some (reg4 (b2n e.freeze + shl (b2n e.timeout) 1) 2)
  | 0x0C => some (reg4 ((match x.slots with | y :: _ => y.1 | [] => 0) + shl x.slots.length 8 +
      shl (b2n (recMode s e.selCluster e.selTile)) 17) 18)
  | 0x10 => some (reg4 (x.drop + shl x.frozenCnt 16))
  | 0x18 => some (reg8 e.dropNew 60)
  | _ => if 0x40 ≤ r && r < 0x80 then some (reg4 (evrWindow s ((r - 0x40) / 4))) else none

def wchReg (s : State) (r : Nat) : Option RegVal :=
  let w := s.watch
  if r < 0x4C then
    let i := r / 4
    some ((reg4 (watchResp s i + shl (watchFloor i) 2 + shl (watchDefault i) 4 + shl (b2n (nbit w.active i)) 6 +
      shl (b2n (nbit w.fused i)) 7 + shl (b2n (watchBackup i)) 8 + shl (mget 0 w.alarms i) 16)).gap 15 9)
  else if r = 0x80 then
    some ((reg4 (inForce s + shl (b2n w.restrict) 2 + shl (b2n w.lock) 3 + shl (b2n w.ceremony.isSome) 4 +
      shl (match w.ceremony with | some x => x.who.length | none => 0) 5 + shl (b2n (s.lifecycle == .factory)) 10 +
      shl w.mismatches 16)).gap 15 11)
  else if r = 0x84 then some (reg4 w.latched 19)
  else if r = 0x88 then some (reg4 0 5)
  else none

def bkdReg (s : State) (r : Nat) : Option RegVal :=
  let b := s.backup
  match r with
  | 0x00 => some (reg4 (b.vbatMv + shl (b2n b.batLow) 13 + shl (b2n b.canaryOk) 14 + shl (b2n b.zeroisedBk) 15 +
      shl b.bkSource 16) 21)
  | 0x08 => some (reg8 (b.rtcSec + shl b.rtcFrac 40) 56)
  | 0x10 => some (reg4 b.bootCount)
  | _ => none

/-! ## Health, card, reader, power, clocks, debug -/

def hltReg (s : State) (r : Nat) : Option RegVal :=
  let p := s.health.pub
  if r = 0 then
    some (((reg4 (b2n s.health.new + shl p.module 1 + shl p.cell 3 + shl s.health.days.length 8) 17).gap 7 5))
  else if 8 ≤ r && r < 0x38 then
    if r % 8 = 0 then
      let x := predOf p (r / 8 - 1)
      some (reg8 (x.days + shl x.low 16 + shl x.high 32 + shl x.state 48 + shl (min 8191 x.metric) 51))
    else none
  else if 0x40 ≤ r && r < 0x68 then
    some (reg4 ((mget 0 p.drift ((r - 0x40) / 4)) % 65536).toNat 16)
  else none

/-- CRD_RESULT and RFX_RESULT (R576, R600). -/
def resultWord (x : XferResult) : Nat :=
  b2n x.busy + shl (b2n x.done) 1 + shl x.outcome 2 + shl x.reason 5 + shl x.rxLen 9 + shl x.wtx 19 + shl x.retries 27 +
  shl (b2n x.refused) 31

/-- Word `w` of a byte buffer. -/
def bufWord (b : Bytes) (w : Nat) : Nat := leAt b (4 * w) 4

def crdReg (s : State) (r : Nat) : Option RegVal :=
  let c := s.card
  let x := c.session
  if 0x40 ≤ r && r < 0x64 then some (reg4 (bufWord c.atrRec ((r - 0x40) / 4)))
  else if 0x100 ≤ r && r < 0x300 then some (reg4 (mget 0 c.tx ((r - 0x100) / 4)).toNat)
  else if 0x300 ≤ r && r < 0x500 then some (reg4 (bufWord c.rx ((r - 0x300) / 4)))
  else match r with
    | 0x00 => some (ctrlReg (getUnit s .card))
    | 0x04 => some (statusReg (getUnit s .card))
    | 0x08 => some (reg4 (c.cfg.classes + shl (b2n c.cfg.detPol) 3 + shl c.cfg.maxClk 4 + shl c.cfg.ifsd 9 +
        shl c.cfg.maxWait 17))
    | 0x0C => some (reg4 0 15)
    | 0x10 => some (reg4 (b2n c.present + shl (b2n x.active) 1 + shl x.cls 2 + shl (b2n x.clkStopped) 4 +
        shl (b2n x.crc) 5 + shl x.ifsc 6 + shl x.fi 14 + shl x.di 18 + shl x.clkMhz 22) 27)
    | 0x14 => some (reg4 (resultWord c.result))
    | 0x18 => some ((reg4 (c.events + shl c.shortCount 16)).gap 15 3)
    | _ => none

/-- Daymark is mute (R581). -/
def dayMute (s : State) : Bool := s.rf.drive || s.rf.antBad

def rfxReg (s : State) (r : Nat) : Option RegVal :=
  let f := s.rf
  let d := s.daymark
  if 0x40 ≤ r && r < 0x4C then some (reg4 (bufWord f.uid ((r - 0x40) / 4)))
  else if 0x100 ≤ r && r < 0x300 then some (reg4 (mget 0 f.tx ((r - 0x100) / 4)).toNat)
  else if 0x300 ≤ r && r < 0x500 then some (reg4 (bufWord f.rx ((r - 0x300) / 4)))
  else if 0x600 ≤ r && r < 0x700 then some (reg4 (mget 0 d.buf ((r - 0x600) / 4)).toNat)
  else match r with
    | 0x00 => some (ctrlReg (getUnit s .rf))
    | 0x04 => some (statusReg (getUnit s .rf))
    | 0x08 => some (reg4 (f.cfg.types + shl f.cfg.maxRate 2 + shl f.cfg.pingInt 4 + shl f.cfg.detectThr 15 +
        shl (b2n f.cfg.pingEn) 23 + shl f.cfg.maxWait 24))
    | 0x0C => some (reg4 0 15)
    | 0x10 => some (reg4 (b2n f.session.active + shl (b2n f.session.typeB) 1 + shl f.session.rateTx 2 +
        shl f.session.rateRx 4 + shl f.session.fsc 6 + shl f.session.uidLen 15) 19)
    | 0x14 => some (reg4 (resultWord f.result))
    | 0x18 => some ((reg4 (f.events + shl (b2n f.field) 16 + shl (b2n f.antBad) 17 + shl (b2n (rfHeld s)) 18) 19).gap 15 5)
    | 0x1C => some (reg4 (d.accesses % 65536 + shl d.fails 16 + shl (b2n d.locked) 20 +
        shl (b2n (!d.password.isEmpty)) 21 + shl (b2n (dayMute s)) 22) 23)
    | 0x20 => some (reg4 0 8)
    | 0x24 => some (reg4 (b2n (pageBusy s) + shl (b2n d.pageDone) 1 + shl (b2n d.pageFail) 2) 3)
    | _ => none

/-- Log entry 228: DESIGN CHOICE. -/
def pwrReg (s : State) (r : Nat) : Option RegVal :=
  let p := s.power
  match r with
  | 0x00 => some (reg4 (p.band + shl (b2n p.vinLow) 3 + shl (b2n p.ovWarn) 4 + shl (b2n p.clampActive) 5 +
      shl (b2n p.throttle) 6 + shl (b2n p.stretch) 7 + shl (lanesAllowed s) 8 + shl (pairsAllowed s) 13 +
      shl (b2n p.holdupLow) 17 + shl p.clampMs 18) 25)
  | 0x04 => some (reg4 ((p.vinMv % 65536).toNat + shl p.iinMa 16))
  | 0x08 => some (reg4 (p.capUf + shl p.vhuMv 16))
  | 0x0C => some (reg4 ((p.tj16 % 65536).toNat + shl p.hotCluster 16) 20)
  | 0x10 => some ((reg4 (s.pwrEvents.bits + shl s.pwrEvents.surge 16)).gap 15 6)
  | _ => none

/-- The clock of a tile runs while one of its units is out of OFF (R64). (Log entry 197: DEDUCED.) -/
def tileClock (s : State) (u : Nat → UnitRec) (n len : Nat) : Bool :=
  s.clocks.pllDp && (List.range len).any fun i => (u (n + i)).st != .off

def clkReg (s : State) (r : Nat) : Option RegVal :=
  let c := s.clocks
  match r with
  | 0 => some (((reg4 (b2n c.xtal25 + shl (b2n c.xtal32k) 1 + shl (b2n c.xtal27m) 2 + shl (b2n c.pllDp) 3 +
      shl (b2n c.pllDram) 4 + shl (b2n c.pllKpr) 5 + shl c.portClk 6 + shl (b2n s.backup.rtcValid) 10 +
      shl (bitsNat 4 fun t => tileClock s (laneUnit s) (4 * t) 4) 16 +
      shl (bitsNat 4 fun t => tileClock s (pairUnit s) (3 * t) 3) 20 +
      shl (bitsNat 4 fun k => (getCore s k).waiting) 24 + shl (b2n c.dramSr) 28 + shl (b2n c.rfOsc) 29)).gap 15 11).gap 31 30)
  | 4 => some (reg4 c.resetCause 13)
  | _ => none

/-- The PERMS bits that debug has (R623). -/
def debugPerms (s : State) : Nat :=
  if s.lifecycle = .factory then 7 else match s.tap.cert with | some x => x.perms | none => 0

/-- Core `n` is stopped by DBG_HALT (R625). -/
def haltedCore (s : State) (n : Nat) : Bool := nbit s.tap.halt n && (coreUnit s n).st == .on

def dbgReg (s : State) (r : Nat) : Option RegVal :=
  match r with
  | 0 => some ((reg4 (b2n s.tap.attached + shl (b2n s.tap.cert.isSome) 1 + shl (debugPerms s) 2 +
      shl s.tap.drops 16)).gap 15 5)
  | 4 => some (((reg4 (s.boot.cause + shl s.boot.bank 3 + shl s.boot.svnFloor 8 + shl (s.boot.seq % 65536) 16)).gap 7 4).gap 15 15)
  | 8 => some (reg4 (s.tap.halt + shl (bitsNat 4 (haltedCore s)) 4) 12)
  | _ => none

/-! ## The blocks of R397 -/

/-- The offset from 0x4000_0000 lies in the registers of a unit that the part lacks (R5, R6): a port's, a lane's, a pair's,
or those of the contactless front end and Daymark. -/
def absentReg (p : Part) (off : Nat) : Bool :=
  let r := off % 65536
  match off / 65536 with
  | 3 => r < 0x100 && !portOnPart p (r / 0x40)
  | 6 => (r < 0x100 && !cipherTilePresent p (r / 0x40)) ||
      (0x100 ≤ r && r < 0x180 && !cipherTilePresent p ((r - 0x100) / 0x20))
  | 8 => (r < 0xC0 && !pkTilePresent p (r / 0x30)) || (0x100 ≤ r && r < 0x160 && !pkTilePresent p ((r - 0x100) / 0x18))
  | 18 => !contactlessPresent p
  | _ => false

/-- The register at an offset from 0x4000_0000 of a part that has every unit; none at a reserved offset. -/
def blockReg (s : State) (c off : Nat) : Option RegVal :=
  let r := off % 65536
  match off / 65536 with
  | 0 => mgcReg s c r
  | 1 => intReg s c r
  | 2 => mpuReg s c r
  | 3 => hptReg s r
  | 4 => qeReg s r
  | 5 => sesReg s r
  | 6 => clnReg s r
  | 7 => hshReg s r
  | 8 => pkeReg s r
  | 9 => rngReg s r
  | 10 => kstReg s r
  | 11 => flcReg s r
  | 12 => clgReg s r
  | 13 => evrReg s r
  | 14 => wchReg s r
  | 15 => bkdReg s r
  | 16 => hltReg s r
  | 17 => crdReg s r
  | 18 => rfxReg s r
  | 19 => pwrReg s r
  | 20 => clkReg s r
  | 21 => dbgReg s r
  | _ => none

/-- The register at an offset from 0x4000_0000, as core `c` sees it; none at a reserved offset. A register of an absent unit
reads as zero (R5). Reads of RNG_DATA and of MGC_MB_RECV_k, which change state, are not among them. -/
def keeperReg (s : State) (c off : Nat) : Option RegVal :=
  if absentReg s.part off then
    some ⟨0, 0, match blockReg s c off with | some v => v.wide | none => false⟩
  else blockReg s c off

/-! ## BAR0 of a function (R81, R84 to R88, R111 to R117, R154 to R164) -/

/-- The queue's registers at an offset of its 64 bytes (R154). -/
def queueReg (s : State) (d q r : Nat) : Option RegVal :=
  let x := getQueue s d q
  match r with
  | 0x00 => some (ctrlReg (getQueueUnit s d q))
  | 0x04 => some (statusReg (getQueueUnit s d q))
  | 0x08 => some ((reg8 x.sqBase).gap 11 0)
  | 0x10 => some ((reg8 x.cqBase).gap 11 0)
  | 0x18 => some ((reg8 (dbAddrOf s d q)).gap 3 0)
  | 0x20 => some ((reg4 (configWord x)).gap 13 13)
  | 0x28 => some ((reg8 (x.fetchPtr + shl x.cqTail 16 + shl (b2n x.phase) 32 + shl (effClass s d q) 33 +
      shl (queueInFlight s d q) 40 + shl x.stale 56)).gap 39 35)
  | _ => none

/-- The mean of a port's round trips (R164): of those made where there are fewer than 1,024, rounded down.
(Log entry 212: DESIGN CHOICE.) -/
def meanRtt (p : Port) : Nat := min 65535 (p.rtts.foldl (· + ·) 0 / max 1 p.rtts.length)

/-- The register at an offset of a function's BAR0; none at a reserved offset within a block. What lies outside the blocks,
and the port's beacon block in a VF, reads zero (R81). -/
def hostReg (s : State) (d r : Nat) : Option RegVal :=
  let n := domPort d
  let p := getPort s n
  let sh := getShare (activeBank s) d
  let lock := getLock s d
  if 0x2000 ≤ r || (0x400 ≤ r && r < 0x1000 && domFn d ≠ 0) then some (reg4 0)
  else if 0x1000 ≤ r && r < 0x2000 then queueReg s d ((r - 0x1000) / 0x40) (r % 0x40)
  else if 0x200 ≤ r && r < 0x240 then queueReg s d 64 (r % 0x40)
  else match r with
    | 0x000 => some (reg4 (capId s))
    | 0x004 => some ((reg4 (devState s + shl (lifecycleCode s.lifecycle) 2 + shl (b2n (isOwner s d)) 5 +
        shl (s.backup.bootCount % 65536) 16)).gap 15 6)
    | 0x008 => some (reg4 (capUnits s.part) 14)
    | 0x00C => some (reg4 (bitsNat 4 (portPresent s) + shl n 4 + shl (domFn d) 6 + shl p.negWidth 12 + shl p.rate 17 +
        shl (b2n p.flit) 20) 21)
    | 0x010 => some (reg4 (mooringCount s.part) 23)
    | 0x100 => some (ctrlReg (getDomUnit s d))
    | 0x104 => some (statusReg (getDomUnit s d))
    | 0x108 => some (reg4 (domHold s d) 4)
    | 0x110 => some (((reg4 (sh.quota + shl (inFlight s d) 16)).gap 15 13).gap 31 29)
    | 0x114 => some (reg4 (sh.weight + shl sh.reserve 8) 21)
    | 0x118 => some ((reg8 (moorAllow s d + shl (moorHeld s d) 32) 55).gap 31 23)
    | 0x120 => some ((reg8 (keyAllow s d + shl (keysHeld s d) 32) 55).gap 31 23)
    | 0x128 => some ((reg8 (b2n (getDom s d).session.isSome + shl (b2n (lockedOut s d)) 1 + shl (min 255 lock.fails) 2 +
        shl (min 131071 ((lock.left + 4095999) / 4096000)) 32) 49).gap 31 10)
    | 0x130 => some (reg8 (mget {} s.snap.domains d).done)
    | 0x138 => some (reg8 (mget {} s.snap.domains d).failed)
    | 0x240 => some ((reg8 (getFunc s d).domBeacon).gap 6 0)
    | 0x400 => some ((reg8 (beaconWord p)).gap 5 1)
    | 0x408 => some ((reg8 (min 255 (portInterval s n - 1) + shl (meanRtt p) 16 + shl p.readErr 32) 48).gap 15 8)
    | _ => none

/-- The register at an offset of a function's BAR2 (R81, R83): the MSI-X table and, from 0x2000, the PBA, as PCIe lays them
out. -/
def msixReg (s : State) (d r : Nat) : Option RegVal :=
  let f := getFunc s d
  let i := r / 16
  if r < 16 * 65 then match r % 16 with
    | 0 => some (reg8 (mget 0 f.msgAddr i))
    | 8 => some (reg4 (mget 0 f.msgData i))
    | 12 => some (reg4 (b2n (!nbit f.unmasked i)))
    | _ => none
  else if r = 0x2000 then some (reg8 f.pba)
  else if r = 0x2008 then some (reg8 (b2n (nbit f.pba 64)))
  else none

end Sys2Proof.Machine
end

