-- ==== Sys2Proof/Machine/RegWrite.lean ====
section
/-! DEFINITION. What the registers do when they are written or read: the keeper's blocks and a function's BAR0, mailboxes,
and the commands on registers that have no row of their own (04, 05, 06, 16, 19 of spec/). -/
namespace Sys2Proof.Machine

/-- The state that a command answers, where it answers one. -/
def ran (s : State) (o : Host.Outcome State Fault Refusal) : State := match o with | .next t => t | _ => s

/-- A write to a unit control word, applied in the order of R25: QUIESCE, EN, RESET. -/
def ctrlStore (u : UnitId) (v : Nat) (s : State) : State :=
  let en := nbit v 0
  if !unitPresent s u || !unitClock s u then s
  else if ctrlRefused s u en (nbit v 1) then ctrlDiscard u (v % 8) s
  else ctrlWrite u (v % 8) (!en || nbit v 1) (fun t =>
    let t1 := if nbit v 1 then unitQuiesce u t else t
    if nbit v 2 then resetWrite u en t1 else unitEn u en t1) s

/-! ## Mailboxes (R418, R423, R609) -/

/-- The ROM of a core that waits for its start word takes a CODE word and jumps to it (R609). (Log entry 184: DEDUCED.) -/
def romTake (m : Nat) (w : KWord) (s : State) : Option State :=
  let k := getCore s m
  if (coreUnit s m).st = .on && k.pc = romEntry k.profileM && !k.sb && !k.waiting && w.tag = .code && m ≠ 0 then
    some (modCore m (fun k => { k with pc := w.val }) s)
  else none

/-- Core `c` sends a word to core `m`. -/
def sendWord (c m : Nat) (w : KWord) (s : State) : State :=
  if m = c || slotFull s m (slotOf c m) then
    modCore c (fun k => { k with txDrop := setBit k.txDrop m }) s
  else match romTake m w s with
    | some t => t
    | none => modCore m (fun k => { k with slots := mset none k.slots (slotOf c m) (some w) }) s

/-- Slot `k` of core `c` read and emptied; an empty one gives ERR. -/
def receive (c k : Nat) (s : State) : KWord × State :=
  match mget none (getCore s c).slots k with
  | none => (errWord, s)
  | some w => (w, modCore c (fun x => { x with slots := mset none x.slots k none }) s)

/-- The highest DRAM window base of the part (R421). -/
def topBase (p : Part) : Nat := if p = .g0810 then 7 else 15

/-- A write to MGC_DRAM_BASE_n: the window's buffered stores finish first (R421). -/
def dramBaseStore (n v : Nat) (s : State) : State :=
  let b := fld v 3 0
  let s1 := drainAll n (modCore n (fun k => { k with baseRefused := k.baseRefused && !nbit v 4 }) s)
  if b < 4 || topBase s.part < b then modCore n (fun k => { k with baseRefused := true }) s1
  else modCore n (fun k => { k with dramBase := b }) s1

/-- MGC_DRAM_BASE_WRITE (R421). -/
def execMgcDramBaseWrite (n : Fin 4) (v : BitVec 32) (s : State) : Host.Outcome State Fault Refusal :=
  .next (whenRuns kprRuns (fun s => dramBaseStore n.val v.toNat s) s)

/-! ## The MPU's registers (R485, R487, R489, R490) -/

/-- EN 0 written: it completes with the drain. -/
def mpuOff (c : Nat) (s : State) : State := modMpu c (fun m => { m with draining := m.draining || m.en }) s

/-- MPU_DISABLE (R487). -/
def execMpuDisable (c : Fin 4) (s : State) : Host.Outcome State Fault Refusal := .next (whenRuns kprRuns (fun s =>
    mpuOff c.val s) s)

/-- MPU_DRAIN_COMPLETE (R487): each buffered store has been checked, and the unit is off. -/
def execMpuDrainComplete (c : Fin 4) (s : State) : Host.Outcome State Fault Refusal :=
  .next (whenRuns kprRuns (fun s => if (getMpu s c.val).draining then
    modMpu c.val (fun m => { m with en := false, draining := false }) (drainAll c.val s)
  else s) s)

/-- EN 1 written. -/
def mpuOn (c : Nat) (s : State) : State := modMpu c (fun m => if m.draining then m else { m with en := true }) s

/-- MPU_ENABLE (R487). -/
def execMpuEnable (c : Fin 4) (s : State) : Host.Outcome State Fault Refusal := .next (whenRuns kprRuns (fun s =>
    mpuOn c.val s) s)

/-- A write to word `w` of region `r`: 0 BASE, 1 LIMIT, 2 ATTR. -/
def regionStore (c r w v : Nat) (s : State) : State :=
  let m := getMpu s c
  let bad := m.en || (w = 2 && (fld v 15 14 == 3 || fld v 13 12 == 3))
  if bad then setMpu c { m with wrRefused := true } s
  else
    let x := m.region r
    let y : MpuRegion := match w with
      | 0 => { x with base := shl (fld v 31 8) 8 }
      | 1 => { x with limit := shl (fld v 31 8) 8 }
      | _ => { x with attr := fld v 6 0 + shl (fld v 15 8) 8 }
    setMpu c { m with regions := mset {} m.regions r y } s

/-- MPU_REGION_WRITE (R485, R487, R490). -/
def execMpuRegionWrite (c : Fin 4) (r : Fin 16) (w : Fin 3) (v : BitVec 32) (s : State) : Host.Outcome State Fault Refusal :=
  .next (whenRuns kprRuns (fun s => regionStore c.val r.val w.val v.toNat s) s)

/-- WRITE_BUFFER_DRAIN (R486). -/
def execWriteBufferDrain (c : Fin 4) (s : State) : Host.Outcome State Fault Refusal := .next (whenRuns kprRuns (fun s =>
    drainOne c.val s) s)

/-! ## Writes to the keeper's blocks -/

/-- MGC_CORE_CTRL_n (R416, R419): a core's writes to its own are discarded, and RESET takes effect from ring 0 only. -/
def coreCtrlStore (c ring n v : Nat) (s : State) : State :=
  if n = c || (nbit v 2 && ring != 0) then s else ctrlStore (coreId n) v s

/-- Log entry 180: DEDUCED. -/
def mgcStore (c ring r v : Nat) (s : State) : State :=
  if r < 0x40 then
    (if r % 16 = 0 then coreCtrlStore c ring (r / 16) v s
    else if r % 16 = 12 then dramBaseStore (r / 16) v s
    else s)
  else if r = 0x40 then { s with keeper := { s.keeper with allLocked := s.keeper.allLocked && !nbit v 5 } }
  else if r = 0x120 then modCore c (fun k => { k with txDrop := w1c k.txDrop (fld v 11 8) }) s
  else s

/-- Word `w` of a 128-bit mask replaced. -/
def setWord128 (n w v : Nat) : Nat := setFld n (32 * w + 31) (32 * w) v

def intStore (c r v : Nat) (s : State) : State :=
  if r < 0x10 then modInt c (fun i => { i with en := setWord128 i.en (r / 4) v }) s
  else if r = 0x30 then modInt c (eoiOf (fld v 6 0)) s
  else if r = 0x34 then modInt c (clrOf (fld v 6 0)) s
  else if r = 0x38 then swiAt (fld v 9 8) (fld v 6 0) s
  else if r = 0x3C then modInt c (fun i => { i with eoiErr := i.eoiErr && !nbit v 8 }) s
  else if 0x40 ≤ r && r < 0x80 then
    modInt c (fun i => { i with
      counts := mmod {} i.counts ((r - 0x40) / 4) fun x => { x with ovf := x.ovf && !nbit v 8 } }) s
  else s

def mpuStore (c r v : Nat) (s : State) : State :=
  if r = 0 then (if nbit v 0 then mpuOn c s else mpuOff c s)
  else if r = 4 then modMpu c (fun m => { m with wrRefused := m.wrRefused && !nbit v 1 }) s
  else if r = 12 then modMpu c (fun m => if nbit v 31 then { m with impCount := 0 } else m) s
  else if 0x100 ≤ r && r < 0x200 && r % 16 < 12 then regionStore c ((r - 0x100) / 16) (r % 16 / 4) v s
  else s

def hptStore (r v : Nat) (s : State) : State :=
  if r < 0x100 then
    (if r % 0x40 = 4 then modPort (r / 0x40) (fun p => { p with events := w1c p.events (fld v 6 0) }) s else s)
  else if r = 0x100 then writeStrap v s
  else s

/-- See `qeReg` for the offsets. -/
def qeStore (r v : Nat) (s : State) : State :=
  if r = 0 then (if nbit v 0 then ran s (execPolicyCommit s) else s)
  else if r = 4 then { s with policy := { s.policy with dropped := s.policy.dropped && !nbit v 2 } }
  else s

/-- The unit control word at offset 0x10 × n of a block of units. -/
def unitsStore (n r v : Nat) (u : Nat → UnitId) (s : State) : State :=
  if r < 16 * n && r % 16 = 0 then ctrlStore (u (r / 16)) v s else s

def pkeStore (r v : Nat) (s : State) : State :=
  if r = 0x190 then ran s (execPkeCurveSelWrite (BitVec.ofNat 32 v) s)
  else if r = 0x194 then ran s (execPkeCurveDataWrite (BitVec.ofNat 32 v) s)
  else unitsStore 12 r v pairId s

/-- The FLC_ block is ring 0's (R372, R446): from another ring, as from ring 0 to another register, a write only disturbs a
sequence under way. -/
def flcStore (ring r v : Nat) (s : State) : State :=
  let w := BitVec.ofNat 32 v
  if ring ≠ 0 then modFlash seqDisturb s
  else match r with
    | 0x00 => ran s (execFlcUnlockWrite w s)
    | 0x04 => ran s (execFlcCmdWrite w s)
    | 0x08 => ran s (execFlcAddrWrite w s)
    | 0x0C => ran s (execFlcDataWrite w s)
    | 0x10 => modFlash (fun f => let g := seqDisturb f; { g with
        done := g.done && !nbit v 5, seqErr := g.seqErr && !nbit v 6, addrErr := g.addrErr && !nbit v 7
        progFail := g.progFail && !nbit v 8, eraseFail := g.eraseFail && !nbit v 9 }) s
    | 0x50 => ran s (execFlcXoLockWrite w s)
    | _ =>
      if 0x40 ≤ r && r < 0x50 then modFlash (fun f => setXo ((r - 0x40) / 4) v (seqDisturb f)) s
      else modFlash seqDisturb s

def clgStore (r v : Nat) (s : State) : State :=
  if r = 0 then { s with log := { s.log with
    overwrote := s.log.overwrote && !nbit v 15, chainBreak := s.log.chainBreak && !nbit v 16 } }
  else s

def evrStore (r v : Nat) (s : State) : State :=
  let w := BitVec.ofNat 32 v
  let e := s.recorders
  match r with
  | 0x00 => ran s (execEvrSelWrite w s)
  | 0x04 => { s with recorders := { e with cursor := fld v 7 0, auto := nbit v 8 } }
  | 0x08 => ran s (execEvrFreezeWrite w s)
  | 0x18 => { s with recorders := { e with dropNew := w1c e.dropNew (v % 2 ^ 32) } }
  | 0x1C => { s with recorders := { e with dropNew := w1c e.dropNew (shl (fld v 27 0) 32) } }
  | _ => s

/-- Log entry 181: DEDUCED. -/
def wchStore (r v : Nat) (s : State) : State :=
  if r < 0x4C then ran s (execWchCfgWrite (Fin.ofNat 19 (r / 4)) (BitVec.ofNat 32 v) s)
  else if r = 0x88 then ran s (execWchFuseBlowWrite (BitVec.ofNat 32 v) false s)
  else s

/-- CRD_CMD's operations (R574). -/
def crdCmd (v : Nat) (s : State) : State :=
  match fld v 3 0 with
  | 1 => ran s (execCardActivate s)
  | 2 => ran s (execCardTransfer (Fin.ofNat 2048 (fld v 14 4)) s)
  | 3 => ran s (execCardDeactivate s)
  | 4 => ran s (execCardAbort s)
  | _ => s

/-- The W1C bits of CRD_RESULT and RFX_RESULT. -/
def resultStore (v : Nat) (x : XferResult) : XferResult :=
  { x with done := x.done && !nbit v 1, refused := x.refused && !nbit v 31 }

def crdStore (r v : Nat) (s : State) : State :=
  if 0x100 ≤ r && r < 0x300 then modCard (fun c => { c with tx := mset 0 c.tx ((r - 0x100) / 4) (BitVec.ofNat 32 v) }) s
  else match r with
    | 0x00 => ctrlStore .card v s
    | 0x08 => ran s (execCrdCfgWrite (BitVec.ofNat 32 v) s)
    | 0x0C => crdCmd v s
    | 0x14 => modCard (Card.res (resultStore v)) s
    | 0x18 => modCard (fun c => { c with events := w1c c.events (fld v 2 0) }) s
    | _ => s

/-- RFX_CMD's operations (R598). The aerial's values that CALIBRATE stores come from its ping, which the register write
does not carry: they are free values. -/
def rfxCmd (v : Nat) (s : State) : State :=
  match fld v 3 0 with
  | 1 => ran s (execRfActivate s)
  | 2 => ran s (execRfTransfer (Fin.ofNat 2048 (fld v 14 4)) s)
  | 3 => ran s (execRfDeactivate s)
  | 4 => ran s (execRfAbort s)
  | 5 =>
    let t := useFree (useFree s)
    ran t (execCalibrate (BitVec.ofNat 16 (freeNow s)) (BitVec.ofNat 16 (freeNow (useFree s))) t)
  | _ => s

/-- RFX_PAGE_CMD (R603), from rings 0 and 1. (Log entry 182: DEDUCED.) -/
def rfxPageCmd (ring v : Nat) (s : State) : State :=
  let p := Fin.ofNat 64 (fld v 5 0)
  if 2 ≤ ring then s
  else match nbit v 6, nbit v 7 with
    | true, false => ran s (execFirmwarePageWrite p s)
    | false, true => ran s (execFirmwarePageRead p s)
    | _, _ => s

def rfxStore (ring r v : Nat) (s : State) : State :=
  if !contactlessPresent s.part then s
  else if 0x100 ≤ r && r < 0x300 then modRf (fun f => { f with tx := mset 0 f.tx ((r - 0x100) / 4) (BitVec.ofNat 32 v) }) s
  else if 0x600 ≤ r && r < 0x700 then
    (if 2 ≤ ring then s else modDay (fun d => { d with buf := mset 0 d.buf ((r - 0x600) / 4) (BitVec.ofNat 32 v) }) s)
  else match r with
    | 0x00 => ctrlStore .rf v s
    | 0x08 => ran s (execRfxCfgWrite (BitVec.ofNat 32 v) s)
    | 0x0C => rfxCmd v s
    | 0x14 => modRf (Rf.res (resultStore v)) s
    | 0x18 => modRf (fun f => { f with events := w1c f.events (fld v 4 0) }) s
    | 0x20 => rfxPageCmd ring v s
    | 0x24 => modDay (fun d => { d with pageDone := d.pageDone && !nbit v 1, pageFail := d.pageFail && !nbit v 2 }) s
    | _ => s

/-- A store of core `c` in a ring to the register at an offset from 0x4000_0000: each field by its access code (R10). An
absent unit's registers discard writes (R5). -/
def keeperStore (c ring off v : Nat) (s : State) : State :=
  let r := off % 65536
  if absentReg s.part off then s
  else match off / 65536 with
  | 0 => mgcStore c ring r v s
  | 1 => intStore c r v s
  | 2 => mpuStore c r v s
  | 3 => hptStore r v s
  | 4 => qeStore r v s
  | 5 => if r = 0x40 then ctrlStore .mooring v s else s
  | 6 => unitsStore 16 r v laneId s
  | 7 => if r = 0x80 then ctrlStore .legacy v s else unitsStore 8 r v pipeId s
  | 8 => pkeStore r v s
  | 9 => if r = 0 then ctrlStore .rng v s else s
  | 11 => flcStore ring r v s
  | 12 => clgStore r v s
  | 13 => evrStore r v s
  | 14 => wchStore r v s
  | 16 => if r = 0 then modHealth (fun h => { h with new := h.new && !nbit v 0 }) s else s
  | 17 => crdStore r v s
  | 18 => rfxStore ring r v s
  | 19 => if r = 0x10 then { s with pwrEvents := { s.pwrEvents with bits := w1c s.pwrEvents.bits (fld v 5 0) } } else s
  | 20 => if r = 4 then modClocks (fun k => { k with resetCause := w1c k.resetCause (fld v 12 0) }) s else s
  | _ => s

/-! ## Register accesses of a core's instruction (R398, R402, R423) -/

/-- A register's word, with undefined RSV bits. (Log entry 178: DESIGN CHOICE.) -/
def regWord (v rsv : Nat) (s : State) : KWord × State :=
  if rsv % 2 ^ 32 = 0 then (⟨BitVec.ofNat 32 v, .int⟩, s)
  else (⟨BitVec.ofNat 32 (v + (freeNow s &&& rsv)), .int⟩, useFree s)

/-- A read of a register's 4 B word: of the low word of an 8 B register, which latches the high word; of the high word,
as latched by the same core, or as it stands where none is (R398). (Log entry 185: DEDUCED.) -/
def plainRead (c off : Nat) (s : State) : KWord × State :=
  match keeperReg s c off with
  | some v =>
    let (w, t) := regWord (v.val % 2 ^ 32) (v.rsv % 2 ^ 32) s
    (w, if v.wide then modCore c (fun k => { k with hiLatch := some (off, v.val / 2 ^ 32) }) t else t)
  | none =>
    match (if off % 8 = 4 then keeperReg s c (off - 4) else none) with
    | some v =>
      if !v.wide then regWord 0 (2 ^ 32 - 1) s
      else
        let hi := match (getCore s c).hiLatch with
          | some (a, h) => if a = off - 4 then h else v.val / 2 ^ 32
          | none => v.val / 2 ^ 32
        regWord hi (v.rsv / 2 ^ 32) (modCore c (fun k => { k with hiLatch := none }) s)
    | none => regWord 0 (2 ^ 32 - 1) s

/-- A load from the register blocks, with what the read does. -/
def regLoad (c off : Nat) (s : State) : Except Stop (KWord × State) :=
  if off = 0x90008 then
    match rngReadBy c s with
    | (some w, t) => .ok (w, t)
    | (none, _) => .error .stall
  else if 0x110 ≤ off && off < 0x11C then .ok (receive c ((off - 0x110) / 4) s)
  else if 0xD0040 ≤ off && off < 0xD0080 then
    let r := plainRead c off s
    .ok (r.1, evrAdvance ((off - 0xD0040) / 4) r.2)
  else .ok (plainRead c off s)

/-- The word goes to MGC_MB_SEND_m. -/
def isSend (off : Nat) : Bool := 0x100 ≤ off && off < 0x110

/-- A store to the register blocks takes effect. -/
def regStore (c off : Nat) (w : KWord) (s : State) : State :=
  if isSend off then sendWord c ((off - 0x100) / 4) w s else keeperStore c (ringOf s c) off w.val.toNat s

/-- A load of memory or of a register (R396, R402, R431). -/
def kLoad (c a size : Nat) (s : State) : Except Stop (KWord × State) :=
  if isReg a then do
    busCheck s c a size false
    mpuCheck (getMpu s c) (ringOf s c) a .read
    regLoad c (a - 0x40000000) s
  else memLoad c a size s

/-- A store to memory or to a register. -/
def kStore (c a size : Nat) (w : KWord) (s : State) : Except Stop State :=
  if isReg a then do
    let off := a - 0x40000000
    need (!isSend off || ringOf s c < 2) privStop
    need (isSend off || w.tag == .int || w.tag == .secret) (tagStop w.tag (some a))
    need (w.tag != .secret || secretOk (getMpu s c) a) (tagStop w.tag (some a))
    busCheck s c a size true
    mpuCheck (getMpu s c) (ringOf s c) a .write
    return regStore c off w s
  else memPut c a size w s

/-! ## A host's registers (R82, R111, R154 to R163) -/

/-- The half of an 8 B register that a 4 B write reaches. -/
def halfOf (r : Nat) : Half := if r % 8 = 0 then .lo else .hi

/-- A host's write at an offset of a queue's 64 bytes: 4 B, or the whole of an 8 B register. -/
def queueStore (d : Fin 256) (q : Fin 65) (r : Nat) (h : Half) (v : Nat) (s : State) : State :=
  let setup (f : QpSetup) : State := ran s (execQpSetupWrite d q f h v s)
  if r = 0 then ctrlStore (.queue d q) v s
  else if 0x08 ≤ r && r < 0x10 then setup .sqBase
  else if 0x10 ≤ r && r < 0x18 then setup .cqBase
  else if 0x18 ≤ r && r < 0x20 then setup .dbAddr
  else if r = 0x20 then ran s (execQpConfigWrite d q (BitVec.ofNat 32 v) s)
  else s

/-- A function answers accesses to its BARs: its port exists and it is not in D3hot (R74). -/
def barAnswers (s : State) (d : Nat) : Bool := domPresent s d && !(getFunc s d).cfg.d3hot

/-- A host's write to BAR0 of function `d`: of 4 B, or of the 8 B register at `r` where `h` is `whole`. -/
def hostPut (d : Fin 256) (r : Nat) (h : Half) (v : Nat) (s : State) : State :=
  if !barAnswers s d.val then s
  else if 0x1000 ≤ r && r < 0x2000 then queueStore d (Fin.ofNat 65 ((r - 0x1000) / 0x40)) (r % 0x40) h v s
  else if 0x200 ≤ r && r < 0x240 then queueStore d 64 (r % 0x40) h v s
  else if r = 0x100 then ctrlStore (.dom d) v s
  else if 0x240 ≤ r && r < 0x248 then ran s (execQpDomBeaconWrite d h v s)
  else if 0x400 ≤ r && r < 0x408 && domFn d.val = 0 then ran s (execPortBeaconWrite (Fin.ofNat 4 (domPort d.val)) h v s)
  else s

/-- The 8 B registers of BAR0 that a host writes (R156, R162, R163). -/
def wideAt (r : Nat) : Bool :=
  let q (x : Nat) : Bool := x == 0x08 || x == 0x10 || x == 0x18
  (decide (0x1000 ≤ r && r < 0x2000) && q (r % 0x40)) || (decide (0x200 ≤ r && r < 0x240) && q (r % 0x40)) ||
  r == 0x240 || r == 0x400

/-- A host's write to BAR0 (R82): 4 B, or 8 B with the upper word `hi`, which is one write of an 8 B register and otherwise
a write of both words. -/
def hostStore (d : Fin 256) (r v : Nat) (hi : Option Nat) (s : State) : State :=
  match hi with
  | none => if r % 4 ≠ 0 then s else hostPut d r (halfOf r) v s
  | some w =>
    if r % 8 ≠ 0 then s
    else if wideAt r then hostPut d r .whole (v + shl w 32) s
    else hostPut d (r + 4) .hi w (hostPut d r .lo v s)

/-- A host's 4 B write to BAR2 of function `d` (R81, R83): word `r % 16 / 4` of a vector's entry in the MSI-X table, as PCIe
lays it out. The PBA and what lies outside take no write. -/
def msixPut (d : Fin 256) (r v : Nat) (s : State) : State :=
  let i := r / 16
  if !barAnswers s d.val || 65 ≤ i then s
  else match r % 16 / 4 with
    | 0 => modFunc d.val (fun f => { f with msgAddr := mset 0 f.msgAddr i (setFld (mget 0 f.msgAddr i) 31 0 (v / 4 * 4)) }) s
    | 1 => modFunc d.val (fun f => { f with msgAddr := mset 0 f.msgAddr i (setFld (mget 0 f.msgAddr i) 63 32 v) }) s
    | 2 => modFunc d.val (fun f => { f with msgData := mset 0 f.msgData i v }) s
    | _ =>
      if nbit v 0 then modFunc d.val (fun f => { f with unmasked := clrBit f.unmasked i }) s
      else ran s (execMsixUnmask d (some (Fin.ofNat 65 i)) s)

/-- A host's write to BAR2 (R82): 4 B, or 8 B with the upper word `hi`. (Log entry 200: PRESUMED.) -/
def msixStore (d : Fin 256) (r v : Nat) (hi : Option Nat) (s : State) : State :=
  match hi with
  | none => if r % 4 ≠ 0 then s else msixPut d r v s
  | some w => if r % 8 ≠ 0 then s else msixPut d (r + 4) w (msixPut d r v s)

/-- The value that a host's read of BAR0 or BAR2 gives, of 4 B or 8 B at an aligned offset (R81, R82), with its undefined
bits: a register, a half of an 8 B register, two registers side by side, or reserved offsets. -/
def hostValue (reg : Nat → Option RegVal) (r : Nat) (wide : Bool) : Nat × Nat :=
  let part (o : Nat) : Nat × Nat :=
    match reg o with
    | some v => (v.val % 2 ^ 32, v.rsv % 2 ^ 32)
    | none => match (if o % 8 = 4 then reg (o - 4) else none) with
      | some v => if v.wide then (v.val / 2 ^ 32, v.rsv / 2 ^ 32) else (0, 2 ^ 32 - 1)
      | none => (0, 2 ^ 32 - 1)
  if wide then ((part r).1 + shl (part (r + 4)).1 32, (part r).2 + shl (part (r + 4)).2 32) else part r

/-- A host's read, with undefined bits taken from a free value. -/
def hostLoad (d : Nat) (reg : Nat → Option RegVal) (r : Nat) (wide : Bool) (s : State) : State :=
  if !barAnswers s d || r % (if wide then 8 else 4) ≠ 0 then s
  else
    let x := hostValue reg r wide
    if x.2 = 0 then emit (.readReply x.1) s else useFree (emit (.readReply (x.1 + (freeNow s &&& x.2))) s)

/-! ## The commands -/

/-- REGISTER_WRITE (R10): a 4 B write of a core to its blocks, or of a host to BAR0 or BAR2 of a function. -/
def execRegisterWrite (t : RegTarget) (v : BitVec 32) (s : State) : Host.Outcome State Fault Refusal :=
  .next (match t with
    | .keeper c a => if !kprRuns s || (coreUnit s c.val).st ≠ .on || a.toNat % 4 ≠ 0 || isSend a.toNat then s
        else keeperStore c.val (ringOf s c.val) a.toNat v.toNat s
    | .host d r hi => if dpRuns s && portUp s (domPort d.val) then hostStore d r.toNat v.toNat (hi.map BitVec.toNat) s else s
    | .msix d r hi => if dpRuns s && portUp s (domPort d.val) then msixStore d r.toNat v.toNat (hi.map BitVec.toNat) s else s)

/-- REGISTER_WIDE_READ (R82, R398): core `c` reads the low word of the 8 B register at an offset from 0x4000_0000, or a host
reads 4 B or 8 B of a function's BAR0 or BAR2. (Log entry 205: DESIGN CHOICE.) -/
def execRegisterWideRead (t : RegSource) (wide : Bool) (s : State) : Host.Outcome State Fault Refusal :=
  .next (match t with
    | .keeper c a =>
      match keeperReg s c.val a.toNat with
      | some v =>
        if kprRuns s && v.wide && (coreUnit s c.val).st == .on then
          let r := plainRead c.val a.toNat s
          emit (.readReply (r.1.val.toNat + shl r.1.tag.num 32)) r.2
        else s
      | none => s
    | .host d r => if dpRuns s && portUp s (domPort d.val) then hostLoad d.val (hostReg s d.val) r.toNat wide s else s
    | .msix d r => if dpRuns s && portUp s (domPort d.val) then hostLoad d.val (msixReg s d.val) r.toNat wide s else s)

/-- MAILBOX_RECEIVE (R418): core `c` reads MGC_MB_RECV_k into D`dst`. -/
def execMailboxReceive (c : Fin 4) (k : Fin 3) (dst : Fin 16) (s : State) : Host.Outcome State Fault Refusal :=
  .next (whenRuns kprRuns (fun s => if (coreUnit s c.val).st ≠ .on then s
    else
      let r := receive c.val k.val s
      modCore c.val (fun x => x.setD dst.val r.1) r.2) s)

end Sys2Proof.Machine
end

