-- ==== Sys2Proof/Machine/Traps.lean ====
section
/-! DEFINITION. Taking an exception or interrupt, and running one instruction of a keeper core (17, 18, 19 of spec/). -/
namespace Sys2Proof.Machine

/-! ## Exception entry (R454 to R459, R464) -/

/-- CAUSE (R458). -/
def causeWord (e : Exc) : Nat := e.code + shl e.info 8 + shl (b2n e.addr.isSome) 16

/-- CAUSE and ADDR_FAULT are written. -/
def Core.noteCause (e : Exc) (k : Core) : Core := { k with cause := causeWord e, addrFault := e.addr.getD 0 }

/-- The entry check (R456): shadow A7, and the 16 bytes below it. -/
def entryOk (s : State) (c : Nat) : Bool :=
  let a7 := (getCore s c).shadow.getA 7
  let lo := (a7.val - 16#32).toNat
  let m := getMpu s c
  a7.tag == .addr && a7.val.toNat % 16 == 0 &&
    (if m.en then match m.deciding lo with
      | some n => permits (m.region n).attr 0 .entry && m.deciding (lo + 15) == some n
      | none => false
    else inSram lo && inSram (lo + 15))

/-- Shadow ST at entry: 0 with SB 1, which is the core's own field. -/
def KBank.clearSt (b : KBank) : KBank :=
    { b with c := false, v := false, z := false, n := false, fs := false, ie := false, ring := 0 }

/-- Steps 2 to 4 of R454: the saved registers, the shadow bank, and VECBASE. -/
def Core.enter (e : Exc) (ret : BitVec 32) (k : Core) : Core :=
  { (k.noteCause e) with
    entryRing := k.main.ring, sb := true, shadow := (k.shadow.clearSt).setA 6 ⟨ret, .code⟩, pc := k.vecbase.val, resv := none }

/-- The core locks up with a cause (R464). -/
def lockupWith (c : Nat) (e : Exc) (s : State) : State := lockup c e.code (modCore c (Core.noteCause e) s)

/-- Taking an exception: entry, or lockup where the shadow bank is occupied, or where the entry check fails before PC moves
to the handler (R454 steps 3 and 4). -/
def excEntry (c : Nat) (e : Exc) (ret : BitVec 32) (s : State) : State :=
  if (getCore s c).sb then lockupWith c { e with code := 0x80 + e.code } s
  else
    let s1 := modCore c (Core.enter e ret) s
    if entryOk s1 c then s1
    else lockupWith c ⟨0xC0, 0, some ((getCore s1 c).shadow.getA 7).val.toNat⟩
      (modCore c (fun k => { k with pc := (getCore s c).pc }) s1)

/-! ## Interrupts (R452, R473, R475) -/

/-- The keeper clock runs, and the core is ON and not stopped by a debug master. -/
def coreLive (s : State) (c : Nat) : Bool := kprRuns s && (coreUnit s c).st == .on && !nbit s.tap.halt c

/-- The source becomes active, and the core enters with the return address at its next instruction. -/
def takeInterrupt (c src : Nat) (s : State) : State :=
  excEntry c ⟨1, src, none⟩ (getCore s c).pc (modInt c (fun i => { i with active := setBit i.active src }) s)

/-- The core takes the interrupt that R473 names, if there is one. -/
def takeNext (c : Nat) (s : State) : State := match takeable s c with | some n => takeInterrupt c n s | none => s

/-- INTERRUPT_TAKE (R452, R473): at an instruction boundary, never within a stalled read or while an EN 0 write drains. -/
def execInterruptTake (c : Fin 4) (s : State) : Host.Outcome State Fault Refusal :=
  .next (if coreLive s c.val && !(getCore s c.val).waiting && !rngStalled s c.val && !rngAnswered s c.val &&
      !(getMpu s c.val).draining then
    takeNext c.val s else s)

/-- CORE_WAKE (R64, R475): any enabled source that pends wakes the core, and with IE 1 and SB 0 the core takes it. -/
def execCoreWake (c : Fin 4) (s : State) : Host.Outcome State Fault Refusal :=
  .next (if coreLive s c.val && (getCore s c.val).waiting && (nextSrc s c.val).isSome then
    takeNext c.val (modCore c.val (fun k => { k with waiting := false }) s) else s)

/-! ## One instruction (R425, R437, R452, R453, R625) -/

/-- The core runs its next instruction now: the keeper clock runs, the core is ON, not in WAIT, not stalled, not halted but
for a step, and takes no interrupt first. -/
def canRun (s : State) (c : Nat) : Bool :=
  let k := getCore s c
  kprRuns s && (coreUnit s c).st == .on && !k.waiting && !rngStalled s c && !(getMpu s c).draining &&
    (if nbit s.tap.halt c then k.step else rngAnswered s c || (takeable s c).isNone)

/-- The core stalls in a read of RNG_DATA (R332): a plain load receives its word when the stall ends, and any other
instruction runs again. -/
def stallRead (c : Nat) (dst : Option Nat) (next : BitVec 32) (s : State) : State :=
  let s1 := { s with rng := { s.rng with stalls := s.rng.stalls ++ [⟨c, dst⟩] } }
  match dst with
  | some _ => modCore c (fun k => { k with pc := next }) s1
  | none => s1

def Core.setPc (a : BitVec 32) (k : Core) : Core := { k with pc := a }

/-- One instruction of `n` words: fetched, refused as undefined unless `ok`, and run by `f`, which is given the
instruction's address and the state with PC at the next instruction. A fault leaves the state as it was (R437, R452). `dst`
is the D register of a plain load. (Log entries 167, 168: DESIGN CHOICE, DEDUCED.) -/
def runInstr (c n : Nat) (ok : Bool) (dst : Option Nat) (f : BitVec 32 → State → Except Stop State) (s : State) : State :=
  if !canRun s c then s
  else
    let s0 := modCore c (fun k => { k with step := false }) s
    let pc := (getCore s c).pc
    let next := pc + BitVec.ofNat 32 (4 * n)
    match (do
      fetchWords s0 c n pc.toNat
      need ok undefStop
      f pc (modCore c (Core.setPc next) s0)) with
    | .ok t => dropAnswers c t
    | .error (.exc e) => dropAnswers c (excEntry c e pc s0)
    | .error .stall => stallRead c dst next s0

/-- UNDEFINED_INSTRUCTION (R410, R427): an encoding of `n` words that is undefined in the core's profile, or a word that
cannot be fetched. -/
def execUndefinedInstruction (c : Fin 4) (n : Fin 5) (s : State) : Host.Outcome State Fault Refusal :=
  .next (runInstr c.val (n.val + 1) false none (fun _ t => .ok t) s)

/-- MAILBOX_SEND (R418, R423): a write of core `c` to MGC_MB_SEND_m; from rings 2 and 3 it raises the privilege fault.
(Log entry 198: DEDUCED.) -/
def execMailboxSend (c m : Fin 4) (v : BitVec 32) (t : Fin 8) (s : State) : Host.Outcome State Fault Refusal :=
  .next (if !kprRuns s || (coreUnit s c.val).st != .on then s
    else if 2 ≤ ringOf s c.val then excEntry c.val ⟨5, 0, none⟩ (getCore s c.val).pc s
    else sendWord c.val m.val ⟨v, (tagOf t.val).getD .int⟩ s)

end Sys2Proof.Machine
end

