-- ==== Sys2Proof/Machine/Operands.lean ====
section
/-! DEFINITION. The operand forms of both profiles (R426, R430, R431, R434 to R437). -/
namespace Sys2Proof.Machine

/-! ## What an encoding admits -/

def isM (s : State) (c : Nat) : Bool := (getCore s c).profileM

/-- A displacement fits in `n` bits, signed. -/
def fits (n : Nat) (v : BitVec 32) : Bool := decide (-(2 ^ (n - 1) : Int) ≤ v.toInt) && decide (v.toInt < 2 ^ (n - 1))

/-- Extension words of a specifier (R436). -/
def Opnd.ext : Opnd → Nat
  | .imm _ => 1 | .disp _ _ => 1 | .idx _ _ _ _ => 1 | .abs _ => 1 | .pcrel _ => 1 | .memInd _ _ _ => 2 | _ => 0

def extWords (l : List Opnd) : Nat := (l.map Opnd.ext).foldl (· + ·) 0

/-- A D or A register. -/
def Opnd.isReg : Opnd → Bool | .d _ => true | .a _ => true | _ => false

def Opnd.isQ : Opnd → Bool | .q _ => true | _ => false

/-- A memory operand. -/
def Opnd.isMem : Opnd → Bool | .d _ => false | .a _ => false | .q _ => false | .imm _ => false | _ => true

def Opnd.isInd2 : Opnd → Bool | .memInd _ _ _ => true | _ => false

/-- A specifier of the M profile that is no Q register (R436). -/
def Opnd.mOk : Opnd → Bool | .q _ => false | .idx _ _ _ v => fits 24 v | _ => true

/-- A destination specifier (R436). -/
def Opnd.destOk : Opnd → Bool | .imm _ => false | .pcrel _ => false | _ => true

/-- A memory operand of an L-profile MEM instruction (R431). -/
def Opnd.lMem : Opnd → Bool
  | .ind _ => true | .post _ => true | .pre _ => true | .disp _ v => fits 14 v | .idx _ _ _ v => fits 8 v | _ => false

/-- A memory operand of MODE 0. -/
def Opnd.lDisp : Opnd → Bool | .ind _ => true | .disp _ v => fits 14 v | _ => false

/-- The specifiers of an M-profile instruction are encodable together: at most one of mode 11, at most five words. -/
def mShape (l : List Opnd) : Bool := (l.filter Opnd.isInd2).length ≤ 1 && extWords l ≤ 4

/-- The words of an instruction. -/
def wordsOf (s : State) (c : Nat) (l : List Opnd) : Nat := if isM s c then 1 + extWords l else 1

/-- An instruction with a destination and sources, none in Q: M specifiers, or L registers with a last source that may be
an immediate that the L form holds. -/
def shapeOk (s : State) (c : Nat) (dest : Option Opnd) (srcs : List Opnd) (imm : BitVec 32 → Bool) : Bool :=
  if isM s c then
    (match dest with | some d => d.mOk && d.destOk | none => true) && srcs.all Opnd.mOk && mShape (dest.toList ++ srcs)
  else
    (match dest with | some d => d.isReg | none => true) && srcs.dropLast.all Opnd.isReg &&
      (match srcs.getLast? with | none => true | some (.imm v) => imm v | some o => o.isReg)

def noImm (_ : BitVec 32) : Bool := false

/-- Immediates of the L forms: sign-extended, zero-extended, and shift counts (R432). -/
def simm16 (v : BitVec 32) : Bool := fits 16 v
def uimm16 (v : BitVec 32) : Bool := decide (v.toNat < 65536)
def count5 (v : BitVec 32) : Bool := decide (v.toNat < 32)

/-! ## Registers -/

def bankNow (s : State) (c : Nat) : KBank := (getCore s c).bank
def setBankD (c i : Nat) (w : KWord) (s : State) : State := modCore c (fun k => k.setBank (k.bank.setD i w)) s
def setBankA (c i : Nat) (w : KWord) (s : State) : State := modCore c (fun k => k.setBank (k.bank.setA i w)) s

/-! ## Addresses (R402, R431, R436) -/

/-- A base register's value. -/
def baseOf (s : State) (c : Nat) (i : Fin 8) : Except Stop (BitVec 32) :=
  let w := (bankNow s c).getA i.val
  if w.tag = .addr then .ok w.val else .error (tagStop w.tag)

/-- An index register's value. -/
def indexOf (s : State) (c : Nat) (i : Fin 16) : Except Stop (BitVec 32) :=
  let w := (bankNow s c).getD i.val
  if w.tag = .int then .ok w.val else .error (tagStop w.tag)

/-- The effective address of a memory operand, and the base's update; `pc` is the instruction's address. -/
def formEa (c size : Nat) (pc : BitVec 32) (o : Opnd) (s : State) : Except Stop (BitVec 32 × State) :=
  match o with
  | .ind a => do return (← baseOf s c a, s)
  | .post a => do
    let b ← baseOf s c a
    return (b, setBankA c a.val ⟨b + BitVec.ofNat 32 size, .addr⟩ s)
  | .pre a => do
    let b ← baseOf s c a
    let e := b - BitVec.ofNat 32 size
    return (e, setBankA c a.val ⟨e, .addr⟩ s)
  | .disp a v => do return ((← baseOf s c a) + v, s)
  | .idx a i sc v => do
    let b ← baseOf s c a
    let x ← indexOf s c i
    return (b + (x <<< sc.val) + v, s)
  | .abs v => .ok (v, s)
  | .pcrel v => .ok (pc + v, s)
  | .memInd a inner outer => do
    let b ← baseOf s c a
    let (w, t) ← kLoad c (b + inner).toNat 4 s
    if w.tag = .addr then return (w.val + outer, t) else throw (tagStop w.tag (some (b + inner).toNat))
  | _ => .error undefStop

/-! ## Sources and destinations -/

/-- A register's or an immediate's part of a size (R432: a register source supplies its low bits). -/
def lowPart (w : KWord) (size : Nat) : Except Stop KWord :=
  if size = 4 then .ok w
  else if narrowTag w.tag true then .ok ⟨BitVec.ofNat 32 (w.val.toNat % 2 ^ (8 * size)), w.tag⟩
  else .error (tagStop w.tag)

/-- A source operand's word. -/
def readOp (c size : Nat) (pc : BitVec 32) (o : Opnd) (s : State) : Except Stop (KWord × State) :=
  match o with
  | .d i => do return (← lowPart ((bankNow s c).getD i.val) size, s)
  | .a i => do return (← lowPart ((bankNow s c).getA i.val) size, s)
  | .imm v => do return (← lowPart ⟨v, .int⟩ size, s)
  | .q _ => .error undefStop
  | _ => do
    let (e, t) ← formEa c size pc o s
    kLoad c e.toNat size t

/-- Where a result goes. -/
inductive Dest where
  | d (i : Nat)
  | a (i : Nat)
  | mem (addr : Nat)
  deriving DecidableEq, Repr

/-- A destination's address is formed and checked (R437 step 1). -/
def evalDest (c size : Nat) (pc : BitVec 32) (o : Opnd) (s : State) : Except Stop (Dest × State) :=
  match o with
  | .d i => .ok (.d i.val, s)
  | .a i => .ok (.a i.val, s)
  | .q _ => .error undefStop
  | _ => do
    let (e, t) ← formEa c size pc o s
    busCheck t c e.toNat size true
    if relaxed (getMpu t c) e.toNat then
      let _ ← mpuRegion (getMpu t c) (ringOf t c) e.toNat
    else mpuCheck (getMpu t c) (ringOf t c) e.toNat .write
    return (.mem e.toNat, t)

/-- An A register accepts ADDR and CODE (R402). -/
def addrTag (t : Tag) : Bool := t == .addr || t == .code

/-- The result is written. -/
def writeDest (c size : Nat) (x : Dest) (w : KWord) (s : State) : Except Stop State :=
  match x with
  | .d i => .ok (setBankD c i w s)
  | .a i => if addrTag w.tag then .ok (setBankA c i w s) else .error (tagStop w.tag)
  | .mem a => kStore c a size w s

/-- Source operands in order, each seeing the updates of those before it. -/
def readAll (c size : Nat) (pc : BitVec 32) : List Opnd → State → Except Stop (List KWord × State)
  | [], s => .ok ([], s)
  | o :: r, s => do
    let (w, t) ← readOp c size pc o s
    let (ws, u) ← readAll c size pc r t
    return (w :: ws, u)

/-- An instruction's body: the destination's address, the sources, the operation, the write (R437). -/
def opBody (c size : Nat) (dst : Opnd) (srcs : List Opnd) (op : List KWord → State → Except Stop (KWord × State))
    (pc : BitVec 32) (s : State) : Except Stop State := do
  let (x, s1) ← evalDest c size pc dst s
  let (ws, s2) ← readAll c size pc srcs s1
  let (w, s3) ← op ws s2
  writeDest c size x w s3

/-- An instruction with a destination. -/
def runOp (c : Nat) (dst : Opnd) (srcs : List Opnd) (imm : BitVec 32 → Bool)
    (op : List KWord → State → Except Stop (KWord × State)) (s : State) : State :=
  runInstr c (wordsOf s c (dst :: srcs)) (shapeOk s c (some dst) srcs imm) none (opBody c 4 dst srcs op) s

/-- An instruction without a destination. -/
def runUse (c : Nat) (srcs : List Opnd) (imm : BitVec 32 → Bool) (op : List KWord → State → Except Stop State) (s : State) :
    State :=
  runInstr c (wordsOf s c srcs) (shapeOk s c none srcs imm) none (fun pc t => do
    let (ws, u) ← readAll c 4 pc srcs t
    op ws u) s

end Sys2Proof.Machine
end

