-- ==== Sys2Proof/Machine/Flags.lean ====
section
/-! DEFINITION. Flags, conditions and result tags (R402 to R404, R428, R429). -/
namespace Sys2Proof.Machine

/-- What an instruction that sets flags gives them. -/
structure Flags where
  n : Bool
  z : Bool
  c : Bool
  v : Bool
  fs : Bool
  deriving DecidableEq, Repr

def KBank.setFlags (f : Flags) (b : KBank) : KBank := { b with n := f.n, z := f.z, c := f.c, v := f.v, fs := f.fs }

def setFlags (c : Nat) (f : Flags) (s : State) : State := modCore c (fun k => k.setBank (k.bank.setFlags f)) s

/-- N and Z of a result. -/
def negOf (r : BitVec 32) : Bool := r.msb
def zeroOf (r : BitVec 32) : Bool := r == 0

/-- NZCV of `a + b + cin`, with the result's tag. -/
def addFlags (a b : BitVec 32) (cin : Bool) (t : Tag) : Flags :=
  let r := a + b + BitVec.ofNat 32 (b2n cin)
  { n := negOf r, z := zeroOf r, c := decide (2 ^ 32 ≤ a.toNat + b.toNat + b2n cin)
    v := (a.msb == b.msb) && (r.msb != a.msb), fs := t == .secret }

/-- NZCV of `a - b - 1 + cin`: C is 1 when no borrow occurs. -/
def subFlags (a b : BitVec 32) (cin : Bool) (t : Tag) : Flags := addFlags a (~~~b) cin t

/-- NZ, with C and V cleared. -/
def logicFlags (r : BitVec 32) (t : Tag) : Flags := { n := negOf r, z := zeroOf r, c := false, v := false, fs := t == .secret }

/-- NZC of a shift whose last bit shifted out is `out`. -/
def shiftFlags (r : BitVec 32) (out : Bool) (t : Tag) : Flags :=
  { n := negOf r, z := zeroOf r, c := out, v := false, fs := t == .secret }

/-- Z alone, with N, C and V cleared (STX and TAS). -/
def zFlags (z : Bool) : Flags := { n := false, z := z, c := false, v := false, fs := false }

/-- A condition holds (R429); 15 is reserved. -/
def condHolds (b : KBank) (cc : Nat) : Bool :=
  match cc with
  | 0 => b.z
  | 1 => !b.z
  | 2 => b.c
  | 3 => !b.c
  | 4 => b.n
  | 5 => !b.n
  | 6 => b.v
  | 7 => !b.v
  | 8 => b.c && !b.z
  | 9 => !b.c || b.z
  | 10 => b.n == b.v
  | 11 => b.n != b.v
  | 12 => !b.z && b.n == b.v
  | 13 => b.z || b.n != b.v
  | _ => true

/-! ## Result tags (R402, R403) -/

def plainTag (t : Tag) : Bool := t == .int || t == .secret

/-- The first tag that plain arithmetic does not take, for the fault. -/
def offender (a b : Tag) : Tag := if plainTag a then b else a

/-- INT and SECRET only. -/
def arithTag (a b : Tag) : Except Stop Tag :=
  if plainTag a && plainTag b then .ok (joinTag a b) else .error (tagStop (offender a b))

def addTag (a b : Tag) : Except Stop Tag :=
  match a, b with
  | .addr, .int => .ok .addr
  | .int, .addr => .ok .addr
  | .code, .int => .ok .code
  | _, _ => arithTag a b

def subTag (a b : Tag) : Except Stop Tag :=
  match a, b with
  | .addr, .int => .ok .addr
  | .code, .int => .ok .code
  | .addr, .addr => .ok .int
  | _, _ => arithTag a b

def andTag (a b : Tag) : Except Stop Tag :=
  match a, b with
  | .addr, .int => .ok .addr
  | _, _ => arithTag a b

/-- A word whose tag CMP takes (R402). -/
def cmpTag (t : Tag) : Bool := t == .int || t == .addr || t == .code

/-- An ERR word may only be moved, read for its tag, or checked (R402). -/
def notErr (w : KWord) : Except Stop Unit := need (w.tag != .err) (tagStop w.tag)

end Sys2Proof.Machine
end

