-- ==== Sys2Proof/Machine/KAccum.lean ====
section
/-! DEFINITION. The accumulator and tag instructions of the keeper cores (R403, R432). -/
namespace Sys2Proof.Machine

def getAcc (s : State) (c i : Nat) : Acc := mget {} (getCore s c).q i
def setAcc (c i : Nat) (a : Acc) (s : State) : State := modCore c (fun k => { k with q := mset {} k.q i a }) s

/-- The encoding of an instruction on an accumulator and other operands. -/
def accOk (s : State) (c : Nat) (dest : Option Opnd) (srcs : List Opnd) : Bool := shapeOk s c dest srcs noImm

/-- An instruction that changes accumulator `q`. -/
def accRun (c : Nat) (q : Opnd) (srcs : List Opnd) (op : Acc → List KWord → Except Stop Acc) (s : State) : State :=
  match q with
  | .q i => runInstr c (wordsOf s c srcs) (accOk s c none srcs) none (fun pc t => do
      let (ws, t1) ← readAll c 4 pc srcs t
      let a ← op (getAcc t1 c i.val) ws
      return setAcc c i.val a t1) s
  | _ => runInstr c (wordsOf s c (q :: srcs)) false none (fun _ t => .ok t) s

/-- The tag of an accumulator with its operands' (R403). -/
def accTag (a : Acc) (ws : List KWord) : Except Stop Tag :=
  ws.foldlM (fun t w => arithTag t w.tag) a.tag >>= fun t => need (plainTag t) (tagStop t) >>= fun _ => .ok t

/-- The sum of an accumulator and a number, modulo 2^68. -/
def accAdd (a : Acc) (n : Int) (t : Tag) : Acc := ⟨a.val + BitVec.ofInt 68 n, t⟩

/-- A multiply-accumulate. -/
def macOp (f : BitVec 32 → BitVec 32 → Int) (a : Acc) (ws : List KWord) : Except Stop Acc := do
  let t ← accTag a ws
  match ws with
  | [x, y] => return accAdd a (f x.val y.val) t
  | _ => throw undefStop

def unsignedProduct (x y : BitVec 32) : Int := x.toNat * y.toNat
def signedProduct (x y : BitVec 32) : Int := x.toInt * y.toInt

/-- MACQ. -/
def execKMacq (c : Fin 4) (q a b : Opnd) (s : State) : Host.Outcome State Fault Refusal :=
  .next (accRun c.val q [a, b] (macOp unsignedProduct) s)

/-- MACQS. -/
def execKMacqs (c : Fin 4) (q a b : Opnd) (s : State) : Host.Outcome State Fault Refusal :=
  .next (accRun c.val q [a, b] (macOp signedProduct) s)

/-- An operation of an accumulator and one word. -/
def accOp (f : Acc → BitVec 32 → Tag → Acc) (a : Acc) (ws : List KWord) : Except Stop Acc := do
  let t ← accTag a ws
  match ws with
  | [x] => return f a x.val t
  | _ => throw undefStop

/-- ADDQ. -/
def execKAddq (c : Fin 4) (q a : Opnd) (s : State) : Host.Outcome State Fault Refusal :=
  .next (accRun c.val q [a] (accOp fun x v t => accAdd x v.toNat t) s)

/-- ADDQS. -/
def execKAddqs (c : Fin 4) (q a : Opnd) (s : State) : Host.Outcome State Fault Refusal :=
  .next (accRun c.val q [a] (accOp fun x v t => accAdd x v.toInt t) s)

/-- A shift by b[6:0], a count that may not be SECRET (R402). -/
def accShift (f : BitVec 68 → Nat → BitVec 68) (a : Acc) (ws : List KWord) : Except Stop Acc := do
  let t ← accTag a ws
  match ws with
  | [x] =>
    need (x.tag == .int) (tagStop x.tag)
    return ⟨f a.val (x.val.toNat % 128), t⟩
  | _ => throw undefStop

/-- SHQL. -/
def execKShql (c : Fin 4) (q b : Opnd) (s : State) : Host.Outcome State Fault Refusal :=
  .next (accRun c.val q [b] (accShift fun x n => x <<< n) s)

/-- SHQR. -/
def execKShqr (c : Fin 4) (q b : Opnd) (s : State) : Host.Outcome State Fault Refusal :=
  .next (accRun c.val q [b] (accShift fun x n => x >>> n) s)

/-- SHQA. -/
def execKShqa (c : Fin 4) (q b : Opnd) (s : State) : Host.Outcome State Fault Refusal :=
  .next (accRun c.val q [b] (accShift fun x n => x.sshiftRight n) s)

/-- A part of an accumulator moves to a destination. -/
def accPart (c : Nat) (d q : Opnd) (f : BitVec 68 → BitVec 32) (s : State) : State :=
  match q with
  | .q i => runInstr c (wordsOf s c [d]) (accOk s c (some d) []) none (opBody c 4 d [] fun _ t => do
      let a := getAcc t c i.val
      need (a.tag != .err) (tagStop a.tag)
      return (⟨f a.val, a.tag⟩, t)) s
  | _ => runInstr c (wordsOf s c [d, q]) false none (fun _ t => .ok t) s

/-- MOVQ.L. -/
def execKMovqL (c : Fin 4) (d q : Opnd) (s : State) : Host.Outcome State Fault Refusal :=
  .next (accPart c.val d q (fun x => x.extractLsb' 0 32) s)

/-- MOVQ.H. -/
def execKMovqH (c : Fin 4) (d q : Opnd) (s : State) : Host.Outcome State Fault Refusal :=
  .next (accPart c.val d q (fun x => x.extractLsb' 32 32) s)

/-- MOVQ.G. -/
def execKMovqG (c : Fin 4) (d q : Opnd) (s : State) : Host.Outcome State Fault Refusal :=
  .next (accPart c.val d q (fun x => (x.extractLsb' 64 4).setWidth 32) s)

/-- MOVQ.TL. -/
def execKMovqTl (c : Fin 4) (q a : Opnd) (s : State) : Host.Outcome State Fault Refusal :=
  .next (accRun c.val q [a] (accOp fun x v t => ⟨x.val.extractLsb' 32 36 ++ v, t⟩) s)

/-- MOVQ.TH. -/
def execKMovqTh (c : Fin 4) (q a : Opnd) (s : State) : Host.Outcome State Fault Refusal :=
  .next (accRun c.val q [a] (accOp fun x v t => ⟨x.val.extractLsb' 64 4 ++ v ++ x.val.extractLsb' 0 32, t⟩) s)

/-- CLRQ. -/
def execKClrq (c : Fin 4) (q : Opnd) (s : State) : Host.Outcome State Fault Refusal :=
  .next (accRun c.val q [] (fun _ _ => .ok {}) s)

/-! ## Tags -/

/-- TAGR. -/
def execKTagr (c : Fin 4) (d a : Opnd) (s : State) : Host.Outcome State Fault Refusal :=
  .next (runOp c.val d [a] noImm (fun ws t =>
    match ws with
    | [x] => .ok (⟨BitVec.ofNat 32 x.tag.num, .int⟩, t)
    | _ => .error undefStop) s)

/-- TAGW: ring 0 alone, and no reserved tag (R402). (Log entry 195: DEDUCED.) -/
def execKTagw (c : Fin 4) (d a : Opnd) (tag : Fin 16) (s : State) : Host.Outcome State Fault Refusal :=
  .next (runOp c.val d [a] noImm (fun ws t =>
    match ws with
    | [x] => do
      need (ringOf t c.val == 0) (tagStop x.tag)
      notErr x
      match tagOf tag.val with
      | some g => return (⟨x.val, g⟩, t)
      | none => throw (.exc ⟨3, tag.val, none⟩)
    | _ => .error undefStop) s)

/-- TCHK. -/
def execKTchk (c : Fin 4) (a : Opnd) (tag : Fin 16) (s : State) : Host.Outcome State Fault Refusal :=
  .next (runUse c.val [a] noImm (fun ws t =>
    match ws with
    | [x] => if x.tag.num = tag.val then .ok t else .error (tagStop x.tag)
    | _ => .error undefStop) s)

/-- DECLASS: rings 0 and 1 (R402, R403). -/
def execKDeclass (c : Fin 4) (d a : Opnd) (s : State) : Host.Outcome State Fault Refusal :=
  .next (runOp c.val d [a] noImm (fun ws t =>
    match ws with
    | [x] => do
      need (decide (ringOf t c.val < 2)) (tagStop x.tag)
      notErr x
      return (if x.tag = .secret then ⟨x.val, .int⟩ else x, t)
    | _ => .error undefStop) s)

end Sys2Proof.Machine
end

