-- ==== Sys2Proof/Machine/KArith.lean ====
section
/-! DEFINITION. Arithmetic, logic, shifts, products, quotients and selection of the keeper cores (R432). -/
namespace Sys2Proof.Machine

/-- A two-source operation: its result, and the flags it sets where it sets them. -/
def binary (c : Nat) (d a b : Opnd) (imm : BitVec 32 → Bool)
    (op : KBank → KWord → KWord → Except Stop (KWord × Option Flags)) (s : State) : State :=
  runOp c d [a, b] imm (fun ws t =>
    match ws with
    | [x, y] => do
      let (r, f) ← op (bankNow t c) x y
      return (r, match f with | some g => setFlags c g t | none => t)
    | _ => .error undefStop) s

/-- A one-source operation. -/
def unary (c : Nat) (d a : Opnd) (op : KBank → KWord → Except Stop (KWord × Option Flags)) (s : State) : State :=
  runOp c d [a] noImm (fun ws t =>
    match ws with
    | [x] => do
      let (r, f) ← op (bankNow t c) x
      return (r, match f with | some g => setFlags c g t | none => t)
    | _ => .error undefStop) s

/-- ADD, ADDI. -/
def execKAdd (c : Fin 4) (d a b : Opnd) (s : State) : Host.Outcome State Fault Refusal :=
  .next (binary c.val d a b simm16 (fun _ x y => do
    let t ← addTag x.tag y.tag
    return (⟨x.val + y.val, t⟩, some (addFlags x.val y.val false t))) s)

/-- SUB, SUBI. -/
def execKSub (c : Fin 4) (d a b : Opnd) (s : State) : Host.Outcome State Fault Refusal :=
  .next (binary c.val d a b simm16 (fun _ x y => do
    let t ← subTag x.tag y.tag
    return (⟨x.val - y.val, t⟩, some (subFlags x.val y.val true t))) s)

/-- The tag of ADC and SBC, which consume C (R404). -/
def carryTag (k : KBank) (a b : Tag) : Except Stop Tag := do
  let t ← arithTag a b
  return if k.fs then .secret else t

/-- ADC. -/
def execKAdc (c : Fin 4) (d a b : Opnd) (s : State) : Host.Outcome State Fault Refusal :=
  .next (binary c.val d a b noImm (fun k x y => do
    let t ← carryTag k x.tag y.tag
    return (⟨x.val + y.val + BitVec.ofNat 32 (b2n k.c), t⟩, some (addFlags x.val y.val k.c t))) s)

/-- SBC. -/
def execKSbc (c : Fin 4) (d a b : Opnd) (s : State) : Host.Outcome State Fault Refusal :=
  .next (binary c.val d a b noImm (fun k x y => do
    let t ← carryTag k x.tag y.tag
    return (⟨x.val - y.val - 1 + BitVec.ofNat 32 (b2n k.c), t⟩, some (subFlags x.val y.val k.c t))) s)

/-- A bitwise operation. -/
def logic (tagf : Tag → Tag → Except Stop Tag) (f : BitVec 32 → BitVec 32 → BitVec 32) (_ : KBank) (x y : KWord) :
    Except Stop (KWord × Option Flags) := do
  let t ← tagf x.tag y.tag
  return (⟨f x.val y.val, t⟩, some (logicFlags (f x.val y.val) t))

/-- AND, ANDI. -/
def execKAnd (c : Fin 4) (d a b : Opnd) (s : State) : Host.Outcome State Fault Refusal :=
  .next (binary c.val d a b uimm16 (logic andTag (· &&& ·)) s)

/-- OR, ORI. -/
def execKOr (c : Fin 4) (d a b : Opnd) (s : State) : Host.Outcome State Fault Refusal :=
  .next (binary c.val d a b uimm16 (logic arithTag (· ||| ·)) s)

/-- XOR, XORI. -/
def execKXor (c : Fin 4) (d a b : Opnd) (s : State) : Host.Outcome State Fault Refusal :=
  .next (binary c.val d a b uimm16 (logic arithTag (· ^^^ ·)) s)

/-- NOT. -/
def execKNot (c : Fin 4) (d a : Opnd) (s : State) : Host.Outcome State Fault Refusal :=
  .next (unary c.val d a (fun _ x => do
    let t ← arithTag x.tag x.tag
    return (⟨~~~x.val, t⟩, some (logicFlags (~~~x.val) t))) s)

/-- NEG: 0 − a. -/
def execKNeg (c : Fin 4) (d a : Opnd) (s : State) : Host.Outcome State Fault Refusal :=
  .next (unary c.val d a (fun _ x => do
    let t ← arithTag x.tag x.tag
    return (⟨0 - x.val, t⟩, some (subFlags 0 x.val true t))) s)

/-- A shift or rotate by b[4:0]: the result, and the last bit shifted out for a count that is not 0. -/
def shiftOp (f : BitVec 32 → Nat → BitVec 32) (out : BitVec 32 → Nat → Bool) (_ : KBank) (x y : KWord) :
    Except Stop (KWord × Option Flags) := do
  let t ← arithTag x.tag y.tag
  let n := y.val.toNat % 32
  return (⟨f x.val n, t⟩, some (shiftFlags (f x.val n) (n != 0 && out x.val n) t))

/-- SHL. -/
def execKShl (c : Fin 4) (d a b : Opnd) (s : State) : Host.Outcome State Fault Refusal :=
  .next (binary c.val d a b count5 (shiftOp (fun x n => x <<< n) (fun x n => x.getLsbD (32 - n))) s)

/-- SHR. -/
def execKShr (c : Fin 4) (d a b : Opnd) (s : State) : Host.Outcome State Fault Refusal :=
  .next (binary c.val d a b count5 (shiftOp (fun x n => x >>> n) (fun x n => x.getLsbD (n - 1))) s)

/-- SAR. -/
def execKSar (c : Fin 4) (d a b : Opnd) (s : State) : Host.Outcome State Fault Refusal :=
  .next (binary c.val d a b count5 (shiftOp (fun x n => x.sshiftRight n) (fun x n => x.getLsbD (n - 1))) s)

/-- ROL. -/
def execKRol (c : Fin 4) (d a b : Opnd) (s : State) : Host.Outcome State Fault Refusal :=
  .next (binary c.val d a b count5 (shiftOp (fun x n => x.rotateLeft n) (fun x n => x.getLsbD (32 - n))) s)

/-- ROR. -/
def execKRor (c : Fin 4) (d a b : Opnd) (s : State) : Host.Outcome State Fault Refusal :=
  .next (binary c.val d a b count5 (shiftOp (fun x n => x.rotateRight n) (fun x n => x.getLsbD (n - 1))) s)

/-- CMP, CMPI. (Log entry 188: DEDUCED.) -/
def execKCmp (c : Fin 4) (a b : Opnd) (s : State) : Host.Outcome State Fault Refusal :=
  .next (runUse c.val [a, b] simm16 (fun ws t =>
    match ws with
    | [x, y] => do
      need (cmpTag x.tag) (tagStop x.tag)
      need (cmpTag y.tag) (tagStop y.tag)
      return setFlags c.val (subFlags x.val y.val true .int) t
    | _ => .error undefStop) s)

/-! ## Products and quotients -/

/-- MUL. -/
def execKMul (c : Fin 4) (d a b : Opnd) (s : State) : Host.Outcome State Fault Refusal :=
  .next (binary c.val d a b noImm (logic arithTag (· * ·)) s)

/-- An operation on INT and SECRET that sets no flags. -/
def quiet (f : BitVec 32 → BitVec 32 → BitVec 32) (_ : KBank) (x y : KWord) : Except Stop (KWord × Option Flags) := do
  let t ← arithTag x.tag y.tag
  return (⟨f x.val y.val, t⟩, none)

/-- MULH. -/
def execKMulh (c : Fin 4) (d a b : Opnd) (s : State) : Host.Outcome State Fault Refusal :=
  .next (binary c.val d a b noImm (quiet fun x y => BitVec.ofInt 32 (x.toInt * y.toInt / 2 ^ 32)) s)

/-- MULHU. -/
def execKMulhu (c : Fin 4) (d a b : Opnd) (s : State) : Host.Outcome State Fault Refusal :=
  .next (binary c.val d a b noImm (quiet fun x y => BitVec.ofNat 32 (x.toNat * y.toNat / 2 ^ 32)) s)

/-- A quotient or remainder: a divisor of 0 gives 0 tagged ERR. -/
def quotient (f : BitVec 32 → BitVec 32 → BitVec 32) (k : KBank) (x y : KWord) : Except Stop (KWord × Option Flags) := do
  let r ← quiet f k x y
  return if y.val = 0 then (errWord, none) else r

/-- DIV. -/
def execKDiv (c : Fin 4) (d a b : Opnd) (s : State) : Host.Outcome State Fault Refusal :=
  .next (binary c.val d a b noImm (quotient fun x y => BitVec.ofInt 32 (x.toInt.tdiv y.toInt)) s)

/-- DIVU. -/
def execKDivu (c : Fin 4) (d a b : Opnd) (s : State) : Host.Outcome State Fault Refusal :=
  .next (binary c.val d a b noImm (quotient fun x y => BitVec.ofNat 32 (x.toNat / y.toNat)) s)

/-- REM. -/
def execKRem (c : Fin 4) (d a b : Opnd) (s : State) : Host.Outcome State Fault Refusal :=
  .next (binary c.val d a b noImm (quotient fun x y => BitVec.ofInt 32 (x.toInt.tmod y.toInt)) s)

/-- REMU. -/
def execKRemu (c : Fin 4) (d a b : Opnd) (s : State) : Host.Outcome State Fault Refusal :=
  .next (binary c.val d a b noImm (quotient fun x y => BitVec.ofNat 32 (x.toNat % y.toNat)) s)

/-- CSEL (R403): while FS is 1 the operands are to be INT or SECRET, and the result is SECRET. (Log entry 189: DEDUCED.) -/
def execKCsel (c : Fin 4) (d a b : Opnd) (cc : Fin 16) (s : State) : Host.Outcome State Fault Refusal :=
  .next (runInstr c.val (wordsOf s c.val [d, a, b]) (cc.val != 15 && shapeOk s c.val (some d) [a, b] noImm) none
    (opBody c.val 4 d [a, b] fun ws t =>
      match ws with
      | [x, y] => do
        notErr x
        notErr y
        let r := if condHolds (bankNow t c.val) cc.val then x else y
        if (bankNow t c.val).fs then
          need (plainTag x.tag && plainTag y.tag) (tagStop (offender x.tag y.tag))
          return (⟨r.val, .secret⟩, t)
        else return (r, t)
      | _ => .error undefStop) s)

end Sys2Proof.Machine
end

