-- ==== Sys2Proof/Machine/KMove.lean ====
section
/-! DEFINITION. Moves, loads, stores and atomic instructions of the keeper cores (R431, R432, R439, R440). -/
namespace Sys2Proof.Machine

/-- The D register of a plain load: the read may stall (R332). -/
def loadDst (d a : Opnd) : Option Nat := match d with | .d i => if a.isMem then some i.val else none | _ => none

/-- A move's operation. -/
def moveOp (ws : List KWord) (t : State) : Except Stop (KWord × State) :=
  match ws with | [x] => .ok (x, t) | _ => .error undefStop

/-- A move of a size, where its encoding exists. -/
def move (c size : Nat) (ok : Bool) (d a : Opnd) (s : State) : State :=
  runInstr c (wordsOf s c [d, a]) ok (loadDst d a) (opBody c size d [a] moveOp) s

/-- A store of the L profile: the register is read, then the address is formed. -/
def storeL (c size : Nat) (ok : Bool) (r ea : Opnd) (s : State) : State :=
  runInstr c 1 ok none (fun pc t => do
    let (w, t1) ← readOp c size pc r t
    let (x, t2) ← evalDest c size pc ea t1
    writeDest c size x w t2) s

/-- MOV. -/
def execKMov (c : Fin 4) (d a : Opnd) (s : State) : Host.Outcome State Fault Refusal :=
  .next (move c.val 4 (shapeOk s c.val (some d) [a] noImm) d a s)

/-- The L encodings of a load and of a store (R430, R431). -/
def lLoadOk (r ea : Opnd) : Bool := r.isReg && ea.lMem

/-- MOV.H and MOV.B; in the L profile, LD and ST with SIZE 1 or 2. -/
def execKMovH (c : Fin 4) (byte : Bool) (d a : Opnd) (s : State) : Host.Outcome State Fault Refusal :=
  let size := if byte then 1 else 2
  .next (if isM s c.val then move c.val size (shapeOk s c.val (some d) [a] noImm) d a s
  else if d.isMem then storeL c.val size (lLoadOk a d) a d s
  else move c.val size (lLoadOk d a) d a s)

/-- MOVI; in the M profile, MOV with an immediate. -/
def execKMovi (c : Fin 4) (d : Opnd) (v : BitVec 32) (s : State) : Host.Outcome State Fault Refusal :=
  .next (runOp c.val d [.imm v] simm16 moveOp s)

/-- MOVI.H, an L instruction alone. -/
def execKMoviH (c : Fin 4) (d : Opnd) (v : BitVec 16) (s : State) : Host.Outcome State Fault Refusal :=
  .next (runInstr c.val 1 (!isM s c.val && d.isReg) none (opBody c.val 4 d [d] fun ws t =>
    match ws with
    | [x] => do
      need (x.tag == .int || x.tag == .secret) (tagStop x.tag)
      return (⟨v ++ x.val.extractLsb' 0 16, x.tag⟩, t)
    | _ => .error undefStop) s)

/-- The memory operand of LEA. -/
def leaOk (m : Bool) : Opnd → Bool
  | .post _ => false
  | .pre _ => false
  | .idx _ _ _ v => fits (if m then 24 else 8) v
  | o => if m then o.isMem else o.lDisp

/-- LEA: the address, tagged ADDR as its base; a PC-relative one is CODE. (Log entry 190: DEDUCED.) -/
def execKLea (c : Fin 4) (d ea : Opnd) (s : State) : Host.Outcome State Fault Refusal :=
  let m := isM s c.val
  let ok := leaOk m ea && (if m then d.mOk && d.destOk && mShape [d, ea] else d.isReg)
  .next (runInstr c.val (wordsOf s c.val [d, ea]) ok none (fun pc t => do
    let (x, t1) ← evalDest c.val 4 pc d t
    let (e, t2) ← formEa c.val 4 pc ea t1
    writeDest c.val 4 x ⟨e, match ea with | .pcrel _ => .code | _ => .addr⟩ t2) s)

/-- LEAPC, and LEA or LEAD with a PC-relative source: CODE, or ADDR where `data`. -/
def execKLeapc (c : Fin 4) (d : Opnd) (off : BitVec 32) (data : Bool) (s : State) : Host.Outcome State Fault Refusal :=
  let ok := if isM s c.val then d.mOk && d.destOk && mShape [d, .pcrel off] else d.isReg && fits 20 off
  .next (runInstr c.val (wordsOf s c.val [d, .pcrel off]) ok none (fun pc t => do
    let (x, t1) ← evalDest c.val 4 pc d t
    writeDest c.val 4 x ⟨pc + off, if data then .addr else .code⟩ t1) s)

/-- LD. -/
def execKLd (c : Fin 4) (r ea : Opnd) (s : State) : Host.Outcome State Fault Refusal :=
  let ok := if isM s c.val then ea.isMem && shapeOk s c.val (some r) [ea] noImm else lLoadOk r ea
  .next (move c.val 4 ok r ea s)

/-- ST. (Log entry 193: DEDUCED.) -/
def execKSt (c : Fin 4) (r ea : Opnd) (s : State) : Host.Outcome State Fault Refusal :=
  .next (if isM s c.val then move c.val 4 (ea.isMem && shapeOk s c.val (some ea) [r] noImm) ea r s
  else storeL c.val 4 (lLoadOk r ea) r ea s)

/-! ## Atomic instructions -/

/-- The encodings of an atomic instruction: a register, and a memory operand, of MODE 0 in the L profile. -/
def atomicOk (s : State) (c : Nat) (r ea : Opnd) : Bool :=
  r.isReg && (if isM s c then ea.isMem && ea.mOk else ea.lDisp)

/-- The address of an atomic instruction (R439). -/
def atomicEa (c : Nat) (pc : BitVec 32) (ea : Opnd) (s : State) : Except Stop (Nat × State) := do
  let (e, t) ← formEa c 4 pc ea s
  need (inSram e.toNat && e.toNat % 4 == 0) (busStop e.toNat)
  return (e.toNat, t)

/-- A register destination. -/
def regDest : Opnd → Dest | .a i => .a i.val | .d i => .d i.val | _ => .d 0

/-- LDX. -/
def execKLdx (c : Fin 4) (r ea : Opnd) (s : State) : Host.Outcome State Fault Refusal :=
  .next (runInstr c.val (wordsOf s c.val [r, ea]) (atomicOk s c.val r ea) none (fun pc t => do
    let (a, t1) ← atomicEa c.val pc ea t
    let (w, t2) ← kLoad c.val a 4 t1
    writeDest c.val 4 (regDest r) w (modCore c.val (fun k => { k with resv := some (a / 16) }) t2)) s)

/-- STX. -/
def execKStx (c : Fin 4) (r ea : Opnd) (s : State) : Host.Outcome State Fault Refusal :=
  .next (runInstr c.val (wordsOf s c.val [r, ea]) (atomicOk s c.val r ea) none (fun pc t => do
    let (w, t1) ← readOp c.val 4 pc r t
    let (a, t2) ← atomicEa c.val pc ea t1
    storeTags t2 c.val a 4 w
    mpuCheck (getMpu t2 c.val) (ringOf t2 c.val) a .write
    let held := (getCore t2 c.val).resv == some (a / 16)
    let t3 := if held then memStore c.val a 4 w (drainFor c.val a t2) else t2
    return setFlags c.val (zFlags held) (modCore c.val (fun k => { k with resv := none }) t3)) s)

/-- TAS. -/
def execKTas (c : Fin 4) (r ea : Opnd) (s : State) : Host.Outcome State Fault Refusal :=
  .next (runInstr c.val (wordsOf s c.val [r, ea]) (atomicOk s c.val r ea) none (fun pc t => do
    let (a, t1) ← atomicEa c.val pc ea t
    let (w, t2) ← kLoad c.val a 4 t1
    need (w.tag == .int) (tagStop w.tag (some a))
    mpuCheck (getMpu t2 c.val) (ringOf t2 c.val) a .write
    let t3 ← writeDest c.val 4 (regDest r) w (memStore c.val a 4 ⟨1, .int⟩ t2)
    return setFlags c.val (zFlags (w.val == 0)) t3) s)

end Sys2Proof.Machine
end

