-- ==== Sys2Proof/Machine/KFlow.lean ====
section
/-! DEFINITION. Branches, calls, gates, traps and returns of the keeper cores (R429, R432, R438, R447 to R451, R460 to
R462). -/
namespace Sys2Proof.Machine

/-! ## Branch targets (R402, R430, R436) -/

/-- The targets of Bcc and CALL in the M profile. -/
def mTarget : Opnd → Bool | .pcrel _ => true | .a _ => true | .disp _ _ => true | _ => false

/-- A label of an L-profile branch: a word offset of `n` bits. -/
def lLabel (n : Nat) : Opnd → Bool | .pcrel v => fits (n + 2) v && v.toNat % 4 == 0 | _ => false

/-- A CODE word. -/
def codeOf (w : KWord) : Except Stop (BitVec 32) := if w.tag = .code then .ok w.val else .error (tagStop w.tag)

/-- The target of a branch at `pc`. -/
def targetOf (c : Nat) (pc : BitVec 32) (o : Opnd) (s : State) : Except Stop (BitVec 32) :=
  match o with
  | .pcrel v => .ok (pc + v)
  | .d i => codeOf ((bankNow s c).getD i.val)
  | .a i => codeOf ((bankNow s c).getA i.val)
  | .disp a v => do return (← codeOf ((bankNow s c).getA a.val)) + v
  | _ => .error undefStop

def jump (c : Nat) (a : BitVec 32) (s : State) : State := modCore c (Core.setPc a) s

/-- Bcc: a condition other than AL reads the flags, which may not depend on a secret. (Log entry 191: DEDUCED.) -/
def branch (c cc : Nat) (ok : Bool) (tgt : Opnd) (s : State) : State :=
  runInstr c (wordsOf s c [tgt]) (cc != 15 && ok) none (fun pc t => do
    need (cc == 14 || !(bankNow t c).fs) (tagStop .secret)
    let a ← targetOf c pc tgt t
    return if condHolds (bankNow t c) cc then jump c a t else t) s

/-- Bcc. -/
def execKBcc (c : Fin 4) (cc : Fin 16) (tgt : Opnd) (s : State) : Host.Outcome State Fault Refusal :=
  .next (branch c.val cc.val (if isM s c.val then mTarget tgt else lLabel 22 tgt) tgt s)

/-- BR: to a label, or through a register. -/
def execKBr (c : Fin 4) (tgt : Opnd) (s : State) : Host.Outcome State Fault Refusal :=
  .next (branch c.val 14 (if isM s c.val then mTarget tgt else lLabel 22 tgt || tgt.isReg) tgt s)

/-! ## The shadow stack (R461, R462) -/

def Core.part (k : Core) (ring : Nat) : Sstk :=
  match ring with | 0 => k.part0 | 1 => k.part1 | 2 => k.part2 | _ => k.part3

def Core.setPart (ring : Nat) (p : Sstk) (k : Core) : Core :=
  match ring with
  | 0 => { k with part0 := p } | 1 => { k with part1 := p } | 2 => { k with part2 := p } | _ => { k with part3 := p }

def Core.entry (k : Core) (i : Nat) : BitVec 32 := mget 0 k.sstk i

/-- An entry pushed on a ring's partition. -/
def Core.push (ring : Nat) (w : BitVec 32) (k : Core) : Core :=
  let p := k.part ring
  ({ k with sstk := mset 0 k.sstk p.top w }).setPart ring { p with top := p.top + 1 }

/-- `n` entries popped. -/
def Core.pop (ring n : Nat) (k : Core) : Core := k.setPart ring { k.part ring with top := (k.part ring).top - n }

/-- An entry's kind, its ring field, and its address without the low two or four bits (R462). -/
def entryKind (w : BitVec 32) : Nat := w.toNat % 4
def entryRingOf (w : BitVec 32) : Nat := fld w.toNat 3 2
def entryAddr (w : BitVec 32) : BitVec 32 := w &&& 0xFFFFFFFC#32
def entryA7 (w : BitVec 32) : BitVec 32 := w &&& 0xFFFFFFF0#32

def overflowStop (ring : Nat) : Stop := .exc ⟨0x0A, ring, none⟩
def underflowStop (ring : Nat) : Stop := .exc ⟨0x0B, ring, none⟩
def cfiStop (ring : Nat) (w : BitVec 32) : Stop := .exc ⟨0x0C, ring, some (entryAddr w).toNat⟩

/-- CALL (R438, R461), with PC at the return address. -/
def callTo (c : Nat) (a : BitVec 32) (s : State) : Except Stop State := do
  let k := getCore s c
  let ring := k.bank.ring
  need (decide ((k.part ring).top < (k.part ring).fin)) (overflowStop ring)
  let k1 := (k.setBank (k.bank.setA 6 ⟨k.pc, .code⟩)).push ring (entryAddr k.pc)
  return setCore c (k1.setPc a) s

/-- CALL. -/
def execKCall (c : Fin 4) (tgt : Opnd) (s : State) : Host.Outcome State Fault Refusal :=
  .next (runInstr c.val (wordsOf s c.val [tgt]) (if isM s c.val then mTarget tgt else lLabel 26 tgt || tgt.isReg) none
    (fun pc t => do
      let a ← targetOf c.val pc tgt t
      callTo c.val a t) s)

/-- RET (R438, R461). -/
def execKRet (c : Fin 4) (s : State) : Host.Outcome State Fault Refusal :=
  .next (runInstr c.val 1 true none (fun _ t => do
    let k := getCore t c.val
    let ring := k.bank.ring
    let p := k.part ring
    let a ← codeOf (k.bank.getA 6)
    need (decide (p.base < p.top)) (underflowStop ring)
    let w := k.entry (p.top - 1)
    need (entryKind w == 0 && entryAddr w == a) (cfiStop ring w)
    return setCore c.val ((k.pop ring 1).setPc a) t) s)

/-! ## Gates (R448 to R451) -/

/-- Word `w` of a gate. -/
def Core.gate (k : Core) (g w : Nat) : BitVec 32 := mget 0 k.gates (4 * g + w)

def gateTarget (w1 : BitVec 32) : Nat := fld w1.toNat 1 0

/-- The gate's frame and return entries, and the switch of stack, ring and PC (R450 steps 6 and 7). -/
def Core.enterGate (g : Nat) (k : Core) : Core :=
  let w1 := k.gate g 1
  let target := gateTarget w1
  let b := k.bank
  let switch := nbit w1.toNat 8 && b.ring != target
  let frame := if switch then entryA7 (b.getA 7).val ||| BitVec.ofNat 32 (4 * b.ring + 3) else BitVec.ofNat 32 (4 * b.ring + 2)
  let b1 := if switch then b.setA 7 ⟨k.gate g 2, .addr⟩ else b
  let k1 := (k.push target frame).push target (entryAddr k.pc ||| 1#32)
  (k1.setBank { b1 with ring := target }).setPc (k.gate g 0)

/-- CALLG through gate `g` (R450 steps 2 to 7). (Log entry 192: DEDUCED.) -/
def callGate (c g : Nat) (s : State) : Except Stop State := do
  let k := getCore s c
  let w1 := k.gate g 1
  let target := gateTarget w1
  let a7 := k.bank.getA 7
  need (!k.sb) privStop
  need (nbit w1.toNat 31 && nbit w1.toNat (4 + k.bank.ring)) (gateStop g)
  need (!(nbit w1.toNat 8 && k.bank.ring != target) || (a7.tag == .addr && a7.val.toNat % 16 == 0)) (busStop a7.val.toNat)
  need (decide ((k.part target).top + 2 ≤ (k.part target).fin)) (overflowStop target)
  return setCore c (k.enterGate g) s

/-- CALLG: a gate number, or a word tagged GATE. -/
def execKCallg (c : Fin 4) (g : Opnd) (s : State) : Host.Outcome State Fault Refusal :=
  let ok := match g with
    | .imm v => decide (v.toNat < 256)
    | _ => if isM s c.val then g.mOk else g.isReg
  .next (runInstr c.val (wordsOf s c.val [g]) ok none (fun pc t =>
    match g with
    | .imm v => callGate c.val v.toNat t
    | _ => do
      let (w, t1) ← readOp c.val 4 pc g t
      need (w.tag == .gate) (tagStop w.tag)
      callGate c.val (w.val.toNat % 256) t1) s)

/-- The return from a gate (R451); as every RETX it ends the reservation (R440). -/
def gateReturn (c : Nat) (s : State) : Except Stop State := do
  let k := getCore s c
  let ring := k.bank.ring
  let p := k.part ring
  let top := k.entry (p.top - 1)
  let frame := k.entry (p.top - 2)
  need (decide (p.base + 2 ≤ p.top)) (underflowStop ring)
  need (entryKind top == 1) (cfiStop ring top)
  need (2 ≤ entryKind frame) (cfiStop ring frame)
  let b := k.bank
  let b1 := if entryKind frame = 3 then b.setA 7 ⟨entryA7 frame, .addr⟩ else b
  return setCore c { ((k.pop ring 2).setBank { b1 with ring := entryRingOf frame }).setPc (entryAddr top) with resv := none } s

/-! ## TRAP and RETX (R452, R455, R460) -/

/-- TRAP. -/
def execKTrap (c : Fin 4) (n : Fin 256) (s : State) : Host.Outcome State Fault Refusal :=
  .next (runInstr c.val (wordsOf s c.val [.imm 0]) true none (fun _ t =>
    .ok (excEntry c.val ⟨2, n.val, none⟩ (getCore t c.val).pc t)) s)

/-- The return from an exception (R460), by a RETX at `pc`. -/
def excReturn (c : Nat) (pc : BitVec 32) (s : State) : Except Stop State := do
  let k := getCore s c
  let a ← codeOf (k.shadow.getA 6)
  if k.main.ring < k.entryRing then return lockupWith c ⟨0xC1, k.main.ring, none⟩ (jump c pc s)
  else return setCore c { k with sb := false, pc := a, resv := none } s

/-- RETX. -/
def execKRetx (c : Fin 4) (s : State) : Host.Outcome State Fault Refusal :=
  .next (runInstr c.val 1 true none (fun pc t =>
    if (getCore t c.val).sb then excReturn c.val pc t else gateReturn c.val t) s)

end Sys2Proof.Machine
end

