-- ==== Sys2Proof/Machine/KSys.lean ====
section
/-! DEFINITION. System registers, waits and fences of the keeper cores (R407, R408, R432, R443, R448, R449, R462). -/
namespace Sys2Proof.Machine

/-! ## WAIT and fences (R432, R446, R475, R485) -/

/-- WAIT: rings 0 and 1. -/
def execKWait (c : Fin 4) (s : State) : Host.Outcome State Fault Refusal :=
  .next (runInstr c.val 1 true none (fun _ t => do
    need (decide (ringOf t c.val < 2)) privStop
    return modCore c.val (fun k => { k with waiting := true }) t) s)

/-- FENCE: every earlier access has completed, buffered stores included. -/
def execKFence (c : Fin 4) (s : State) : Host.Outcome State Fault Refusal :=
  .next (runInstr c.val 1 true none (fun _ t => .ok (drainAll c.val t)) s)

/-- FENCE.I: rings 0 and 1. -/
def execKFenceI (c : Fin 4) (s : State) : Host.Outcome State Fault Refusal :=
  .next (runInstr c.val 1 true none (fun _ t => do
    need (decide (ringOf t c.val < 2)) privStop
    return drainAll c.val t) s)

/-! ## Reading system registers (R407) -/

/-- A gate's or the shadow stack's word under its selector, with its RSV bits. -/
def gateData (k : Core) : Nat × Nat :=
  let w := k.gateSel / 256
  ((k.gate (k.gateSel % 256) w).toNat, if w = 1 then msk 3 2 + msk 30 9 else 0)

def partWord (p : Sstk) : Nat := p.base + shl p.fin 10 + shl p.top 20

def sstkData (k : Core) : Nat × Nat :=
  if k.sstkSel < 512 then ((k.entry k.sstkSel).toNat, 0) else (partWord (k.part (k.sstkSel - 512)), msk 31 30)

/-- The value of a system register and its RSV bits. -/
def sysReg (s : State) (c : Nat) (pc : BitVec 32) (n : Nat) : Nat × Nat :=
  let k := getCore s c
  match n with
  | 0 => (pc.toNat, 0)
  | 1 => (stWord k, msk 31 9)
  | 2 => (k.vecbase.val.toNat, 0)
  | 3 => (k.cause, msk 31 17)
  | 4 => (k.addrFault, 0)
  | 5 => (k.entryRing, 0)
  | 6 => (k.bank.prog, msk 30 30)
  | 7 => (c, 0)
  | 8 => (b2n k.profileM, 0)
  | 10 => (k.cycleHi, 0)
  | 11 => (s.tick % 2 ^ 32, 0)
  | 12 => (k.gateSel, msk 31 10)
  | 13 => gateData k
  | 14 => (k.sstkSel, msk 31 10)
  | _ => sstkData k

/-- The register may be read in a ring. -/
def sysReadable (n ring : Nat) : Bool := n < 16 && (ring == 0 || n == 0 || n == 1 || (7 ≤ n && n ≤ 11))

/-- The tag that MFS gives. -/
def sysTag (b : KBank) (n : Nat) : Tag :=
  match n with
  | 0 => .code
  | 1 => if b.fs then .secret else .int
  | 2 => .code
  | _ => .int

/-- A read of a system register. The cycle count is not modelled: CYCLE_LO and the CYCLE_HI it latches are free values.
(Log entry 187: DESIGN CHOICE.) -/
def sysRead (s : State) (c : Nat) (pc : BitVec 32) (n : Nat) : KWord × State :=
  if n = 9 then
    let t := useFree s
    (⟨BitVec.ofNat 32 (freeNow s), .int⟩,
      useFree (modCore c (fun k => { k with cycleHi := freeNow t % 2 ^ 32 }) t))
  else
    let r := sysReg s c pc n
    let w := regWord r.1 r.2 s
    (⟨w.1.val, sysTag (bankNow s c) n⟩, w.2)

/-- MFS. -/
def execKMfs (c : Fin 4) (d : Opnd) (n : Fin 256) (s : State) : Host.Outcome State Fault Refusal :=
  .next (runInstr c.val (wordsOf s c.val [d, .imm 0]) (shapeOk s c.val (some d) [.imm 0] fun _ => true) none
    (opBody c.val 4 d [] fun _ t => do
      need (sysReadable n.val (ringOf t c.val)) (privStop n.val)
      return sysRead t c.val (getCore s c.val).pc n.val) s)

/-! ## Writing system registers (R407, R408, R443, R448, R449, R462) -/

def sysWritable (n ring : Nat) : Bool :=
  n == 1 || (ring == 0 && (n == 2 || n == 6 || (12 ≤ n && n ≤ 15)))

/-- MTS of ST: the flags, FS with a SECRET word, and IE from rings 0 and 1. -/
def KBank.writeSt (w : KWord) (b : KBank) : KBank :=
  let v := w.val.toNat
  { b with
    c := nbit v 0, v := nbit v 1, z := nbit v 2, n := nbit v 3, fs := nbit v 4 || w.tag == .secret
    ie := if b.ring < 2 then nbit v 5 else b.ie }

/-- A selected entry or descriptor of the shadow stack written. -/
def Core.writeSstk (v : BitVec 32) (k : Core) : Core :=
  let i := k.sstkSel
  let n := v.toNat
  if i < 512 then { k with sstk := mset 0 k.sstk i v }
  else
    let p : Sstk := ⟨fld n 9 0, fld n 19 10, fld n 29 20⟩
    if p.base ≤ p.top && p.top ≤ p.fin then k.setPart (i - 512) p else k

/-- A system register written, with the tag checks of R407 and R449. -/
def Core.sysWrite (n : Nat) (w : KWord) (k : Core) : Except Stop Core :=
  let v := w.val.toNat
  match n with
  | 1 => .ok (k.setBank (k.bank.writeSt w))
  | 2 => if w.tag = .code then .ok { k with vecbase := w } else .error (tagStop w.tag)
  | 6 => .ok (k.setBank { k.bank with prog := fld v 29 0 + shl (fld v 31 31) 31 })
  | 12 => .ok (if fld v 9 8 = 3 then k else { k with gateSel := fld v 9 0 })
  | 13 =>
    let e := 4 * (k.gateSel % 256) + k.gateSel / 256
    match k.gateSel / 256 with
    | 0 => if w.tag = .code then .ok { k with gates := mset 0 k.gates e w.val } else .error (tagStop w.tag)
    | 1 => .ok { k with gates := mset 0 k.gates e (w.val &&& 0x800001F3#32) }
    | _ => if w.tag = .addr then .ok { k with gates := mset 0 k.gates e w.val } else .error (tagStop w.tag)
  | 14 => .ok (if 515 < fld v 9 0 then k else { k with sstkSel := fld v 9 0 })
  | _ => .ok (k.writeSstk w.val)

/-- MTS. -/
def execKMts (c : Fin 4) (n : Fin 256) (a : Opnd) (s : State) : Host.Outcome State Fault Refusal :=
  .next (runInstr c.val (wordsOf s c.val [.imm 0, a]) (shapeOk s c.val none [a] noImm) none (fun pc t => do
    need (sysWritable n.val (ringOf t c.val)) (privStop n.val)
    let (w, t1) ← readOp c.val 4 pc a t
    notErr w
    let k ← (getCore t1 c.val).sysWrite n.val w
    return setCore c.val k t1) s)

/-! ## XB (R432, R457) -/

/-- A register of the interrupted bank. -/
def mainReg (k : Core) : Opnd → KWord
  | .d i => k.main.getD i.val
  | .a i => k.main.getA i.val
  | _ => {}

/-- XB: ring 0 alone, and undefined with SB 0. -/
def execKXb (c : Fin 4) (d a : Opnd) (s : State) : Host.Outcome State Fault Refusal :=
  .next (runInstr c.val (wordsOf s c.val [d]) ((getCore s c.val).sb && a.isReg && shapeOk s c.val (some d) [] noImm) none
    (opBody c.val 4 d [] fun _ t => do
      need (ringOf t c.val == 0) privStop
      return (mainReg (getCore t c.val) a, t)) s)

end Sys2Proof.Machine
end

