-- ==== Sys2Proof/Machine/KLong.lean ====
section
/-! DEFINITION. The long instructions of the keeper cores (R441 to R445). -/
namespace Sys2Proof.Machine

/-- How a run of words ends: with all of them, at a word not processed, or at a word that stops. -/
structure LongEnd where
  st : State
  done : Nat
  stop : Option Stop

/-- Words `i`, `i + 1`, … (`n` of them). -/
def longLoop (word : Nat → State → Except Stop State) : Nat → Nat → State → LongEnd
  | 0, i, s => ⟨s, i, none⟩
  | n + 1, i, s =>
    match word i s with
    | .ok t => longLoop word n (i + 1) t
    | .error e => ⟨s, i, some e⟩

/-- PROG of an unfinished instruction (R443). -/
def progWord (opc done : Nat) : Nat := done + shl opc 24 + 2 ^ 31

def setProg (c v : Nat) (s : State) : State := modCore c (fun k => k.setBank { k.bank with prog := v }) s

/-- The word that a long instruction begins with (R444). -/
def longStart (prog opc count : Nat) : Nat :=
  if nbit prog 31 && fld prog 29 24 == opc && fld prog 23 0 < count then fld prog 23 0 else 0

/-- A long instruction: `first` is its first address, `stop` the number of words after which it takes an interrupt. PC is
at the next instruction; an unfinished one leaves it on itself. (Log entry 194: DEDUCED.) -/
def longBody (c opc : Nat) (first : BitVec 32) (stop : Option Nat) (word : Nat → State → Except Stop State)
    (pc : BitVec 32) (s : State) : Except Stop State := do
  let d0 := (bankNow s c).getD 0
  need (d0.tag == .int) (tagStop d0.tag)
  need (decide (d0.val.toNat < 2 ^ 24)) (busStop first.toNat)
  let count := d0.val.toNat
  let start := longStart (bankNow s c).prog opc count
  let n := match stop with | some k => min k (count - start) | none => count - start
  let r := longLoop word n start s
  match r.stop with
  | none =>
    if r.done < count then return jump c pc (setProg c (progWord opc r.done) r.st) else return setProg c 0 r.st
  | some e =>
    let t := jump c pc (setProg c (progWord opc r.done) r.st)
    match e with
    | .exc x => return excEntry c x pc t
    | .stall => return stallRead c none pc t

/-- A long instruction with its encoding. -/
def runLong (c opc : Nat) (ok : Bool) (first : BitVec 32) (stop : Option Nat) (word : Nat → State → Except Stop State)
    (s : State) : State :=
  runInstr c 1 ok none (longBody c opc first stop word) s

/-- The address of word `i` from an A register, which is to be ADDR. -/
def wordAddr (s : State) (c : Nat) (a : Fin 8) (i : Nat) : Except Stop Nat := do
  return ((← baseOf s c a) + BitVec.ofNat 32 (4 * i)).toNat

/-- An A register's value. -/
def aVal (s : State) (c : Nat) (a : Fin 8) : BitVec 32 := ((bankNow s c).getA a.val).val

/-- BMOV. -/
def execKBmov (c : Fin 4) (dst src : Fin 8) (stop : Option (BitVec 24)) (s : State) : Host.Outcome State Fault Refusal :=
  .next (runLong c.val 0x30 true (aVal s c.val dst) (stop.map BitVec.toNat) (fun i t => do
    let d ← wordAddr t c.val dst i
    let a ← wordAddr t c.val src i
    let (w, t1) ← kLoad c.val a 4 t
    kStore c.val d 4 w t1) s)

/-- BZERO. -/
def execKBzero (c : Fin 4) (dst : Fin 8) (stop : Option (BitVec 24)) (s : State) : Host.Outcome State Fault Refusal :=
  .next (runLong c.val 0x31 true (aVal s c.val dst) (stop.map BitVec.toNat) (fun i t => do
    kStore c.val (← wordAddr t c.val dst i) 4 ⟨0, .int⟩ t) s)

/-- One word of a CRC: its four bytes, lowest first, through the reflected polynomial, without inversion. -/
def crcWord (poly : Nat) (acc w : BitVec 32) : BitVec 32 :=
  BitVec.ofNat 32 ((le 4 w.toNat).foldl (fun r b => crcByte poly r b.toNat) acc.toNat)

/-- A CRC over words: Dacc is not D0. -/
def crcRun (c poly : Nat) (acc : Fin 16) (src : Fin 8) (stop : Option (BitVec 24)) (s : State) : State :=
  runLong c 0x32 (acc.val != 0) (aVal s c src) (stop.map BitVec.toNat) (fun i t => do
    let a ← wordAddr t c src i
    let (w, t1) ← kLoad c a 4 t
    let x := (bankNow t1 c).getD acc.val
    let g ← arithTag x.tag w.tag
    return setBankD c acc.val ⟨crcWord poly x.val w.val, g⟩ t1) s

/-- BCRC: the reflected form of 0x04C1_1DB7. -/
def execKBcrc (c : Fin 4) (acc : Fin 16) (src : Fin 8) (stop : Option (BitVec 24)) (s : State) :
    Host.Outcome State Fault Refusal :=
  .next (crcRun c.val 0xEDB88320 acc src stop s)

/-- BCRCC: the reflected form of 0x1EDC_6F41. -/
def execKBcrcc (c : Fin 4) (acc : Fin 16) (src : Fin 8) (stop : Option (BitVec 24)) (s : State) :
    Host.Outcome State Fault Refusal :=
  .next (crcRun c.val 0x82F63B78 acc src stop s)

/-- A sum of products of word pairs. -/
def macRun (c : Nat) (f : BitVec 32 → BitVec 32 → Int) (q : Fin 4) (a b : Fin 8) (stop : Option (BitVec 24)) (s : State) :
    State :=
  runLong c 0x33 true (aVal s c a) (stop.map BitVec.toNat) (fun i t => do
    let x ← wordAddr t c a i
    let y ← wordAddr t c b i
    let (u, t1) ← kLoad c x 4 t
    let (v, t2) ← kLoad c y 4 t1
    let acc ← macOp f (getAcc t2 c q.val) [u, v]
    return setAcc c q.val acc t2) s

/-- BMAC. -/
def execKBmac (c : Fin 4) (q : Fin 4) (a b : Fin 8) (stop : Option (BitVec 24)) (s : State) :
    Host.Outcome State Fault Refusal :=
  .next (macRun c.val unsignedProduct q a b stop s)

/-- BMACS. -/
def execKBmacs (c : Fin 4) (q : Fin 4) (a b : Fin 8) (stop : Option (BitVec 24)) (s : State) :
    Host.Outcome State Fault Refusal :=
  .next (macRun c.val signedProduct q a b stop s)

end Sys2Proof.Machine
end

