-- ==== Sys2Proof/Machine/Debug.lean ====
section
/-! DEFINITION. The test access port and debug access (25 of spec/). -/
namespace Sys2Proof.Machine

def modDebug (f : Debug → Debug) (s : State) : State := { s with tap := f s.tap }

/-- The TAP works while the logic die is powered. (Log entry 158: DEDUCED.) -/
def tapAlive (s : State) : Bool := powered s

/-- DROPS advances (R623). -/
def countDrop (s : State) : State := modDebug (fun g => { g with drops := satAdd 65535 g.drops 1 }) s

/-- An instruction other than EXTEST is in force, so the lands are no longer driven. -/
def endExtest (s : State) : State := modDebug (fun g => { g with extest := false }) s

/-- What an instruction that is not permitted does: it acts as BYPASS and advances DROPS (R618). -/
def actBypass (s : State) : State := countDrop (modDebug (fun g => { g with bypass := false, extest := false }) s)

/-- Bits of PERMS (R619). -/
def permBscan : Nat := 0
def permKeeper : Nat := 1
def permReset : Nat := 2

/-! ## Attach and detach (R620) -/

/-- The debug master attaches: RESTRICT is forced (R526). (Log entry 159: DEDUCED.) -/
def attach (s : State) : State :=
  let s1 := abortWhere (fun o => isPrivateOp o.desc) stAborted 3 { s with tap := { s.tap with attached := true } }
  announceIf s (logFw (fwEntry s1 0x06 0x0A 3 (debugPerms s) 0 0) (raise 14 s1))

def detach (s : State) : State :=
  if !s.tap.attached then s
  else
    let s1 := { s with tap := { s.tap with attached := false } }
    announceIf s (logFw (fwEntry s1 0x06 0x0B 3 (debugPerms s) 0 0) (raise 14 s1))

/-- An instruction that needs a PERMS bit and attaches: `f` runs where it is permitted and the attach is not refused. -/
def attached (bit : Nat) (f : State → State) (s : State) : State :=
  if !tapAlive s then s
  else if !nbit (debugPerms s) bit then actBypass s
  else if s.tap.attached then f s
  else if recordBlock s ≠ 0 then actBypass s
  else f (attach s)

/-! ## Resets (R66, R620) -/

/-- A start that follows a power-on or a brown-out is in progress: it absorbs a debug reset (R67). -/
def coldStart (s : State) : Bool := s.boot.kind != 5 && (match s.power.phase with | .booting _ => true | _ => false)

/-- A debug reset: the logic die and the DRAM stack as at power-on, lock-outs timed by ticks in full (R122), and the start
resumes at step 4 of R68. Its cause joins those recorded (R67). (Log entry 35: DEDUCED.) -/
def debugReset (s : State) : State :=
  let c := setBit s.clocks.resetCause 2
  if coldStart s then { s with clocks := { s.clocks with resetCause := c } }
  else
    let t := restartLocks (logicReset (endCeremony s))
    driveLockup s { t with
      power := { t.power with phase := .booting 3 }
      clocks := { t.clocks with resetCause := c }
      boot := { t.boot with kind := 5 }
      flash := { t.flash with xo := [], xoLock := false }
      tap := { t.tap with halt := 0, drops := 0 } }

/-- DEBUG_RESET (R66, R618). -/
def execDebugReset (s : State) : Host.Outcome State Fault Refusal :=
  .next (attached permReset (fun t => debugReset (endExtest t)) s)

/-- TAP_RESET (R619, R620): a TAP reset, or TRST_N asserted. (Log entry 165: DEDUCED.) -/
def execTapReset (s : State) : Host.Outcome State Fault Refusal :=
  .next (if !tapAlive s then s
    else modDebug (fun g => { g with cert := none, extest := false, bypass := false }) (detach s))

/-! ## Boundary scan (R618) -/

/-- BYPASS (R618): one bit lies between TDI and TDO, and 0 is captured in it. -/
def execBypass (tdi : List Bool) (s : State) : Host.Outcome State Fault Refusal :=
  let out := (false :: tdi).dropLast
  .next (if !tapAlive s then s
    else emit (.tap (bitsNat out.length fun i => out.getD i false))
      (modDebug (fun g => { g with bypass := tdi.getLastD false, extest := false }) s))

/-- IDCODE (R618). -/
def execIdcode (s : State) : Host.Outcome State Fault Refusal :=
  .next (if !tapAlive s then s else emit (.tap 0x1640A2B7) (endExtest s))

/-- SAMPLE_PRELOAD (R618): the lands' levels leave, which the model does not hold, and the preload value enters.
(Log entry 160: DESIGN CHOICE.) -/
def execSamplePreload (pre : Nat) (s : State) : Host.Outcome State Fault Refusal :=
  .next (if !tapAlive s then s
  else if !nbit (debugPerms s) permBscan then actBypass s
  else emit (.tap (freeNow s)) (useFree (modDebug (fun g => { g with boundary := pre, extest := false }) s)))

/-- EXTEST (R618): a debug reset, and then the lands are driven from the boundary-scan register. (Log entry 161: DEDUCED.) -/
def execExtest (drive : Nat) (s : State) : Host.Outcome State Fault Refusal :=
  .next (attached permBscan (fun t => modDebug (fun g => { g with boundary := drive, extest := true }) (debugReset t)) s)

/-! ## Certificates (R619, R631) -/

/-- The bytes are a certificate of this module at this boot count, with the owner's signer block. -/
def certOk (s : State) (b : Bytes) (c : DebugCert) : Bool :=
  b.length == 5488 && slice b 0 4 == [0x47, 0x48, 0x44, 0x43] && slice b 4 8 == slice Config.serial 0 8 &&
  c.covers s.backup.bootCount && c.perms < 8 && allZero (slice b 18 6) &&
  signerOk s.owner.rootFuse (b.drop 24) (primBytes (.hash 2) 48 [slice b 0 24])

/-- Firmware runs, or ROM after a failed boot. -/
def judgesCert (s : State) : Bool := passed s 6 || s.power.phase == .bootFailed

/-- CERT_LOAD (R619). (Log entry 166: DEDUCED.) -/
def execCertLoad (cert : Bytes) (s : State) : Host.Outcome State Fault Refusal :=
  let c : DebugCert := { first := leAt cert 12 4, span := byteAt cert 16, perms := byteAt cert 17 }
  .next (if !tapAlive s then s
    else if judgesCert s && certOk s cert c then modDebug (fun g => { g with cert := some c, extest := false }) s
    else endExtest s)

/-! ## DBG_ACCESS to memory (R621) -/

/-- The places that DBG_ACCESS reaches. -/
def dbgReach (a : Nat) : Bool :=
  match locate a with
  | some (.shared _) => true
  | some (.flash _) => true
  | some (.reg _) => true
  | _ => false

/-- Core 0's regions permit the transfer as a ring-0 access, decided by one region (R482, R621). -/
def dbgMpuOk (s : State) (a n : Nat) (k : Access) : Bool :=
  let m := getMpu s 0
  !m.en || (match m.deciding a with
    | none => false
    | some r => permits (m.region r).attr 0 k && (List.range n).all fun i => m.deciding (a + 4 * i) == some r)

/-- The transfer is made and not refused. -/
def dbgAllowed (s : State) (a n : Nat) (k : Access) : Bool :=
  decide (1 ≤ n) && decide (n ≤ 64) && a % 4 == 0 && (List.range n).all (fun i => dbgReach (a + 4 * i)) && dbgMpuOk s a n k

/-- A SECRET word is hidden. -/
def hideSecret (w : KWord) : KWord := if w.tag = .secret then errWord else w

/-- A register read as core 0 reads it in ring 0, whose own latch of R398 stays. (Log entry 162: DEDUCED.) -/
def dbgRegRead (off : Nat) (s : State) : KWord × State :=
  match regLoad 0 off (modCore 0 (fun k => { k with hiLatch := none }) s) with
  | .ok (w, t) => (hideSecret w, modCore 0 (fun k => { k with hiLatch := (getCore s 0).hiLatch }) t)
  | .error _ => (errWord, s)

/-- A word read. -/
def dbgLoad (a : Nat) (s : State) : KWord × State :=
  match locate a with
  | some (.shared w) => (hideSecret (memWord s 0 (.shared w)), s)
  | some (.flash off) => if off / 16384 < 2048 then windowRead off .clean s else (errWord, s)
  | some (.reg off) => if off / 65536 = 10 || off = 0x90008 then (errWord, s) else dbgRegRead off s
  | _ => (errWord, s)

/-- The words of a read, first to last. -/
def dbgLoads : Nat → Nat → State → State
  | 0, _, s => s
  | n + 1, a, s =>
    let r := dbgLoad a s
    dbgLoads n (a + 4) (emit (.tap (r.1.val.toNat + shl r.1.tag.num 32)) r.2)

/-- DBG_HALT written (R625): HALT, and one instruction for each halted core named in STEP. -/
def haltStore (v : Nat) (s : State) : State :=
  let s1 := modDebug (fun g => { g with halt := fld v 3 0 }) s
  (List.range 4).foldl (fun t n => modCore n (fun k => { k with step := haltedCore t n && (k.step || nbit v (8 + n)) }) t) s1

/-- Register blocks that debug never writes: KST_, FLC_, CLG_, WCH_ and BKD_. -/
def dbgClosed (off : Nat) : Bool :=
  let b := off / 65536
  b == 10 || b == 11 || b == 12 || b == 14 || b == 15 || off == 0x90008

/-- A word written: into memory only over an INT word, and dropped where R621 says so. -/
def dbgStore (a : Nat) (v : BitVec 32) (s : State) : State :=
  match locate a with
  | some (.shared w) =>
    if (memWord s 0 (.shared w)).tag = .int then putWord 0 (.shared w) ⟨v, .int⟩ (loseResv none a s) else countDrop s
  | some (.reg off) =>
    if dbgClosed off then countDrop s
    else if off = 0x150008 then haltStore v.toNat s
    else if isSend off then sendWord 0 ((off - 0x100) / 4) ⟨v, .int⟩ s
    else keeperStore 0 0 off v.toNat s
  | _ => countDrop s

def dbgStores : List (BitVec 32) → Nat → State → State
  | [], _, s => s
  | v :: l, a, s => dbgStores l (a + 4) (dbgStore a v s)

/-- A transfer of memory words. -/
def dbgMem (a : Nat) (x : DbgXfer) (s : State) : State :=
  match x with
  | .read n => if dbgAllowed s a (n.val + 1) .read then dbgLoads (n.val + 1) a s else countDrop s
  | .write ws => if dbgAllowed s a ws.length .write then dbgStores ws a s else countDrop s

/-! ## DBG_ACCESS to a halted core's registers (R621) -/

/-- The bank that a debug master names. -/
def Core.bankAt (sh : Bool) (k : Core) : KBank := if sh then k.shadow else k.main
def Core.setBankAt (sh : Bool) (b : KBank) (k : Core) : Core := if sh then { k with shadow := b } else { k with main := b }

/-- A register of a core, read in ring 0. -/
def coreRegRead (c : Nat) (r : CoreReg) (s : State) : KWord × State :=
  let k := getCore s c
  match r with
  | .d sh i => ((k.bankAt sh).getD i.val, s)
  | .a sh i => ((k.bankAt sh).getA i.val, s)
  | .q i p => let q := getAcc s c i.val; (⟨BitVec.ofNat 32 (q.val.toNat / 2 ^ (32 * p.val)), q.tag⟩, s)
  | .sys n => sysRead s c k.pc n.val

/-- A register's new value; what MTS cannot write in ring 0 is dropped. (Log entry 163: DEDUCED.) -/
def coreRegPut (c : Nat) (r : CoreReg) (v : BitVec 32) (s : State) : State :=
  let k := getCore s c
  let w : KWord := ⟨v, .int⟩
  match r with
  | .d sh i => setCore c (k.setBankAt sh ((k.bankAt sh).setD i.val w)) s
  | .a sh i => setCore c (k.setBankAt sh ((k.bankAt sh).setA i.val w)) s
  | .q i p =>
    let q := getAcc s c i.val
    let n := setFld q.val.toNat (32 * p.val + 31) (32 * p.val) v.toNat
    setCore c { k with q := mset {} k.q i.val { q with val := BitVec.ofNat 68 n } } s
  | .sys n =>
    if !sysWritable n.val 0 then countDrop s
    else match k.sysWrite n.val w with
      | .ok k1 => setCore c k1 s
      | .error _ => countDrop s

/-- A transfer of one register: the old value must be INT for a write. (Log entry 164: DEDUCED.) -/
def dbgCore (c : Nat) (r : CoreReg) (x : DbgXfer) (s : State) : State :=
  if !haltedCore s c then countDrop s
  else match x with
    | .read n =>
      if n.val ≠ 0 then countDrop s
      else
        let q := coreRegRead c r s
        let w := hideSecret q.1
        emit (.tap (w.val.toNat + shl w.tag.num 32)) q.2
    | .write [v] => if (coreRegRead c r s).1.tag = .int then coreRegPut c r v s else countDrop s
    | .write _ => countDrop s

/-- A debug transfer (R621). -/
def dbgTransfer (t : DbgTarget) (x : DbgXfer) (s : State) : State :=
  match t with
  | .mem a => dbgMem a.toNat x s
  | .core c r => dbgCore c.val r x s

/-- DBG_ACCESS (R618, R620, R621). -/
def execDbgAccess (t : DbgTarget) (x : DbgXfer) (s : State) : Host.Outcome State Fault Refusal :=
  .next (whenRuns kprRuns (fun s => attached permKeeper (fun u => dbgTransfer t x (endExtest u)) s) s)

/-! ## DBG_HALT (R625) -/

/-- A write of one word to DBG_HALT by the debug master. -/
def dbgHaltWrite (v : Nat) (s : State) : State :=
  attached permKeeper (fun u => dbgMem 0x40150008 (.write [BitVec.ofNat 32 v]) (endExtest u)) s

/-- DEBUG_HALT: HALT as given, STEP 0. -/
def execDebugHalt (halt : Fin 16) (s : State) : Host.Outcome State Fault Refusal := .next (whenRuns kprRuns (fun s =>
    dbgHaltWrite halt.val s) s)

/-- DEBUG_STEP: HALT as it stands, STEP as given. (Log entry 169: DEDUCED.) -/
def execDebugStep (cores : Fin 16) (s : State) : Host.Outcome State Fault Refusal :=
  .next (whenRuns kprRuns (fun s => dbgHaltWrite (s.tap.halt + shl cores.val 8) s) s)

end Sys2Proof.Machine
end

