-- ==== Sys2Proof/Machine/Dispatch.lean ====
section
/-! DEFINITION. exec: one arm per command, each a direct call of its meaning. -/
namespace Sys2Proof.Machine

/-- A command's effect on everything but the queue. -/
def exec (i : Instr) (s : State) : Host.Outcome State Fault Refusal :=
  match i with
  | .powerStart => Sys2Proof.Machine.execPowerStart s
  | .vinSample mv ma low => Sys2Proof.Machine.execVinSample mv ma low s
  | .clampMsDecay => Sys2Proof.Machine.execClampMsDecay s
  | .overvoltageStop => Sys2Proof.Machine.execOvervoltageStop s
  | .brownoutStop => Sys2Proof.Machine.execBrownoutStop s
  | .stopFlushComplete => Sys2Proof.Machine.execStopFlushComplete s
  | .holdupLowDetect vhu => Sys2Proof.Machine.execHoldupLowDetect vhu s
  | .governorBandFall => Sys2Proof.Machine.execGovernorBandFall s
  | .governorBandRise => Sys2Proof.Machine.execGovernorBandRise s
  | .clockStretch => Sys2Proof.Machine.execClockStretch s
  | .stretchRelease => Sys2Proof.Machine.execStretchRelease s
  | .thermalThrottleStep tj cl => Sys2Proof.Machine.execThermalThrottleStep tj cl s
  | .thermalShutdown tj cl => Sys2Proof.Machine.execThermalShutdown tj cl s
  | .clockLoss k => Sys2Proof.Machine.execClockLoss k s
  | .dramSelfRefreshEntry => Sys2Proof.Machine.execDramSelfRefreshEntry s
  | .dramWakeComplete => Sys2Proof.Machine.execDramWakeComplete s
  | .pllLock => Sys2Proof.Machine.execPllLock s
  | .bootRom => Sys2Proof.Machine.execBootRom s
  | .firmwareStart bad => Sys2Proof.Machine.execFirmwareStart bad s
  | .readyReport cap vhu => Sys2Proof.Machine.execReadyReport cap vhu s
  | .managementTick edges => Sys2Proof.Machine.execManagementTick edges s
  | .unitEnWrite u v => Sys2Proof.Machine.execUnitEnWrite u v s
  | .unitQuiesce u en => Sys2Proof.Machine.execUnitQuiesce u en s
  | .unitReset u en fw => Sys2Proof.Machine.execUnitReset u en fw s
  | .unitInitComplete u fail => Sys2Proof.Machine.execUnitInitComplete u fail s
  | .unitDrainComplete u => Sys2Proof.Machine.execUnitDrainComplete u s
  | .unitFault u cause => Sys2Proof.Machine.execUnitFault u cause s
  | .policyCommit => Sys2Proof.Machine.execPolicyCommit s
  | .registerWrite t v => Sys2Proof.Machine.execRegisterWrite t v s
  | .registerWideRead t wide => Sys2Proof.Machine.execRegisterWideRead t wide s
  | .hptStrapWrite v => Sys2Proof.Machine.execHptStrapWrite v s
  | .perstAssert n => Sys2Proof.Machine.execPerstAssert n s
  | .perstRelease n => Sys2Proof.Machine.execPerstRelease n s
  | .linkDown n => Sys2Proof.Machine.execLinkDown n s
  | .functionLevelReset d => Sys2Proof.Machine.execFunctionLevelReset d s
  | .vfEnableClear n num => Sys2Proof.Machine.execVfEnableClear n num s
  | .linkTrainingComplete n rate width flit => Sys2Proof.Machine.execLinkTrainingComplete n rate width flit s
  | .l0pRequest n width => Sys2Proof.Machine.execL0pRequest n width s
  | .aspmL1Entry n pollDue => Sys2Proof.Machine.execAspmL1Entry n pollDue s
  | .partnerRateChange n rate => Sys2Proof.Machine.execPartnerRateChange n rate s
  | .configRequest n r => Sys2Proof.Machine.execConfigRequest n r s
  | .correctableError d => Sys2Proof.Machine.execCorrectableError d s
  | .uncorrectableError n => Sys2Proof.Machine.execUncorrectableError n s
  | .dmaReadError tag => Sys2Proof.Machine.execDmaReadError tag s
  | .hostBarAccessBad d read => Sys2Proof.Machine.execHostBarAccessBad d read s
  | .msixUnmask d v => Sys2Proof.Machine.execMsixUnmask d v s
  | .portBeaconWrite n h v => Sys2Proof.Machine.execPortBeaconWrite n h v s
  | .qpSetupWrite d q f h v => Sys2Proof.Machine.execQpSetupWrite d q f h v s
  | .qpConfigWrite d q v => Sys2Proof.Machine.execQpConfigWrite d q v s
  | .qpDomBeaconWrite d h v => Sys2Proof.Machine.execQpDomBeaconWrite d h v s
  | .portLineRead n => Sys2Proof.Machine.execPortLineRead n s
  | .portLineResult n line rtt => Sys2Proof.Machine.execPortLineResult n line rtt s
  | .domainBlockResult d blk rtt => Sys2Proof.Machine.execDomainBlockResult d blk rtt s
  | .doorbellResult d q rec rtt => Sys2Proof.Machine.execDoorbellResult d q rec rtt s
  | .doorbellRecheck d q => Sys2Proof.Machine.execDoorbellRecheck d q s
  | .queueSweep n => Sys2Proof.Machine.execQueueSweep n s
  | .beaconReadFailure r => Sys2Proof.Machine.execBeaconReadFailure r s
  | .descriptorFetchResult d q data rtt => Sys2Proof.Machine.execDescriptorFetchResult d q data rtt s
  | .descriptorAdmission d q => Sys2Proof.Machine.execDescriptorAdmission d q s
  | .mooringCacheFill ix lines => Sys2Proof.Machine.execMooringCacheFill ix lines s
  | .parameterBlockResult tag pb rtt => Sys2Proof.Machine.execParameterBlockResult tag pb rtt s
  | .inputReadResult tag input aux rtt => Sys2Proof.Machine.execInputReadResult tag input aux rtt s
  | .adminCompletionWrite d => Sys2Proof.Machine.execAdminCompletionWrite d s
  | .coalesceTimer d q => Sys2Proof.Machine.execCoalesceTimer d q s
  | .opSeal tag => Sys2Proof.Machine.execOpSeal tag s
  | .opOpen tag => Sys2Proof.Machine.execOpOpen tag s
  | .opReseal tag => Sys2Proof.Machine.execOpReseal tag s
  | .opCipher tag => Sys2Proof.Machine.execOpCipher tag s
  | .opHash tag => Sys2Proof.Machine.execOpHash tag s
  | .opMac tag => Sys2Proof.Machine.execOpMac tag s
  | .opKdf tag => Sys2Proof.Machine.execOpKdf tag s
  | .opPinTranslate tag => Sys2Proof.Machine.execOpPinTranslate tag s
  | .opMoor tag => Sys2Proof.Machine.execOpMoor tag s
  | .opRekey tag => Sys2Proof.Machine.execOpRekey tag s
  | .opUnmoor tag => Sys2Proof.Machine.execOpUnmoor tag s
  | .unmoorRelease ix readBackOk => Sys2Proof.Machine.execUnmoorRelease ix readBackOk s
  | .opMoorQuery tag => Sys2Proof.Machine.execOpMoorQuery tag s
  | .moorQuerySweep tag => Sys2Proof.Machine.execMoorQuerySweep tag s
  | .opPkSign tag => Sys2Proof.Machine.execOpPkSign tag s
  | .opPkVerify tag => Sys2Proof.Machine.execOpPkVerify tag s
  | .opPkAgree tag => Sys2Proof.Machine.execOpPkAgree tag s
  | .opKemEncaps tag => Sys2Proof.Machine.execOpKemEncaps tag s
  | .opKemDecaps tag => Sys2Proof.Machine.execOpKemDecaps tag s
  | .opRsaPrivate tag => Sys2Proof.Machine.execOpRsaPrivate tag s
  | .opRsaPublic tag => Sys2Proof.Machine.execOpRsaPublic tag s
  | .opPkKeygen tag => Sys2Proof.Machine.execOpPkKeygen tag s
  | .opRngFill tag => Sys2Proof.Machine.execOpRngFill tag s
  | .rngFillChunk => Sys2Proof.Machine.execRngFillChunk s
  | .opFence tag => Sys2Proof.Machine.execOpFence tag s
  | .fenceComplete tag => Sys2Proof.Machine.execFenceComplete tag s
  | .laneDispatch => Sys2Proof.Machine.execLaneDispatch s
  | .lanePassComplete tag => Sys2Proof.Machine.execLanePassComplete tag s
  | .laneFullReseed n => Sys2Proof.Machine.execLaneFullReseed n s
  | .laneSeedTimeout n => Sys2Proof.Machine.execLaneSeedTimeout n s
  | .laneScrubComplete tag => Sys2Proof.Machine.execLaneScrubComplete tag s
  | .hashDispatch => Sys2Proof.Machine.execHashDispatch s
  | .hashMessageComplete tag => Sys2Proof.Machine.execHashMessageComplete tag s
  | .pkDispatch => Sys2Proof.Machine.execPkDispatch s
  | .pkOperationComplete tag found => Sys2Proof.Machine.execPkOperationComplete tag found s
  | .pkRandTimeout tag => Sys2Proof.Machine.execPkRandTimeout tag s
  | .pkScrubComplete tag zero => Sys2Proof.Machine.execPkScrubComplete tag zero s
  | .legacyUnitTranslation => Sys2Proof.Machine.execLegacyUnitTranslation s
  | .adminDescriptorServe d data => Sys2Proof.Machine.execAdminDescriptorServe d data s
  | .adminOpenPhase0 d => Sys2Proof.Machine.execAdminOpenPhase0 d s
  | .adminOpenPhase1 d => Sys2Proof.Machine.execAdminOpenPhase1 d s
  | .adminOpenIdentity d => Sys2Proof.Machine.execAdminOpenIdentity d s
  | .adminClose d => Sys2Proof.Machine.execAdminClose d s
  | .challengeExpiry d => Sys2Proof.Machine.execChallengeExpiry d s
  | .sessionIdleTimeout d => Sys2Proof.Machine.execSessionIdleTimeout d s
  | .lockoutExpiry d => Sys2Proof.Machine.execLockoutExpiry d s
  | .dataPlaneEnable d => Sys2Proof.Machine.execDataPlaneEnable d s
  | .permissions d => Sys2Proof.Machine.execPermissions d s
  | .release d => Sys2Proof.Machine.execRelease d s
  | .releaseComplete d bad => Sys2Proof.Machine.execReleaseComplete d bad s
  | .query d => Sys2Proof.Machine.execQuery d s
  | .retention d => Sys2Proof.Machine.execRetention d s
  | .watchSet d => Sys2Proof.Machine.execWatchSet d s
  | .fuseBlow d => Sys2Proof.Machine.execFuseBlow d s
  | .watchClear d => Sys2Proof.Machine.execWatchClear d s
  | .batterySet d => Sys2Proof.Machine.execBatterySet d s
  | .daymarkPassword d => Sys2Proof.Machine.execDaymarkPassword d s
  | .daymarkUnlock d => Sys2Proof.Machine.execDaymarkUnlock d s
  | .roots d => Sys2Proof.Machine.execRoots d s
  | .custody d => Sys2Proof.Machine.execCustody d s
  | .strap d => Sys2Proof.Machine.execStrap d s
  | .complete d => Sys2Proof.Machine.execComplete d s
  | .passwordSet d => Sys2Proof.Machine.execPasswordSet d s
  | .domainShareSet d => Sys2Proof.Machine.execDomainShareSet d s
  | .curveLoad d => Sys2Proof.Machine.execCurveLoad d s
  | .curveClear d => Sys2Proof.Machine.execCurveClear d s
  | .curveRead d => Sys2Proof.Machine.execCurveRead d s
  | .pkeCurveSelWrite v => Sys2Proof.Machine.execPkeCurveSelWrite v s
  | .pkeCurveDataWrite v => Sys2Proof.Machine.execPkeCurveDataWrite v s
  | .keyGenerate d agree => Sys2Proof.Machine.execKeyGenerate d agree s
  | .keyImportPublic d => Sys2Proof.Machine.execKeyImportPublic d s
  | .keyImportClear d => Sys2Proof.Machine.execKeyImportClear d s
  | .keyImportKeyBlock d => Sys2Proof.Machine.execKeyImportKeyBlock d s
  | .keyExportPublic d => Sys2Proof.Machine.execKeyExportPublic d s
  | .keyExportKeyBlock d => Sys2Proof.Machine.execKeyExportKeyBlock d s
  | .keyDestroy d => Sys2Proof.Machine.execKeyDestroy d s
  | .keyImageScrub n => Sys2Proof.Machine.execKeyImageScrub n s
  | .approvalRequest d => Sys2Proof.Machine.execApprovalRequest d s
  | .approvalExpiry => Sys2Proof.Machine.execApprovalExpiry s
  | .keyImageBuild => Sys2Proof.Machine.execKeyImageBuild s
  | .logRead d => Sys2Proof.Machine.execLogRead d s
  | .logExportAck d => Sys2Proof.Machine.execLogExportAck d s
  | .evrRead d => Sys2Proof.Machine.execEvrRead d s
  | .evrClear d => Sys2Proof.Machine.execEvrClear d s
  | .healthRead d => Sys2Proof.Machine.execHealthRead d s
  | .unlockBegin d => Sys2Proof.Machine.execUnlockBegin d s
  | .unlockCustodian d sig => Sys2Proof.Machine.execUnlockCustodian d sig s
  | .unlockCustodianApproval d sig => Sys2Proof.Machine.execUnlockCustodianApproval d sig s
  | .credentialWaitTimeout d => Sys2Proof.Machine.execCredentialWaitTimeout d s
  | .ceremonyExpiry => Sys2Proof.Machine.execCeremonyExpiry s
  | .timeSet d => Sys2Proof.Machine.execTimeSet d s
  | .appletLoad d => Sys2Proof.Machine.execAppletLoad d s
  | .appletEmpty d => Sys2Proof.Machine.execAppletEmpty d s
  | .fwUpdateBegin d => Sys2Proof.Machine.execFwUpdateBegin d s
  | .fwUpdateData d => Sys2Proof.Machine.execFwUpdateData d s
  | .fwUpdateFinish d => Sys2Proof.Machine.execFwUpdateFinish d s
  | .fwUpdateAbort d => Sys2Proof.Machine.execFwUpdateAbort d s
  | .rngPairFail n w inSeed => Sys2Proof.Machine.execRngPairFail n w inSeed s
  | .rngRetest windows => Sys2Proof.Machine.execRngRetest windows s
  | .seedReady raw => Sys2Proof.Machine.execSeedReady raw s
  | .drbgReseed => Sys2Proof.Machine.execDrbgReseed s
  | .rngStartupTestsPass windows => Sys2Proof.Machine.execRngStartupTestsPass windows s
  | .seedTimeout => Sys2Proof.Machine.execSeedTimeout s
  | .rngSourceFault cause => Sys2Proof.Machine.execRngSourceFault cause s
  | .rngDataRead c dst => Sys2Proof.Machine.execRngDataRead c dst s
  | .rngDataStallTimeout c => Sys2Proof.Machine.execRngDataStallTimeout c s
  | .flcUnlockWrite v => Sys2Proof.Machine.execFlcUnlockWrite v s
  | .flcAddrWrite v => Sys2Proof.Machine.execFlcAddrWrite v s
  | .flashSequenceTimeout => Sys2Proof.Machine.execFlashSequenceTimeout s
  | .programPage v => Sys2Proof.Machine.execProgramPage v s
  | .eraseSector v => Sys2Proof.Machine.execEraseSector v s
  | .eraseSuspend v => Sys2Proof.Machine.execEraseSuspend v s
  | .eraseResume v => Sys2Proof.Machine.execEraseResume v s
  | .readMargin v => Sys2Proof.Machine.execReadMargin v s
  | .blankCheck v => Sys2Proof.Machine.execBlankCheck v s
  | .flashCommandDone ok errs => Sys2Proof.Machine.execFlashCommandDone ok errs s
  | .flashWindowRead a k => Sys2Proof.Machine.execFlashWindowRead a k s
  | .eraseAutoResume => Sys2Proof.Machine.execEraseAutoResume s
  | .reclaim => Sys2Proof.Machine.execReclaim s
  | .reclaimEraseComplete first second => Sys2Proof.Machine.execReclaimEraseComplete first second s
  | .lensMarginRead page fails => Sys2Proof.Machine.execLensMarginRead page fails s
  | .flashStartScan => Sys2Proof.Machine.execFlashStartScan s
  | .flcXoLockWrite v => Sys2Proof.Machine.execFlcXoLockWrite v s
  | .allLocked => Sys2Proof.Machine.execAllLocked s
  | .mailboxSend c m v t => Sys2Proof.Machine.execMailboxSend c m v t s
  | .mailboxReceive c k dst => Sys2Proof.Machine.execMailboxReceive c k dst s
  | .mgcDramBaseWrite n v => Sys2Proof.Machine.execMgcDramBaseWrite n v s
  | .kMov c d a => Sys2Proof.Machine.execKMov c d a s
  | .kMovH c byte d a => Sys2Proof.Machine.execKMovH c byte d a s
  | .kMovi c d v => Sys2Proof.Machine.execKMovi c d v s
  | .kMoviH c d v => Sys2Proof.Machine.execKMoviH c d v s
  | .kLea c d ea => Sys2Proof.Machine.execKLea c d ea s
  | .kLeapc c d off data => Sys2Proof.Machine.execKLeapc c d off data s
  | .kLd c r ea => Sys2Proof.Machine.execKLd c r ea s
  | .kSt c r ea => Sys2Proof.Machine.execKSt c r ea s
  | .kLdx c r ea => Sys2Proof.Machine.execKLdx c r ea s
  | .kStx c r ea => Sys2Proof.Machine.execKStx c r ea s
  | .kTas c r ea => Sys2Proof.Machine.execKTas c r ea s
  | .kAdd c d a b => Sys2Proof.Machine.execKAdd c d a b s
  | .kSub c d a b => Sys2Proof.Machine.execKSub c d a b s
  | .kAdc c d a b => Sys2Proof.Machine.execKAdc c d a b s
  | .kSbc c d a b => Sys2Proof.Machine.execKSbc c d a b s
  | .kAnd c d a b => Sys2Proof.Machine.execKAnd c d a b s
  | .kOr c d a b => Sys2Proof.Machine.execKOr c d a b s
  | .kXor c d a b => Sys2Proof.Machine.execKXor c d a b s
  | .kNot c d a => Sys2Proof.Machine.execKNot c d a s
  | .kNeg c d a => Sys2Proof.Machine.execKNeg c d a s
  | .kShl c d a b => Sys2Proof.Machine.execKShl c d a b s
  | .kShr c d a b => Sys2Proof.Machine.execKShr c d a b s
  | .kSar c d a b => Sys2Proof.Machine.execKSar c d a b s
  | .kRol c d a b => Sys2Proof.Machine.execKRol c d a b s
  | .kRor c d a b => Sys2Proof.Machine.execKRor c d a b s
  | .kCmp c a b => Sys2Proof.Machine.execKCmp c a b s
  | .kMul c d a b => Sys2Proof.Machine.execKMul c d a b s
  | .kMulh c d a b => Sys2Proof.Machine.execKMulh c d a b s
  | .kMulhu c d a b => Sys2Proof.Machine.execKMulhu c d a b s
  | .kDiv c d a b => Sys2Proof.Machine.execKDiv c d a b s
  | .kDivu c d a b => Sys2Proof.Machine.execKDivu c d a b s
  | .kRem c d a b => Sys2Proof.Machine.execKRem c d a b s
  | .kRemu c d a b => Sys2Proof.Machine.execKRemu c d a b s
  | .kCsel c d a b cc => Sys2Proof.Machine.execKCsel c d a b cc s
  | .kMacq c q a b => Sys2Proof.Machine.execKMacq c q a b s
  | .kMacqs c q a b => Sys2Proof.Machine.execKMacqs c q a b s
  | .kAddq c q a => Sys2Proof.Machine.execKAddq c q a s
  | .kAddqs c q a => Sys2Proof.Machine.execKAddqs c q a s
  | .kShql c q b => Sys2Proof.Machine.execKShql c q b s
  | .kShqr c q b => Sys2Proof.Machine.execKShqr c q b s
  | .kShqa c q b => Sys2Proof.Machine.execKShqa c q b s
  | .kMovqL c d q => Sys2Proof.Machine.execKMovqL c d q s
  | .kMovqH c d q => Sys2Proof.Machine.execKMovqH c d q s
  | .kMovqG c d q => Sys2Proof.Machine.execKMovqG c d q s
  | .kMovqTl c q a => Sys2Proof.Machine.execKMovqTl c q a s
  | .kMovqTh c q a => Sys2Proof.Machine.execKMovqTh c q a s
  | .kClrq c q => Sys2Proof.Machine.execKClrq c q s
  | .kTagr c d a => Sys2Proof.Machine.execKTagr c d a s
  | .kTagw c d a tag => Sys2Proof.Machine.execKTagw c d a tag s
  | .kTchk c a tag => Sys2Proof.Machine.execKTchk c a tag s
  | .kDeclass c d a => Sys2Proof.Machine.execKDeclass c d a s
  | .kBcc c cc tgt => Sys2Proof.Machine.execKBcc c cc tgt s
  | .kBr c tgt => Sys2Proof.Machine.execKBr c tgt s
  | .kCall c tgt => Sys2Proof.Machine.execKCall c tgt s
  | .kRet c => Sys2Proof.Machine.execKRet c s
  | .kCallg c g => Sys2Proof.Machine.execKCallg c g s
  | .kTrap c n => Sys2Proof.Machine.execKTrap c n s
  | .kRetx c => Sys2Proof.Machine.execKRetx c s
  | .kWait c => Sys2Proof.Machine.execKWait c s
  | .kFence c => Sys2Proof.Machine.execKFence c s
  | .kFenceI c => Sys2Proof.Machine.execKFenceI c s
  | .kMfs c d n => Sys2Proof.Machine.execKMfs c d n s
  | .kMts c n a => Sys2Proof.Machine.execKMts c n a s
  | .kXb c d a => Sys2Proof.Machine.execKXb c d a s
  | .kBmov c dst src stop => Sys2Proof.Machine.execKBmov c dst src stop s
  | .kBzero c dst stop => Sys2Proof.Machine.execKBzero c dst stop s
  | .kBcrc c acc src stop => Sys2Proof.Machine.execKBcrc c acc src stop s
  | .kBcrcc c acc src stop => Sys2Proof.Machine.execKBcrcc c acc src stop s
  | .kBmac c q a b stop => Sys2Proof.Machine.execKBmac c q a b stop s
  | .kBmacs c q a b stop => Sys2Proof.Machine.execKBmacs c q a b stop s
  | .countedEvent c src => Sys2Proof.Machine.execCountedEvent c src s
  | .interruptTake c => Sys2Proof.Machine.execInterruptTake c s
  | .coreWake c => Sys2Proof.Machine.execCoreWake c s
  | .eoi c src => Sys2Proof.Machine.execEoi c src s
  | .intClr c src => Sys2Proof.Machine.execIntClr c src s
  | .intSwi target src => Sys2Proof.Machine.execIntSwi target src s
  | .mpuDisable c => Sys2Proof.Machine.execMpuDisable c s
  | .mpuDrainComplete c => Sys2Proof.Machine.execMpuDrainComplete c s
  | .mpuEnable c => Sys2Proof.Machine.execMpuEnable c s
  | .mpuRegionWrite c r w v => Sys2Proof.Machine.execMpuRegionWrite c r w v s
  | .writeBufferDrain c => Sys2Proof.Machine.execWriteBufferDrain c s
  | .logPartialFlush => Sys2Proof.Machine.execLogPartialFlush s
  | .logChainCheck => Sys2Proof.Machine.execLogChainCheck s
  | .recorderInterval cluster m => Sys2Proof.Machine.execRecorderInterval cluster m s
  | .evrFreezeWrite v => Sys2Proof.Machine.execEvrFreezeWrite v s
  | .evrFreezeTimeout => Sys2Proof.Machine.execEvrFreezeTimeout s
  | .evrSelWrite v => Sys2Proof.Machine.execEvrSelWrite v s
  | .evrWindowRead w => Sys2Proof.Machine.execEvrWindowRead w s
  | .watchDetect src holding => Sys2Proof.Machine.execWatchDetect src holding s
  | .watchFirstDecision which found => Sys2Proof.Machine.execWatchFirstDecision which found s
  | .watchSecondDecision which found => Sys2Proof.Machine.execWatchSecondDecision which found s
  | .wchCfgWrite src v => Sys2Proof.Machine.execWchCfgWrite src v s
  | .wchFuseBlowWrite v late => Sys2Proof.Machine.execWchFuseBlowWrite v late s
  | .healthPublish drift drawn vbat layer drop => Sys2Proof.Machine.execHealthPublish drift drawn vbat layer drop s
  | .healthDailyMean => Sys2Proof.Machine.execHealthDailyMean s
  | .smbusHealthSummary => Sys2Proof.Machine.execSmbusHealthSummary s
  | .smbusPrediction n => Sys2Proof.Machine.execSmbusPrediction n s
  | .smbusPower => Sys2Proof.Machine.execSmbusPower s
  | .smbusState => Sys2Proof.Machine.execSmbusState s
  | .smbusField => Sys2Proof.Machine.execSmbusField s
  | .smbusAlertResponse => Sys2Proof.Machine.execSmbusAlertResponse s
  | .cardActivate => Sys2Proof.Machine.execCardActivate s
  | .cardTransfer len => Sys2Proof.Machine.execCardTransfer len s
  | .cardDeactivate => Sys2Proof.Machine.execCardDeactivate s
  | .cardAbort => Sys2Proof.Machine.execCardAbort s
  | .crdCfgWrite v => Sys2Proof.Machine.execCrdCfgWrite v s
  | .cardInsertion => Sys2Proof.Machine.execCardInsertion s
  | .cardRemoval => Sys2Proof.Machine.execCardRemoval s
  | .cardAtrReceived b ok => Sys2Proof.Machine.execCardAtrReceived b ok s
  | .cardMuteTimeout => Sys2Proof.Machine.execCardMuteTimeout s
  | .cardClassRetry => Sys2Proof.Machine.execCardClassRetry s
  | .cardPpsResponse b => Sys2Proof.Machine.execCardPpsResponse b s
  | .cardIfsResponse blk ok => Sys2Proof.Machine.execCardIfsResponse blk ok s
  | .cardBlockReceived blk ok => Sys2Proof.Machine.execCardBlockReceived blk ok s
  | .cardWaitTimeout => Sys2Proof.Machine.execCardWaitTimeout s
  | .cardMaxWait => Sys2Proof.Machine.execCardMaxWait s
  | .cardClockStop => Sys2Proof.Machine.execCardClockStop s
  | .cardShort => Sys2Proof.Machine.execCardShort s
  | .rfActivate => Sys2Proof.Machine.execRfActivate s
  | .rfTransfer len => Sys2Proof.Machine.execRfTransfer len s
  | .rfDeactivate => Sys2Proof.Machine.execRfDeactivate s
  | .rfAbort => Sys2Proof.Machine.execRfAbort s
  | .calibrate amp ph => Sys2Proof.Machine.execCalibrate amp ph s
  | .rfxCfgWrite v => Sys2Proof.Machine.execRfxCfgWrite v s
  | .rfPing heard amp ph limit => Sys2Proof.Machine.execRfPing heard amp ph limit s
  | .rfBlockReceived b ok coll => Sys2Proof.Machine.execRfBlockReceived b ok coll s
  | .rfFwtTimeout => Sys2Proof.Machine.execRfFwtTimeout s
  | .foreignFieldOn => Sys2Proof.Machine.execForeignFieldOn s
  | .foreignFieldOff => Sys2Proof.Machine.execForeignFieldOff s
  | .holdoffExpiry => Sys2Proof.Machine.execHoldoffExpiry s
  | .inventory q => Sys2Proof.Machine.execInventory q s
  | .daymarkSlotAdvance => Sys2Proof.Machine.execDaymarkSlotAdvance s
  | .select h => Sys2Proof.Machine.execSelect h s
  | .readPage p vbat => Sys2Proof.Machine.execReadPage p vbat s
  | .writePage p data => Sys2Proof.Machine.execWritePage p data s
  | .auth x => Sys2Proof.Machine.execAuth x s
  | .quiet => Sys2Proof.Machine.execQuiet s
  | .daymarkFieldLoss committed => Sys2Proof.Machine.execDaymarkFieldLoss committed s
  | .daymarkPowerUp => Sys2Proof.Machine.execDaymarkPowerUp s
  | .firmwarePageWrite p => Sys2Proof.Machine.execFirmwarePageWrite p s
  | .firmwarePageRead p => Sys2Proof.Machine.execFirmwarePageRead p s
  | .daymarkPageWriteDone ok => Sys2Proof.Machine.execDaymarkPageWriteDone ok s
  | .bypass tdi => Sys2Proof.Machine.execBypass tdi s
  | .idcode => Sys2Proof.Machine.execIdcode s
  | .samplePreload pre => Sys2Proof.Machine.execSamplePreload pre s
  | .extest drive => Sys2Proof.Machine.execExtest drive s
  | .dbgAccess t x => Sys2Proof.Machine.execDbgAccess t x s
  | .certLoad cert => Sys2Proof.Machine.execCertLoad cert s
  | .debugReset => Sys2Proof.Machine.execDebugReset s
  | .tapReset => Sys2Proof.Machine.execTapReset s
  | .debugHalt halt => Sys2Proof.Machine.execDebugHalt halt s
  | .debugStep cores => Sys2Proof.Machine.execDebugStep cores s
  | .thermalRestart tj => Sys2Proof.Machine.execThermalRestart tj s
  | .holdupRecovery vhu => Sys2Proof.Machine.execHoldupRecovery vhu s
  | .portRefclkStable n => Sys2Proof.Machine.execPortRefclkStable n s
  | .l1Exit n => Sys2Proof.Machine.execL1Exit n s
  | .backupDomainFirstPower => Sys2Proof.Machine.execBackupDomainFirstPower s
  | .poolPageProgramComplete pulses ok => Sys2Proof.Machine.execPoolPageProgramComplete pulses ok s
  | .flcCmdWrite v => Sys2Proof.Machine.execFlcCmdWrite v s
  | .flcDataWrite v => Sys2Proof.Machine.execFlcDataWrite v s
  | .undefinedInstruction c n => Sys2Proof.Machine.execUndefinedInstruction c n s
  | .cardPpsTimeout => Sys2Proof.Machine.execCardPpsTimeout s
  | .smbusUnknownCommand => Sys2Proof.Machine.execSmbusUnknownCommand s
  | .smbusTimeout => Sys2Proof.Machine.execSmbusTimeout s

end Sys2Proof.Machine
end

