-- ==== Sys2Proof/Machine/Encoding.lean ====
section
/-! DEFINITION. The words that the keeper's instructions have in the two profiles (R426, R430 to R436). The commands carry
instructions, not words: these functions say which words spell them. -/
namespace Sys2Proof.Machine

/-! ## The M profile (R434 to R436) -/

/-- What a specifier byte of an opcode word stands for: an operand, or the tag of TAGW and TCHK. -/
inductive Spec where
  | op (o : Opnd)
  | tag (t : Fin 16)
  deriving DecidableEq, Repr

/-- An index's extension word (R436). -/
def idxWord (i : Fin 16) (sc : Fin 4) (v : BitVec 32) : BitVec 32 :=
  BitVec.ofNat 32 (shl i.val 28 + shl sc.val 26 + v.toNat % 2 ^ 24)

/-- A specifier's MODE, REG and extension words. -/
def Spec.code : Spec → Nat × Nat × List (BitVec 32)
  | .op (.d i) => (0, i.val, [])
  | .op (.a i) => (1, i.val, [])
  | .op (.q i) => (2, i.val, [])
  | .op (.imm v) => (3, 0, [v])
  | .op (.ind a) => (4, a.val, [])
  | .op (.post a) => (5, a.val, [])
  | .op (.pre a) => (6, a.val, [])
  | .op (.disp a v) => (7, a.val, [v])
  | .op (.idx a i sc v) => (8, a.val, [idxWord i sc v])
  | .op (.abs v) => (9, 0, [v])
  | .op (.pcrel v) => (10, 0, [v])
  | .op (.memInd a x y) => (11, a.val, [x, y])
  | .tag t => (15, t.val, [])

/-- The specifier byte. -/
def Spec.byte (x : Spec) : Nat := 16 * x.code.1 + x.code.2.1

/-- A system register's or a code's number as an immediate specifier. -/
def numSpec (n : Nat) : Spec := .op (.imm (BitVec.ofNat 32 n))

/-- OPC8 and the specifiers of a keeper instruction, the destination first; none for what is no M-profile instruction, and
for COND 15 (R429). (Log entry 217: DEDUCED.) -/
def mForm : Instr → Option (Nat × List Spec)
  | .kMov _ d a => some (0x01, [.op d, .op a])
  | .kMovH _ byte d a => some (if byte then 0x03 else 0x02, [.op d, .op a])
  | .kMovi _ d v => some (0x01, [.op d, .op (.imm v)])
  | .kLea _ d ea => some (0x04, [.op d, .op ea])
  | .kLeapc _ d off data => some (if data then 0x05 else 0x04, [.op d, .op (.pcrel off)])
  | .kLd _ r ea => some (0x01, [.op r, .op ea])
  | .kSt _ r ea => some (0x01, [.op ea, .op r])
  | .kLdx _ r ea => some (0x08, [.op r, .op ea])
  | .kStx _ r ea => some (0x09, [.op r, .op ea])
  | .kTas _ r ea => some (0x0A, [.op r, .op ea])
  | .kAdd _ d a b => some (0x10, [.op d, .op a, .op b])
  | .kSub _ d a b => some (0x11, [.op d, .op a, .op b])
  | .kAdc _ d a b => some (0x12, [.op d, .op a, .op b])
  | .kSbc _ d a b => some (0x13, [.op d, .op a, .op b])
  | .kAnd _ d a b => some (0x14, [.op d, .op a, .op b])
  | .kOr _ d a b => some (0x15, [.op d, .op a, .op b])
  | .kXor _ d a b => some (0x16, [.op d, .op a, .op b])
  | .kNot _ d a => some (0x17, [.op d, .op a])
  | .kNeg _ d a => some (0x18, [.op d, .op a])
  | .kShl _ d a b => some (0x19, [.op d, .op a, .op b])
  | .kShr _ d a b => some (0x1A, [.op d, .op a, .op b])
  | .kSar _ d a b => some (0x1B, [.op d, .op a, .op b])
  | .kRol _ d a b => some (0x1C, [.op d, .op a, .op b])
  | .kRor _ d a b => some (0x1D, [.op d, .op a, .op b])
  | .kCmp _ a b => some (0x1E, [.op a, .op b])
  | .kMul _ d a b => some (0x20, [.op d, .op a, .op b])
  | .kMulh _ d a b => some (0x21, [.op d, .op a, .op b])
  | .kMulhu _ d a b => some (0x22, [.op d, .op a, .op b])
  | .kDiv _ d a b => some (0x23, [.op d, .op a, .op b])
  | .kDivu _ d a b => some (0x24, [.op d, .op a, .op b])
  | .kRem _ d a b => some (0x25, [.op d, .op a, .op b])
  | .kRemu _ d a b => some (0x26, [.op d, .op a, .op b])
  | .kMacq _ q a b => some (0x28, [.op q, .op a, .op b])
  | .kMacqs _ q a b => some (0x29, [.op q, .op a, .op b])
  | .kAddq _ q a => some (0x2A, [.op q, .op a])
  | .kAddqs _ q a => some (0x2B, [.op q, .op a])
  | .kShql _ q b => some (0x2C, [.op q, .op b])
  | .kShqr _ q b => some (0x2D, [.op q, .op b])
  | .kShqa _ q b => some (0x2E, [.op q, .op b])
  | .kMovqL _ d q => some (0x30, [.op d, .op q])
  | .kMovqH _ d q => some (0x31, [.op d, .op q])
  | .kMovqG _ d q => some (0x32, [.op d, .op q])
  | .kMovqTl _ q a => some (0x33, [.op q, .op a])
  | .kMovqTh _ q a => some (0x34, [.op q, .op a])
  | .kClrq _ q => some (0x35, [.op q])
  | .kTagr _ d a => some (0x38, [.op d, .op a])
  | .kTagw _ d a t => some (0x39, [.op d, .op a, .tag t])
  | .kTchk _ a t => some (0x3A, [.op a, .tag t])
  | .kDeclass _ d a => some (0x3B, [.op d, .op a])
  | .kBcc _ cc tgt => if cc = 15 then none else some (0x40 + cc.val, [.op tgt])
  | .kBr _ tgt => some (0x4E, [.op tgt])
  | .kCsel _ d a b cc => if cc = 15 then none else some (0x50 + cc.val, [.op d, .op a, .op b])
  | .kCall _ tgt => some (0x60, [.op tgt])
  | .kRet _ => some (0x61, [])
  | .kCallg _ g => some (0x62, [.op g])
  | .kTrap _ n => some (0x63, [numSpec n.val])
  | .kRetx _ => some (0x64, [])
  | .kWait _ => some (0x65, [])
  | .kFence _ => some (0x66, [])
  | .kFenceI _ => some (0x67, [])
  | .kMfs _ d n => some (0x68, [.op d, numSpec n.val])
  | .kMts _ n a => some (0x69, [numSpec n.val, .op a])
  | .kXb _ d a => some (0x6A, [.op d, .op a])
  | .kBmov _ x y _ => some (0x70, [.op (.a x), .op (.a y)])
  | .kBzero _ x _ => some (0x71, [.op (.a x)])
  | .kBcrc _ g x _ => some (0x72, [.op (.d g), .op (.a x)])
  | .kBcrcc _ g x _ => some (0x73, [.op (.d g), .op (.a x)])
  | .kBmac _ q x y _ => some (0x74, [.op (.q q), .op (.a x), .op (.a y)])
  | .kBmacs _ q x y _ => some (0x75, [.op (.q q), .op (.a x), .op (.a y)])
  | _ => none

/-- The opcode byte of an instruction (R435). -/
def opc8 (i : Instr) : Option Nat := (mForm i).map (·.1)

/-- An opcode byte of the M column of R432; the conditional ones leave COND 15 out (R429). -/
def opc8Defined (b : Nat) : Bool :=
  b ∈ [0x01, 0x02, 0x03, 0x04, 0x05, 0x08, 0x09, 0x0A] || (0x10 ≤ b && b ≤ 0x1E) || (0x20 ≤ b && b ≤ 0x26) ||
  (0x28 ≤ b && b ≤ 0x2E) || (0x30 ≤ b && b ≤ 0x35) || (0x38 ≤ b && b ≤ 0x3B) || (0x40 ≤ b && b ≤ 0x4E) ||
  (0x50 ≤ b && b ≤ 0x5E) || (0x60 ≤ b && b ≤ 0x6A) || (0x70 ≤ b && b ≤ 0x75)

/-- The specifier byte in place `k`; an unused one holds 0xF0. -/
def specByte (l : List Spec) (k : Nat) : Nat := match l[k]? with | some x => x.byte | none => 0xF0

/-- The opcode word of an M-profile instruction. -/
def opcodeWord (b : Nat) (l : List Spec) : BitVec 32 :=
  BitVec.ofNat 32 (shl b 24 + shl (specByte l 0) 16 + shl (specByte l 1) 8 + specByte l 2)

/-- The words of an instruction in the M profile: the opcode word and the extension words in specifier order. -/
def mWords (i : Instr) : Option (List (BitVec 32)) :=
  (mForm i).map fun x => opcodeWord x.1 x.2 :: (x.2.map fun p => p.code.2.2).flatten

/-! ## The L profile (R426, R430 to R433) -/

/-- A register's number in a 5-bit field (R426). -/
def Opnd.lReg : Opnd → Nat | .d i => i.val | .a i => 16 + i.val | .q i => 24 + i.val | _ => 0

/-- The three-field formats: `x` in [25:21], `y` in [20:16], and the rest below. -/
def lFields (opc x y low : Nat) : BitVec 32 := BitVec.ofNat 32 (shl opc 26 + shl x 21 + shl y 16 + low)

/-- Format REG. -/
def lRegs (opc fn : Nat) (x y z : Opnd) : BitVec 32 := lFields opc x.lReg y.lReg (shl z.lReg 11 + fn)

/-- Format REG with one of the operands absent: a zero field is that of D0. -/
def noReg : Opnd := .d 0

/-- Format REG, or IMM where the last source is an immediate that `v` places. -/
def lBin (opc fn immOpc : Nat) (imm : BitVec 32 → Nat) (d a b : Opnd) : BitVec 32 :=
  match b with
  | .imm v => lFields immOpc d.lReg a.lReg (imm v)
  | _ => lRegs opc fn d a b

def low16 (v : BitVec 32) : Nat := v.toNat % 2 ^ 16

/-- The immediate of a shift: the count, and the kind in [7:5]. -/
def shiftImm (kind : Nat) (v : BitVec 32) : Nat := v.toNat % 32 + shl kind 5

/-- The fields BASE, MODE and [13:0] of format MEM (R431). -/
def lMemLow : Opnd → Nat
  | .ind a => shl a.val 18
  | .disp a v => shl a.val 18 + v.toNat % 2 ^ 14
  | .post a => shl a.val 18 + shl 1 14
  | .pre a => shl a.val 18 + shl 2 14
  | .idx a i sc v => shl a.val 18 + shl 3 14 + shl i.val 10 + shl sc.val 8 + v.toNat % 2 ^ 8
  | _ => 0

/-- Format MEM; `size` is the SIZE field. -/
def lMemWord (opc size : Nat) (r ea : Opnd) : BitVec 32 := BitVec.ofNat 32 (shl opc 26 + shl r.lReg 21 + shl size 16 + lMemLow ea)

/-- A byte offset of a label, in `n` bits. -/
def lOff (n : Nat) (v : BitVec 32) : Nat := v.toNat % 2 ^ n

/-- A label's word offset, in `n` bits. -/
def lWordOff (n : Nat) (v : BitVec 32) : Nat := (v.toNat / 4) % 2 ^ n

/-- Format BRA. -/
def lBra (cc : Nat) (v : BitVec 32) : BitVec 32 := BitVec.ofNat 32 (shl 0x20 26 + shl cc 22 + lWordOff 22 v)

/-- Format SYS. -/
def lSys (opc : Nat) (x y : Opnd) (sub num : Nat) : BitVec 32 := lFields opc x.lReg y.lReg (shl sub 8 + num)

/-- The word of a keeper instruction in the L profile (R432, R433); none for what is no L-profile instruction. -/
def lWord : Instr → Option (BitVec 32)
  | .kMov _ d a => some (lRegs 0x01 0 d a noReg)
  | .kMovH _ byte d a =>
    some (if d.isMem then lMemWord 0x06 (if byte then 2 else 1) a d else lMemWord 0x05 (if byte then 2 else 1) d a)
  | .kMovi _ d v => some (lFields 0x02 d.lReg 0 (low16 v))
  | .kMoviH _ d v => some (lFields 0x02 d.lReg 1 v.toNat)
  | .kLea _ d ea => some (lMemWord 0x03 0 d ea)
  | .kLeapc _ d off data => some (BitVec.ofNat 32 (shl 0x04 26 + shl d.lReg 21 + shl (b2n data) 20 + lOff 20 off))
  | .kLd _ r ea => some (lMemWord 0x05 0 r ea)
  | .kSt _ r ea => some (lMemWord 0x06 0 r ea)
  | .kLdx _ r ea => some (lMemWord 0x07 0 r ea)
  | .kStx _ r ea => some (lMemWord 0x08 0 r ea)
  | .kTas _ r ea => some (lMemWord 0x09 0 r ea)
  | .kAdd _ d a b => some (lBin 0x10 0 0x11 low16 d a b)
  | .kSub _ d a b => some (lBin 0x10 1 0x12 low16 d a b)
  | .kAdc _ d a b => some (lRegs 0x10 2 d a b)
  | .kSbc _ d a b => some (lRegs 0x10 3 d a b)
  | .kAnd _ d a b => some (lBin 0x10 4 0x13 low16 d a b)
  | .kOr _ d a b => some (lBin 0x10 5 0x14 low16 d a b)
  | .kXor _ d a b => some (lBin 0x10 6 0x15 low16 d a b)
  | .kNot _ d a => some (lRegs 0x10 7 d a noReg)
  | .kNeg _ d a => some (lRegs 0x10 8 d a noReg)
  | .kShl _ d a b => some (lBin 0x10 9 0x17 (shiftImm 0) d a b)
  | .kShr _ d a b => some (lBin 0x10 10 0x17 (shiftImm 1) d a b)
  | .kSar _ d a b => some (lBin 0x10 11 0x17 (shiftImm 2) d a b)
  | .kRol _ d a b => some (lBin 0x10 12 0x17 (shiftImm 3) d a b)
  | .kRor _ d a b => some (lBin 0x10 13 0x17 (shiftImm 4) d a b)
  | .kCmp _ a b => some (lBin 0x10 14 0x16 low16 noReg a b)
  | .kMul _ d a b => some (lRegs 0x10 16 d a b)
  | .kMulh _ d a b => some (lRegs 0x10 17 d a b)
  | .kMulhu _ d a b => some (lRegs 0x10 18 d a b)
  | .kDiv _ d a b => some (lRegs 0x10 19 d a b)
  | .kDivu _ d a b => some (lRegs 0x10 20 d a b)
  | .kRem _ d a b => some (lRegs 0x10 21 d a b)
  | .kRemu _ d a b => some (lRegs 0x10 22 d a b)
  | .kCsel _ d a b cc => some (lRegs 0x10 (24 + shl cc.val 7) d a b)
  | .kMacq _ q a b => some (lRegs 0x18 0 q a b)
  | .kMacqs _ q a b => some (lRegs 0x18 1 q a b)
  | .kAddq _ q a => some (lRegs 0x18 2 q a noReg)
  | .kAddqs _ q a => some (lRegs 0x18 3 q a noReg)
  | .kShql _ q b => some (lRegs 0x18 4 q b noReg)
  | .kShqr _ q b => some (lRegs 0x18 5 q b noReg)
  | .kShqa _ q b => some (lRegs 0x18 6 q b noReg)
  | .kMovqL _ d q => some (lRegs 0x18 8 d q noReg)
  | .kMovqH _ d q => some (lRegs 0x18 9 d q noReg)
  | .kMovqG _ d q => some (lRegs 0x18 10 d q noReg)
  | .kMovqTl _ q a => some (lRegs 0x18 11 q a noReg)
  | .kMovqTh _ q a => some (lRegs 0x18 12 q a noReg)
  | .kClrq _ q => some (lRegs 0x18 13 q noReg noReg)
  | .kTagr _ d a => some (lRegs 0x19 0 d a noReg)
  | .kTagw _ d a t => some (lRegs 0x19 (1 + shl t.val 7) d a noReg)
  | .kTchk _ a t => some (lRegs 0x19 (2 + shl t.val 7) noReg a noReg)
  | .kDeclass _ d a => some (lRegs 0x19 3 d a noReg)
  | .kBcc _ cc tgt => match tgt with | .pcrel v => some (lBra cc.val v) | _ => none
  | .kBr _ tgt => match tgt with | .pcrel v => some (lBra 14 v) | o => some (lRegs 0x22 0 noReg o noReg)
  | .kCall _ tgt =>
    match tgt with
    | .pcrel v => some (BitVec.ofNat 32 (shl 0x21 26 + lWordOff 26 v))
    | o => some (lRegs 0x22 1 noReg o noReg)
  | .kRet _ => some (lRegs 0x22 2 noReg noReg noReg)
  | .kCallg _ g => match g with | .imm v => some (lSys 0x23 noReg noReg 0 (v.toNat % 256)) | o => some (lSys 0x23 o noReg 1 0)
  | .kTrap _ n => some (lSys 0x24 noReg noReg 0 n.val)
  | .kRetx _ => some (lSys 0x25 noReg noReg 0 0)
  | .kWait _ => some (lSys 0x26 noReg noReg 0 0)
  | .kFence _ => some (lSys 0x27 noReg noReg 0 0)
  | .kFenceI _ => some (lSys 0x27 noReg noReg 0 1)
  | .kMfs _ d n => some (lSys 0x28 d noReg 0 n.val)
  | .kMts _ n a => some (lSys 0x29 a noReg 0 n.val)
  | .kXb _ d a => some (lSys 0x2A d a 0 0)
  | .kBmov _ x y _ => some (lRegs 0x30 0 (.a x) (.a y) noReg)
  | .kBzero _ x _ => some (lRegs 0x31 0 (.a x) noReg noReg)
  | .kBcrc _ g x _ => some (lRegs 0x32 0 (.d g) (.a x) noReg)
  | .kBcrcc _ g x _ => some (lRegs 0x32 1 (.d g) (.a x) noReg)
  | .kBmac _ q x y _ => some (lRegs 0x33 0 (.q q) (.a x) (.a y))
  | .kBmacs _ q x y _ => some (lRegs 0x33 1 (.q q) (.a x) (.a y))
  | _ => none

/-- The words that spell an instruction of core `c`, in the profile that it runs. -/
def keeperWords (s : State) (c : Nat) (i : Instr) : Option (List (BitVec 32)) :=
  if isM s c then mWords i else (lWord i).map fun w => [w]

end Sys2Proof.Machine
end

