-- ==== Sys2Proof/Safety.lean ====
section
/-! DEFINITION. What a safe run of the block is, in the terms that statements use. -/
namespace Sys2Proof.Machine

/-- A step goes on: it ends in a next state. -/
def goesOn (o : Host.Outcome State Fault Refusal) : Prop := ∃ t, o = .next t

/-- A run of `n` steps goes on throughout. -/
def runs : Nat → State → Prop
  | 0, _ => True
  | n + 1, s => ∃ t, step s = .next t ∧ runs n t

/-- The command completes with a next state of which `P` holds. -/
def answers (c : Instr) (s : State) (P : State → Prop) : Prop := ∃ t, exec c s = .next t ∧ P t

/-- The state of the device is legal: the rollback floor lies within its 64 fuses (R612), the state that a lock remembers is
one that a lock may leave (R7), and a commissioned device's root fuses hold a SHA-384 digest (R615). -/
def legal (s : State) : Prop :=
  s.boot.svnFloor ≤ 64 ∧ (s.priorLifecycle = .commissioned ∨ s.priorLifecycle = .operational) ∧
  (s.lifecycle = .factory ∨ s.owner.rootFuse.length = 48)

/-- The keepers run, and domain `d`'s firmware service holds command `c`, its checks passed; it is the opcode and SUBOP
given (R56, R124). -/
def cmdReady (s : State) (d op sub : Nat) (c : AdminCmd) : Prop :=
  kprRuns s = true ∧ servingOf s d = some c ∧ c.ready = true ∧ dOpcode c.desc = op ∧ aSubop c.desc = sub

/-- Command `c` has its result: status, DETAIL and output bytes. -/
def cmdEnds (t : State) (d : Nat) (c : AdminCmd) (status detail : Nat) (out : Bytes) : Prop :=
  servingOf t d = some { c with
    ready := false, waiting := false, done := true, status := status, detail := detail, output := out }

/-- Command `c` ended with BAD_PARAMETER and DETAIL 1: its output buffer is below `n` bytes (R175). -/
def cmdShort (t : State) (d : Nat) (c : AdminCmd) (n : Nat) : Prop :=
  servingOf t d = some { c with
    ready := false, waiting := false, done := true, status := stBadParameter, detail := 1, need := n }

/-- The command changed nothing but its own record in the admin service. -/
def onlyService (s t : State) : Prop := t = { s with engine := { s.engine with serving := t.engine.serving } }

/-- The operation has written nothing and did not run duplicated. -/
def plain (o : Op) : Prop := o.outWritten = false ∧ o.dup = false

/-- No finished operation waits for completion order (R208). -/
def noneHeld (s : State) : Bool := s.ops.all fun p => p.stage != .held

/-- Operation `o` has left flight: its tag is free, and, unless its port or function was lost, its entry stands at the place
CQ_TAIL named, with the phase that held (R151, R182). `flags` are the bits of P above PHASE. -/
def opEnds (s t : State) (o : Op) (status detail : Nat) (result : Bytes) (lens : Nat × Nat) (flags : Nat) : Prop :=
  findOp t o.tag = none ∧ (o.lost = false → portUp s (domPort o.dom) = true →
    let x := getQueue s o.dom o.q
    Out.completion o.dom o.q (x.cqBase + 32 * x.cqTail) (completionEntry o.idx (o.tag % 4096) status detail
      (dOpcode o.desc) (engineByte (if o.reserved then none else o.unit)) lens.1 lens.2 result (b2n x.phase + flags)) ∈
        t.outs)

/-- The device sent a descriptor's entry with NOT_ADMITTED at the place CQ_TAIL named (R149, R190). -/
def rejects (s t : State) (d q idx status detail opcode : Nat) : Prop :=
  let x := getQueue s d q
  Out.completion d q (x.cqBase + 32 * x.cqTail)
    (completionEntry idx 0x8000 status detail opcode 0 0 0 [] (b2n x.phase)) ∈ t.outs

/-- One event of a counted source has been counted towards every core, and crosses at its next COUNTED_EVENT (R57, R467). -/
def pended (src : Nat) (s t : State) : Prop :=
  ∀ c, c < 4 → mget 0 (getInt t c).crossing src = mget 0 (getInt s c).crossing src + 1

/-! ## Keeper instructions -/

/-- The instruction's address: PC of core `c`. -/
def pcOf (s : State) (c : Nat) : BitVec 32 := (getCore s c).pc

/-- Core `c` runs an instruction of `n` words now, and every word of it is fetched (R402, R452). -/
def mayIssue (s : State) (c n : Nat) : Bool :=
  canRun s c && (match fetchWords s c n (pcOf s c).toNat with | .ok _ => true | .error _ => false)

/-- The state in which an instruction of `n` words is evaluated: PC at the next instruction, and a step of a halted core
used up (R625). -/
def issued (s : State) (c n : Nat) : State :=
  modCore c (fun k => { k with pc := k.pc + BitVec.ofNat 32 (4 * n), step := false }) s

end Sys2Proof.Machine
end

