-- ==== Sys2Proof/Certificates/Slice0/Obligations.lean ====
section
/-! DEFINITION. The statements for the provers. Where a statement says what a command does, its hypotheses name the state and
the operands alone, and `answers` says that the command completes. -/
open Sys2Proof Sys2Proof.Machine

/-- A step takes the command at the front of the queue and runs it with the queue's rest. For every command c and state s,
step of s with c at the front of its queue is exec of c on s with the queue's rest. (The queue is the model's own, log
entry 1.) (01_architecture.md) -/
def Obligations.StepRunsFrontCommand : Prop :=
  ∀ (c : Instr) (rest : List Instr) (s : State), step { s with pending := c :: rest } = exec c { s with pending := rest }

/-- The state table of switchable units. For every unit record and every event of R24, the next state is the one the table
gives. A write of EN sets EN to its value, and QUIESCE sets it to 0. A failed initialisation ends FAULTED with its
cause. The end of a drain takes ENABLE_PENDING through OFF to STARTING, so TRANS_COUNT advances by 2. A fault of a
unit that is not FAULTED sets STATE and FAULT_CAUSE, counts one transition modulo 65,536 and leaves EN. RESET in
FAULTED goes to STARTING when EN is 1, otherwise to OFF, and in any other state does nothing. (01_architecture.md) -/
def Obligations.UnitTableIsFollowed : Prop :=
  ∀ (r : UnitRec) (n : Nat),
    (unitStep r (.enWrite true)).st = (match r.st with | .off => .starting | .draining => .enablePending | x => x) ∧
    (unitStep r (.enWrite true)).en = true ∧
    (unitStep r (.enWrite false)).st = (match r.st with
      | .starting => .off | .on => .draining | .enablePending => .draining | x => x) ∧
    (unitStep r (.enWrite false)).en = false ∧
    (unitStep r .quiesce).st = (match r.st with
      | .starting => .off | .on => .draining | .enablePending => .draining | x => x) ∧
    (unitStep r .quiesce).en = false ∧
    (unitStep r .initDone).st = (match r.st with | .starting => .on | x => x) ∧
    (r.st = .starting → (unitStep r (.initFail n)).st = .faulted ∧ (unitStep r (.initFail n)).cause = n) ∧
    (unitStep r .drained).st = (match r.st with | .draining => .off | .enablePending => .starting | x => x) ∧
    (r.st = .enablePending → (unitStep r .drained).trans = (r.trans + 2) % 65536) ∧
    (r.st ≠ .faulted → unitStep r (.fault n) = { r with st := .faulted, cause := n, trans := (r.trans + 1) % 65536 }) ∧
    (unitStep r .reset).st = (match r.st with | .faulted => (if r.en then .starting else .off) | x => x) ∧
    (r.st ≠ .faulted → unitStep r .reset = r)

/-- Control writes, initialisation, drains and faults move a unit by the table. For the pipes, the legacy unit, the random
source, the card interface and the front end, where present and clocked: UNIT_EN_WRITE and UNIT_QUIESCE (with EN 0)
leave the unit's record as the table moves it; UNIT_RESET that is no answer of firmware's to a fault leaves a FAULTED
one STARTING or OFF by the EN written, with FAULT_CAUSE 0 and that EN; UNIT_INIT_COMPLETE takes a pipe, the card
interface or the front end from STARTING to ON; UNIT_DRAIN_COMPLETE takes an idle one from DRAINING to OFF; UNIT_FAULT
leaves a card interface that was not FAULTED in FAULTED with the cause and its EN. All of them leave the policy banks
unchanged. EN writes to the legacy unit, the card interface and the front end change nothing but unit records, the
recorders and the counter of free values. (01_architecture.md) -/
def Obligations.UnitCommandsMoveUnits : Prop :=
  let plain (u : UnitId) : Bool := match u with
    | .pipe _ => true | .legacy => true | .rng => true | .card => true | .rf => true | _ => false
  let ready (u : UnitId) (s : State) : Prop := plain u = true ∧ unitPresent s u = true ∧ unitClock s u = true
  (∀ (s : State) (u : UnitId) (v : Bool), ready u s → answers (.unitEnWrite u v) s (fun t =>
    getUnit t u = unitStep (getUnit s u) (.enWrite v) ∧ t.policy = s.policy)) ∧
  (∀ (s : State) (u : UnitId) (v : Bool), ready u s → u = .legacy ∨ u = .card ∨ u = .rf →
    answers (.unitEnWrite u v) s (fun t =>
      t = { s with units := t.units, recorders := t.recorders, free := t.free })) ∧
  (∀ (s : State) (u : UnitId), ready u s → answers (.unitQuiesce u false) s (fun t =>
    getUnit t u = unitStep (getUnit s u) .quiesce ∧ t.policy = s.policy)) ∧
  (∀ (s : State) (u : UnitId) (en : Bool), ready u s → (getUnit s u).st = .faulted →
    answers (.unitReset u en false) s (fun t =>
      (getUnit t u).st = (if en then .starting else .off) ∧ (getUnit t u).cause = 0 ∧ (getUnit t u).en = en ∧
      t.policy = s.policy)) ∧
  (∀ (s : State) (u : UnitId), ready u s → u ≠ .rng → u ≠ .legacy → (getUnit s u).st = .starting →
    answers (.unitInitComplete u 0) s (fun t => (getUnit t u).st = .on ∧ t.policy = s.policy)) ∧
  (∀ (s : State) (u : UnitId), ready u s → (getUnit s u).st = .draining → unitIdle s u = true →
    answers (.unitDrainComplete u) s (fun t => (getUnit t u).st = .off ∧ t.policy = s.policy)) ∧
  (∀ (s : State) (cause : Fin 256), kprRuns s = true → unitSt s .card ≠ .faulted →
    answers (.unitFault .card cause) s (fun t => unitSt t .card = .faulted ∧ (getUnit t .card).cause = cause.val ∧
      (getUnit t .card).en = (getUnit s .card).en ∧ t.policy = s.policy))

/-- A commit switches the policy bank unless one is busy; registers obey their access codes. With both clocks running,
POLICY_COMMIT makes the inactive bank active, advances EPOCH modulo 32,768 and leaves the banks' contents, the
moorings and the keys; while COMMIT_BUSY it only sets WRITE_DROPPED. REGISTER_WRITE of an ON core with the keeper
clock running replaces the low word of INT_EN, clears in CLK_RESET_CAUSE the bits written 1, leaves a read-only word
of the capability block and, on a register of a unit that the part lacks, does nothing; such a register reads 0. A
host's 4 B write, its port up and its function present and not in D3hot, sets a vector's data word or mask bit in BAR2
and changes no other function. REGISTER_WIDE_READ of CLG_NEXT_SEQ's low word answers it and latches the high word; of
a vector's data by a host, it answers the data. (01_architecture.md, 00_scope.md, 16_nolac_model.md) -/
def Obligations.PolicyAndRegisterWrites : Prop :=
  let runs (s : State) (c : Nat) : Prop := kprRuns s = true ∧ (coreUnit s c).st = .on
  let bar (s : State) (d : Nat) : Prop := dpRuns s = true ∧ portUp s (domPort d) = true ∧ barAnswers s d = true
  (∀ s : State, policyRuns s = true → commitBusy s = false → answers .policyCommit s (fun t =>
    t.policy.active = 1 - s.policy.active ∧ t.policy.epoch = (s.policy.epoch + 1) % 32768 ∧
    t.policy.bank0 = s.policy.bank0 ∧ t.policy.bank1 = s.policy.bank1 ∧ t.moor = s.moor ∧ t.keys = s.keys)) ∧
  (∀ s : State, policyRuns s = true → commitBusy s = true → answers .policyCommit s (fun t =>
    t = { s with policy := { s.policy with dropped := true } })) ∧
  (∀ (s : State) (c : Fin 4) (v : BitVec 32), runs s c.val →
    answers (.registerWrite (.keeper c 0x10000) v) s (fun t =>
      fld (getInt t c.val).en 31 0 = v.toNat ∧ (getInt t c.val).en / 2 ^ 32 = (getInt s c.val).en / 2 ^ 32 ∧
      t = { s with ints := t.ints })) ∧
  (∀ (s : State) (c : Fin 4) (v : BitVec 32), runs s c.val → s.clocks.resetCause < 2 ^ 13 →
    answers (.registerWrite (.keeper c 0x140004) v) s (fun t =>
      (∀ i, i < 13 → nbit t.clocks.resetCause i = (nbit s.clocks.resetCause i && !nbit v.toNat i)) ∧
      t = { s with clocks := { s.clocks with resetCause := t.clocks.resetCause } })) ∧
  (∀ (s : State) (c : Fin 4) (v : BitVec 32), runs s c.val →
    answers (.registerWrite (.keeper c 0xA0000) v) s (fun t => t = s)) ∧
  (∀ (s : State) (p : BitVec 24) (c : Fin 4) (v : BitVec 32), absentReg s.part p.toNat = true →
    answers (.registerWrite (.keeper c p) v) s (fun t => t = s) ∧ (keeperReg s c.val p.toNat).map RegVal.val = some 0) ∧
  (∀ (s : State) (d : Fin 256) (i : Fin 65) (v : BitVec 32), bar s d.val →
    answers (.registerWrite (.msix d (BitVec.ofNat 14 (16 * i.val + 8)) none) v) s (fun t =>
      mget 0 (getFunc t d.val).msgData i.val = v.toNat ∧ (getFunc t d.val).msgAddr = (getFunc s d.val).msgAddr ∧
      (∀ j, j ≠ d.val → getFunc t j = getFunc s j) ∧ t = { s with funcs := t.funcs }) ∧
    (nbit v.toNat 0 = true → answers (.registerWrite (.msix d (BitVec.ofNat 14 (16 * i.val + 12)) none) v) s (fun t =>
      nbit (getFunc t d.val).unmasked i.val = false ∧ (∀ j, j ≠ d.val → getFunc t j = getFunc s j) ∧
      t = { s with funcs := t.funcs }))) ∧
  (∀ (s : State) (c : Fin 4) (wide : Bool), runs s c.val → s.log.nextSeq < 2 ^ 64 →
    answers (.registerWideRead (.keeper c 0xC0008) wide) s (fun t =>
      t.outs = s.outs ++ [.readReply (s.log.nextSeq % 2 ^ 32)] ∧
      (getCore t c.val).hiLatch = some (0xC0008, s.log.nextSeq / 2 ^ 32) ∧
      t = { s with outs := t.outs, keeper := t.keeper })) ∧
  (∀ (s : State) (d : Fin 256) (i : Fin 65), bar s d.val → mget 0 (getFunc s d.val).msgData i.val < 2 ^ 32 →
    answers (.registerWideRead (.msix d (BitVec.ofNat 14 (16 * i.val + 8))) false) s (fun t =>
      t = { s with outs := s.outs ++ [.readReply (mget 0 (getFunc s d.val).msgData i.val)] }))

/-- Stops cut the logic die and lose operations and moorings; starts begin again with every unit OFF. While the device
operates, BROWNOUT_STOP with VIN below 4.2 V, OVERVOLTAGE_STOP after 100 ms of clamping and THERMAL_SHUTDOWN at 120 °C
or more open the input switch, latch BROWNOUT, set their own PWR_EVENTS bit (0, 1 and 3), end every operation, lose
the moorings and the memory keys, return every unit to OFF and keep the lifecycle, the backup domain and the owner's
roots; THERMAL_SHUTDOWN also waits for the temperature. During a stop STOP_FLUSH_COMPLETE enters the backup-only state
with nothing staged and VHU_MV 0, and keeps lifecycle, backup domain and PWR_EVENTS. In the backup-only state with VIN
from 4.5 V to 18 V and no thermal hold, POWER_START without a wait for the temperature, and THERMAL_RESTART with one
and at 90 °C or less, close the switch, take the band from VIN by the falling edges of R35, begin at step 2 of R68
with every unit OFF and no mooring, set CLK_RESET_CAUSE to the brown-out bit after a stop and to the power-on bit
otherwise, and keep the lifecycle, PWR_EVENTS, the KEK and the boot counter. In the backup-only state
BACKUP_DOMAIN_FIRST_POWER leaves RTC_VALID 0 and PWR_EVENTS 0, keeps VBAT_MV, and changes nothing outside the backup
domain, the watch's three latches, PWR_EVENTS and the counter of free values. (02_package_power.md,
03_clocks_resets.md, 21_watch_backup.md) -/
def Obligations.PowerStopsAndStarts : Prop :=
  let stopped (bit : Nat) (s t : State) : Prop :=
    t.power.phase = .stopping ∧ t.power.switchClosed = false ∧ nbit t.pwrEvents.bits 0 = true ∧
    nbit t.pwrEvents.bits bit = true ∧
    t.ops = [] ∧ t.moor.slots = [] ∧ t.moor.memKeys = false ∧ t.units = [] ∧
    t.lifecycle = s.lifecycle ∧ t.backup = s.backup ∧ t.owner.roots = s.owner.roots
  let started (s t : State) : Prop :=
    t.power.phase = .booting 2 ∧ t.power.switchClosed = true ∧ t.units = [] ∧ t.moor.slots = [] ∧
    t.clocks.resetCause = (if s.power.stopped then 2 else 1) ∧
    t.power.band = (if 10800 ≤ s.power.vinMv then 5 else if 9600 ≤ s.power.vinMv then 4
      else if 8400 ≤ s.power.vinMv then 3 else if 7200 ≤ s.power.vinMv then 2
      else if 6000 ≤ s.power.vinMv then 1 else 0) ∧
    t.lifecycle = s.lifecycle ∧ t.pwrEvents = s.pwrEvents ∧ t.backup.kek = s.backup.kek ∧
    t.backup.bootCount = s.backup.bootCount
  (∀ s : State, s.power.phase ≠ .backupOnly → s.power.phase ≠ .stopping → s.power.vinMv < 4200 →
    answers .brownoutStop s (stopped 0 s)) ∧
  (∀ s : State, s.power.phase ≠ .backupOnly → s.power.phase ≠ .stopping → 100 ≤ s.power.clampMs →
    answers .overvoltageStop s (stopped 1 s)) ∧
  (∀ (s : State) (tj : BitVec 16) (cl : Fin 10), s.power.phase ≠ .backupOnly → s.power.phase ≠ .stopping →
    120 * 16 ≤ tj.toInt →
    answers (.thermalShutdown tj cl) s (fun t => stopped 3 s t ∧ t.power.thermalWait = true)) ∧
  (∀ s : State, s.power.phase = .stopping →
    answers .stopFlushComplete s (fun t => t.power.phase = .backupOnly ∧ t.log.staged = [] ∧ t.power.vhuMv = 0 ∧
      t.lifecycle = s.lifecycle ∧ t.backup = s.backup ∧ t.pwrEvents = s.pwrEvents)) ∧
  (∀ s : State, s.power.phase = .backupOnly → 4500 ≤ s.power.vinMv → s.power.vinMv ≤ 18000 →
    s.power.thermalWait = false → s.power.thermalHold = false → answers .powerStart s (started s)) ∧
  (∀ (s : State) (tj : BitVec 16), s.power.phase = .backupOnly → 4500 ≤ s.power.vinMv → s.power.vinMv ≤ 18000 →
    s.power.thermalWait = true → s.power.thermalHold = false → tj.toInt ≤ 90 * 16 →
    answers (.thermalRestart tj) s (started s)) ∧
  (∀ s : State, s.power.phase = .backupOnly →
    answers .backupDomainFirstPower s (fun t =>
      t = { s with backup := t.backup, watch := t.watch, pwrEvents := {}, free := t.free } ∧
      t.backup.rtcValid = false ∧ t.backup.vbatMv = s.backup.vbatMv ∧
      t.watch = { s.watch with restrict := t.watch.restrict, lock := t.watch.lock, latched := t.watch.latched }))

/-- The governor's band, VIN and thermal samples, stretching, clamp time and the hold-up bank. While the device operates:
GOVERNOR_BAND_FALL below the band's falling edge and GOVERNOR_BAND_RISE 0.2 V above the next edge move the band by one
and pend POWER_EVENT (11); CLOCK_STRETCH above 8.5 A with VIN below 10.8 V sets the stretch and pends source 11;
THERMAL_THROTTLE_STEP at 105 °C or more, not yet throttling, sets THROTTLE, lowers the thermal row by one from its own
value, records temperature and sensor and pends THERMAL (12); VIN_SAMPLE, once a band is decided, stores voltage and
current and judges the bits for below 4.5 V, above 18 V and clamping above 20 V. STRETCH_RELEASE at 8.0 A or less ends
the stretch. CLAMP_MS_DECAY while not clamping lowers CLAMP_MS by one, not below 0. In READY, HOLDUP_LOW_DETECT below
4,700 mV sets HOLDUP_LOW and PWR_EVENTS bit 5, pends source 11 and stops the logbook recording, and HOLDUP_RECOVERY at
4,700 mV or more with CAP_UF at least 1,300 clears it. Band moves change nothing outside the supply, the units, the
interrupt counts, the recorders and the counter of free values; VIN_SAMPLE nothing outside the supply, PWR_EVENTS and
the interrupt counts; the thermal and hold-up commands leave operations and moorings. (02_package_power.md) -/
def Obligations.GovernorFollowsSupply : Prop :=
  let edge (b : Nat) : Int := match b with | 0 => 4500 | 1 => 6000 | 2 => 7200 | 3 => 8400 | 4 => 9600 | _ => 10800
  let up (s : State) : Prop := s.power.phase ≠ .backupOnly ∧ s.power.phase ≠ .stopping
  (∀ s : State, up s → 0 < s.power.band → s.power.vinMv < edge s.power.band →
    answers .governorBandFall s (fun t => t.power = { s.power with band := s.power.band - 1 } ∧ pended 11 s t ∧
      t = { s with power := t.power, units := t.units, ints := t.ints, recorders := t.recorders, free := t.free })) ∧
  (∀ s : State, up s → s.power.band < 5 → edge (s.power.band + 1) + 200 ≤ s.power.vinMv →
    answers .governorBandRise s (fun t => t.power = { s.power with band := s.power.band + 1 } ∧ pended 11 s t ∧
      t = { s with power := t.power, units := t.units, ints := t.ints, recorders := t.recorders, free := t.free })) ∧
  (∀ s : State, up s → s.power.vinMv < 10800 → 8500 < s.power.iinMa → s.power.stretch = false →
    answers .clockStretch s (fun t => t = { s with power := { s.power with stretch := true }, ints := t.ints } ∧
      pended 11 s t)) ∧
  (∀ s : State, s.power.stretch = true → s.power.iinMa ≤ 8000 →
    answers .stretchRelease s (fun t => t = { s with power := { s.power with stretch := false } })) ∧
  (∀ s : State, s.power.clampActive = false →
    answers .clampMsDecay s (fun t => t.power.clampMs = s.power.clampMs - 1 ∧ t = { s with power := t.power })) ∧
  (∀ (s : State) (mv ma : BitVec 16) (low : Bool), up s → s.power.governed = true →
    answers (.vinSample mv ma low) s (fun t =>
      t.power.vinMv = mv.toInt ∧ t.power.iinMa = ma.toNat ∧ t.power.vinLow = decide (mv.toInt < 4500) ∧
      t.power.ovWarn = decide (18000 < mv.toInt) ∧ t.power.clampActive = decide (20000 < mv.toInt) ∧
      t.power.band = s.power.band ∧
      t = { s with power := t.power, pwrEvents := t.pwrEvents, ints := t.ints })) ∧
  (∀ (s : State) (tj : BitVec 16) (cl : Fin 10), up s → 105 * 16 ≤ tj.toInt → s.power.throttle = false →
    answers (.thermalThrottleStep tj cl) s (fun t => t.power.throttle = true ∧
      t.power.thermalRow = s.power.thermalRow - 1 ∧ t.power.tj16 = tj.toInt ∧
      t.power.hotCluster = cl.val ∧ pended 12 s t ∧ t.moor = s.moor ∧ t.ops = s.ops)) ∧
  (∀ (s : State) (vhu : BitVec 16), s.power.phase = .ready → vhu.toNat < 4700 → s.power.holdupLow = false →
    answers (.holdupLowDetect vhu) s (fun t => t.power.holdupLow = true ∧ t.power.vhuMv = vhu.toNat ∧
      nbit t.pwrEvents.bits 5 = true ∧ pended 11 s t ∧ recordBlock t = 1 ∧ t.ops = s.ops ∧ t.moor = s.moor)) ∧
  (∀ (s : State) (vhu : BitVec 16), s.power.phase = .ready → s.power.holdupLow = true → 4700 ≤ vhu.toNat →
    1300 ≤ s.power.capUf →
    answers (.holdupRecovery vhu) s (fun t => t.power.holdupLow = false ∧ t.power.vhuMv = vhu.toNat ∧
      t.pwrEvents = s.pwrEvents ∧ t.ops = s.ops ∧ t.moor = s.moor))

/-- The start sequence: PLL lock, the ROM's verdict on the image, firmware's start and READY. PLL_LOCK at step 2 of R68,
or at step 3 after a debug reset, with EXTEST not in force, reaches step 4: it advances the boot counter without
wrapping, starts the three PLLs and changes nothing else but the debug certificate. With the keeper clock running:
BOOT_ROM at step 4 without a candidate bank ends in failure with cause NO_IMAGE and every core waiting; with one whose
checks pass it takes that bank's number and IMAGE_SEQ, locks the execute-only regions, sets EN of the random source
and enters firmware in ring 0 with the MPU off; with one whose checks fail it ends with the cause of the first check
that failed, that bank and every core waiting. FIRMWARE_START at step 6, the source ON and flash scanned, reaches step
9 with fresh memory keys, their epoch advanced by one and no mooring. READY_REPORT at step 9 with VHU_MV at 4,700 or
more reaches READY, records both hold-up figures and raises the SVN floor to the running image's SVN, at most 64,
never lowering it. (03_clocks_resets.md, 21_watch_backup.md, 25_boot_debug.md) -/
def Obligations.StartReachesReady : Prop :=
  (∀ s : State, (s.power.phase = .booting 2 ∨ s.power.phase = .booting 3) → s.tap.extest = false →
    answers .pllLock s (fun t => t.power.phase = .booting 4 ∧
      t.backup.bootCount = min (2 ^ 32 - 1) (s.backup.bootCount + 1) ∧
      t.clocks = { s.clocks with pllDp := true, pllDram := true, pllKpr := true } ∧
      t = { s with power := t.power, backup := t.backup, clocks := t.clocks, tap := t.tap })) ∧
  (∀ s : State, kprRuns s = true → s.power.phase = .booting 4 →
    answers .bootRom s (fun t =>
      match candidate s.flash with
      | none => t.power.phase = .bootFailed ∧ t.boot.cause = 1 ∧ ∀ c, c < 4 → (getCore t c).waiting = true
      | some b =>
        if bankCause s b = 0 then
          t.power.phase = .booting 6 ∧ t.boot.bank = b ∧ t.boot.seq = hSeq (header s.flash b) ∧ t.flash.xoLock = true ∧
            (getUnit t .rng).en = true ∧ (getCore t 0).bank.ring = 0 ∧ (getMpu t 0).en = false
        else t.power.phase = .bootFailed ∧ t.boot.cause = bankCause s b ∧ t.boot.bank = b ∧
          ∀ c, c < 4 → (getCore t c).waiting = true)) ∧
  (∀ (s : State) (bad : List (Fin 64)), kprRuns s = true → s.power.phase = .booting 6 → unitSt s .rng = .on → s.flash.scanned = true →
    answers (.firmwareStart bad) s (fun t => t.power.phase = .booting 9 ∧ t.moor.memKeys = true ∧ t.moor.slots = [] ∧
      t.moor.memEpoch = s.moor.memEpoch + 1)) ∧
  (∀ (s : State) (cap vhu : BitVec 16), kprRuns s = true → s.power.phase = .booting 9 → 4700 ≤ vhu.toNat →
    answers (.readyReport cap vhu) s (fun t => t.power.phase = .ready ∧ t.power.capUf = cap.toNat ∧
      t.power.vhuMv = vhu.toNat ∧
      t.boot.svnFloor = (if s.boot.svn ≤ s.boot.svnFloor then s.boot.svnFloor else min 64 s.boot.svn)))

/-- Lost clocks pend CLOCK_MONITOR, the stack's self-refresh, and the management tick. CLOCK_LOSS of a clock that runs
pends source 10 at every core and leaves that clock stopped; of the 25 MHz crystal or the DRAM's PLL it changes
nothing else, of the 32.768 kHz crystal it also clears RTC_VALID, of the RF crystal it leaves the front end FAULTED
with cause 1, and of a port's reference with its link up it takes the link down and sets CLK_LOSS. The stack enters
self-refresh at step 8 or later while nothing wants it, and leaves it at DRAM_WAKE_COMPLETE, with no other change.
With the data-plane clock running, a management tick advances the tick counter by one, latches the counters of
domains, lanes and mooring hits, sets each core's tick latch, counts in MISSED an edge that found it set, saturating,
and leaves operations, moorings, keys and the lifecycle. (03_clocks_resets.md, 01_architecture.md,
19_interrupts_mpu.md) -/
def Obligations.ClocksAndTicks : Prop :=
  (∀ (s : State) (k : ClockId), clockRuns s k = true →
    answers (.clockLoss k) s (fun t => clockRuns t k = false ∧ pended 10 s t)) ∧
  (∀ s : State, clockRuns s .xtal25 = true → answers (.clockLoss .xtal25) s (fun t =>
    t = { s with clocks := { s.clocks with xtal25 := false }, ints := t.ints })) ∧
  (∀ s : State, clockRuns s .xtal32k = true → answers (.clockLoss .xtal32k) s (fun t =>
    t = { s with
      clocks := { s.clocks with xtal32k := false }, backup := { s.backup with rtcValid := false }, ints := t.ints })) ∧
  (∀ s : State, clockRuns s .pllDram = true → answers (.clockLoss .pllDram) s (fun t =>
    t = { s with clocks := { s.clocks with pllDram := false }, ints := t.ints })) ∧
  (∀ s : State, clockRuns s .xtal27m = true → answers (.clockLoss .xtal27m) s (fun t =>
    unitSt t .rf = .faulted ∧ (getUnit t .rf).cause = 1)) ∧
  (∀ (s : State) (n : Fin 4), clockRuns s (.port n) = true → (getPort s n.val).linkUp = true →
    answers (.clockLoss (.port n)) s (fun t => (getPort t n.val).linkUp = false ∧ nbit (getPort t n.val).events 3 = true)) ∧
  (∀ s : State, passed s 8 = true → stackWanted s = false →
    answers .dramSelfRefreshEntry s (fun t => t = { s with clocks := { s.clocks with dramSr := true } })) ∧
  (∀ s : State, answers .dramWakeComplete s (fun t => t = { s with clocks := { s.clocks with dramSr := false } })) ∧
  (∀ (s : State) (edges : Nat), dpRuns s = true →
    answers (.managementTick edges) s (fun t => t.tick = s.tick + 1 ∧ t.snap.domains = s.domains ∧
      t.snap.lanes = s.lanes ∧ t.snap.hits = s.moor.hits ∧
      (∀ c, c < 4 → (getInt t c).tickLatch = true ∧ (getInt t c).missed =
        if (getInt s c).tickLatch then min 65535 ((getInt s c).missed + 1) else (getInt s c).missed) ∧
      t.ops = s.ops ∧ t.moor = s.moor ∧ t.keys = s.keys ∧ t.lifecycle = s.lifecycle))

/-- The boot counter advances by 1 at step 4 of every start and saturates. At PLL_LOCK, which is step 4 of R68 after a
power-on or brown-out start (phase 2) and after a debug reset (phase 3), the boot counter advances by 1; at
0xFFFF_FFFF it stays there. (R534) -/
def Obligations.BootCounterNeverWraps : Prop :=
  ∀ s : State, (s.power.phase = .booting 2 ∨ s.power.phase = .booting 3) → s.tap.extest = false →
    (s.backup.bootCount < 2 ^ 32 - 1 → answers .pllLock s fun t => t.backup.bootCount = s.backup.bootCount + 1) ∧
    (s.backup.bootCount = 2 ^ 32 - 1 → answers .pllLock s fun t => t.backup.bootCount = 2 ^ 32 - 1)

/-- Links train, change rate and width, enter and leave L1; the strap is stored for the next start. LINK_TRAINING_COMPLETE
brings a present port that is down, its clock stable, PERST# released, step 4 of R68 passed and rate and width
permitted, to L0 at that rate and width, in FLIT mode at 64 GT/s, with RATE_DOWN set where rate or width is below the
limit. On a link that is up: L0P_REQUEST in FLIT mode to a permitted width not above the negotiated one changes the
width; PARTNER_RATE_CHANGE to a permitted rate sets it, turns FLIT mode on at 64 GT/s and ends L1; ASPM_L1_ENTRY,
enabled, with no operation in flight and no poll due, enters L1. L1_EXIT ends L1, PERST_RELEASE of a present port
clears PERST. Each of these leaves the rest of that port and the other ports as they were. PORT_REFCLK_STABLE of a
present port after step 4 with PERST# released sets its clock bit only. CONFIG_REQUEST on a link that is up answers
Request Retry Status before step 9 of R68; after it a request to a function that is not there answers Unsupported
Request, and one to a function that is there ends with the reply of its kind; a Max_Read_Request_Size write also sets
it. HPT_STRAP_WRITE in FACTORY, the logbook recording, stores the low byte for the next start, logs it and leaves the
strap in force and the ports. (04_host_ports.md, 03_clocks_resets.md) -/
def Obligations.LinksTrainAndChange : Prop :=
  let only (n : Nat) (s t : State) : Prop := t = { s with ports := t.ports } ∧ ∀ m, m ≠ n → getPort t m = getPort s m
  (∀ (s : State) (n : Fin 4) (rate : Fin 7) (width : Fin 17) (flit : Bool), portPresent s n.val = true →
    (getPort s n.val).linkUp = false → (getPort s n.val).perst = false → nbit s.clocks.portClk n.val = true →
    passed s 4 = true → rate.val ≠ 0 → rate.val ≤ rateLimit s n.val → widthOk s n.val width.val = true →
    answers (.linkTrainingComplete n rate width flit) s (fun t =>
      (getPort t n.val).linkUp = true ∧ (getPort t n.val).rate = rate.val ∧ (getPort t n.val).width = width.val ∧
      (getPort t n.val).flit = (flit || rate.val == 6) ∧
      (getPort t n.val).events = (if rate.val < rateLimit s n.val ∨ width.val < portLanes s n.val
        then setBit (getPort s n.val).events 4 else (getPort s n.val).events) ∧
      t = { s with ports := t.ports, recorders := t.recorders, free := t.free } ∧
      ∀ m, m ≠ n.val → getPort t m = getPort s m)) ∧
  (∀ (s : State) (n : Fin 4) (width : Fin 17), (getPort s n.val).linkUp = true → (getPort s n.val).flit = true →
    widthOk s n.val width.val = true → width.val ≤ (getPort s n.val).negWidth →
    answers (.l0pRequest n width) s (fun t => only n.val s t ∧
      getPort t n.val = { getPort s n.val with width := width.val })) ∧
  (∀ (s : State) (n : Fin 4), (getPort s n.val).linkUp = true → (getPort s n.val).l1Enabled = true →
    (∀ o ∈ s.ops, domPort o.dom ≠ n.val) →
    answers (.aspmL1Entry n false) s (fun t => only n.val s t ∧ getPort t n.val = { getPort s n.val with l1 := true })) ∧
  (∀ (s : State) (n : Fin 4), answers (.l1Exit n) s (fun t =>
    only n.val s t ∧ getPort t n.val = { getPort s n.val with l1 := false })) ∧
  (∀ (s : State) (n : Fin 4) (rate : Fin 7), (getPort s n.val).linkUp = true → rate.val ≠ 0 →
    rate.val ≤ rateLimit s n.val →
    answers (.partnerRateChange n rate) s (fun t =>
      only n.val s t ∧ getPort t n.val = { getPort s n.val with
        rate := rate.val, flit := (getPort s n.val).flit || rate.val == 6, l1 := false })) ∧
  (∀ (s : State) (n : Fin 4), portPresent s n.val = true → answers (.perstRelease n) s (fun t =>
    only n.val s t ∧ getPort t n.val = { getPort s n.val with perst := false })) ∧
  (∀ (s : State) (n : Fin 4), portPresent s n.val = true → passed s 4 = true → (getPort s n.val).perst = false →
    answers (.portRefclkStable n) s (fun t =>
    t = { s with clocks := { s.clocks with portClk := t.clocks.portClk } } ∧ nbit t.clocks.portClk n.val = true)) ∧
  (∀ (s : State) (n : Fin 4) (r : CfgReq), portUp s n.val = true → passed s 9 = false →
    answers (.configRequest n r) s (fun t => t = { s with outs := s.outs ++ [.cfgReply n.val true] })) ∧
  (∀ (s : State) (n : Fin 4) (r : CfgReq), portUp s n.val = true → passed s 9 = true →
    fnPresent s n.val (cfgFn r) = false →
    answers (.configRequest n r) s (fun t =>
      t = { s with outs := s.outs ++ [.unsupported (64 * n.val + cfgFn r)] })) ∧
  (∀ (s : State) (n : Fin 4) (r : CfgReq), portUp s n.val = true → passed s 9 = true →
    fnPresent s n.val (cfgFn r) = true →
    answers (.configRequest n r) s (fun t => t.outs.getLast? = some (cfgReply s n.val r))) ∧
  (∀ (s : State) (n : Fin 4) (k : Fin 6), portUp s n.val = true → passed s 9 = true →
    answers (.configRequest n (.readSize k)) s (fun t =>
      getPort t n.val = { getPort s n.val with mrrs := 128 * 2 ^ k.val } ∧
      t = { s with ports := t.ports, outs := s.outs ++ [.cfgReply n.val false] })) ∧
  (∀ (s : State) (v : BitVec 32), s.lifecycle = .factory → logRefusal s = none →
    answers (.hptStrapWrite v) s (fun t => t.strapNext = v.toNat % 256 ∧ t.strap = s.strap ∧ t.ports = s.ports ∧
      t.log.nextSeq = s.log.nextSeq + 1))

/-- A lost port fails alone; errors are counted; a masked MSI-X vector sends when unmasked. PERST_ASSERT, LINK_DOWN and
UNCORRECTABLE_ERROR on a link that is up take it down, count the loss saturating at 65,535, set their bits of
HPT_EVENTS (1; 0; 2 and 6), clear EN of each of the port's domains and leave the other ports, the policy banks and the
key slots; PERST_ASSERT also sets PERST and the port's bit of CLK_RESET_CAUSE. On a link that is up,
FUNCTION_LEVEL_RESET of a VF clears EN of its domain and gives its queues and its function their reset values, and of
a PF does so for every domain of the port and clears VF Enable; VF_ENABLE_CLEAR clears VF Enable and keeps NumVFs, or
with a number not above NumVFs lowers NumVFs to it and keeps VF Enable; both leave the key slots. CORRECTABLE_ERROR
and HOST_BAR_ACCESS_BAD count at the function and set bit 5 of HPT_EVENTS; a bad read is answered Unsupported Request;
neither changes anything outside functions, ports, recorders, free values and what is sent. DMA_READ_ERROR of an
operation that waits for its block or its data, before any output: without a unit to scrub it ends with DMA_ERROR and
the detail of what was read, and on a lane or pair it goes to scrubbing with that status. MSIX_UNMASK clears the
vector's mask, or with none the function's, and sends the vectors then pending and unmasked: of one vector alone
pending, one message. (04_host_ports.md) -/
def Obligations.PortLossesAndErrors : Prop :=
  let lost (n : Nat) (s t : State) : Prop :=
    (getPort t n).linkUp = false ∧ (getPort t n).lossCount = min 65535 ((getPort s n).lossCount + 1) ∧
    (∀ d, d < 256 → domPort d = n → (getDomUnit t d).en = false) ∧
    (∀ m, m ≠ n → getPort t m = getPort s m) ∧ t.policy = s.policy ∧ t.keys.slots = s.keys.slots
  let cleared (d : Nat) (t : State) : Prop :=
    (getDomUnit t d).en = false ∧ (∀ q, q < 65 → getQueue t d q = {} ∧ getQueueUnit t d q = {}) ∧ getFunc t d = {}
  let error (d : Nat) (s t : State) : Prop :=
    (getFunc t d).aerCorr = (getFunc s d).aerCorr + 1 ∧ nbit (getPort t (domPort d)).events 5 = true ∧
    t = { s with funcs := t.funcs, ports := t.ports, recorders := t.recorders, free := t.free, outs := t.outs }
  (∀ (s : State) (n : Fin 4), portPresent s n.val = true → (getPort s n.val).linkUp = true →
    (getPort s n.val).perst = false →
    answers (.perstAssert n) s (fun t => lost n.val s t ∧ (getPort t n.val).perst = true ∧
      nbit (getPort t n.val).events 1 = true ∧ nbit t.clocks.resetCause (4 + n.val) = true)) ∧
  (∀ (s : State) (n : Fin 4), (getPort s n.val).linkUp = true →
    answers (.linkDown n) s (fun t => lost n.val s t ∧ nbit (getPort t n.val).events 0 = true)) ∧
  (∀ (s : State) (n : Fin 4), (getPort s n.val).linkUp = true →
    answers (.uncorrectableError n) s (fun t => lost n.val s t ∧ nbit (getPort t n.val).events 2 = true ∧
      nbit (getPort t n.val).events 6 = true)) ∧
  (∀ (s : State) (d : Fin 256), portUp s (domPort d.val) = true → domFn d.val ≠ 0 →
    answers (.functionLevelReset d) s (fun t => cleared d.val t ∧ t.keys.slots = s.keys.slots)) ∧
  (∀ (s : State) (n : Fin 4), portUp s n.val = true →
    answers (.functionLevelReset (Fin.ofNat 256 (64 * n.val))) s (fun t =>
      (∀ d, d < 256 → domPort d = n.val → cleared d t) ∧ (getPort t n.val).vfEnable = false ∧
      t.keys.slots = s.keys.slots)) ∧
  (∀ (s : State) (n : Fin 4), portUp s n.val = true →
    answers (.vfEnableClear n none) s (fun t => (getPort t n.val).vfEnable = false ∧
      (getPort t n.val).numVfs = (getPort s n.val).numVfs ∧ t.keys.slots = s.keys.slots)) ∧
  (∀ (s : State) (n : Fin 4) (k : Fin 64), portUp s n.val = true → k.val ≤ (getPort s n.val).numVfs →
    answers (.vfEnableClear n (some k)) s (fun t => (getPort t n.val).vfEnable = (getPort s n.val).vfEnable ∧
      (getPort t n.val).numVfs = k.val ∧ t.keys.slots = s.keys.slots)) ∧
  (∀ (s : State) (d : Fin 256), portUp s (domPort d.val) = true →
    answers (.correctableError d) s (fun t => error d.val s t ∧ t.outs = s.outs)) ∧
  (∀ (s : State) (d : Fin 256) (read : Bool), portUp s (domPort d.val) = true →
    answers (.hostBarAccessBad d read) s (fun t => error d.val s t ∧
      t.outs = (if read then s.outs ++ [.unsupported d.val] else s.outs))) ∧
  (∀ (s : State) (tag : Fin 4096) (o : Op), findLive s tag.val = some o → o.stage = .waitPb ∨ waitsData o = true →
    needsScrub o = false → plain o → heldByOrder s o = false → noneHeld s = true →
    answers (.dmaReadError tag) s (fun t => opEnds s t o stDmaError (dmaDetail o) o.result (0, 0) 0)) ∧
  (∀ (s : State) (tag : Fin 4096) (o : Op), findLive s tag.val = some o → o.stage = .waitPb ∨ waitsData o = true →
    needsScrub o = true →
    answers (.dmaReadError tag) s (fun t =>
      (findOp t tag.val).map (fun x => (x.stage, x.status, x.detail)) = some (.scrubbing, stDmaError, dmaDetail o))) ∧
  (∀ (s : State) (d : Fin 256) (v : Fin 65), dpRuns s = true → portUp s (domPort d.val) = true →
    answers (.msixUnmask d (some v)) s (fun t => nbit (getFunc t d.val).unmasked v.val = true ∧
      (t.outs = if (getFunc s d.val).msixEn && !(getFunc s d.val).fnMask && nbit (getFunc s d.val).pba v.val
        then s.outs ++ [msixOut s d.val v.val] else s.outs) ∧
      t = { s with funcs := t.funcs, outs := t.outs })) ∧
  (∀ (s : State) (d : Fin 256) (v : Fin 65), dpRuns s = true → portUp s (domPort d.val) = true →
    (getFunc s d.val).msixEn = true → (getFunc s d.val).pba = 2 ^ v.val →
    nbit (getFunc s d.val).unmasked v.val = true →
    answers (.msixUnmask d none) s (fun t => (getFunc t d.val).fnMask = false ∧ nbit (getFunc t d.val).pba v.val = false ∧
      t.outs = s.outs ++ [msixOut s d.val v.val] ∧ t = { s with funcs := t.funcs, outs := t.outs }))

/-- The checks of an admin descriptor, and the delivery of its result. With the keepers running, an admin queue served and
no command of its domain in service, ADMIN_DESCRIPTOR_SERVE takes the domain's first descriptor from the hand-off ring
(leaving the rest as it was where none of it failed its read), and no operation, unit record or mooring changes. A
failed format check gives BAD_DESCRIPTOR with the check's number. A descriptor that passes it: input that cannot be
read gives DMA_ERROR with DETAIL 2 with a parameter block, else 3; ADMIN_OPEN becomes ready to run if its block fits,
else gives BAD_PARAMETER with DETAIL 2; another command without a session gives ADMIN_AUTH_REQUIRED. With a session, a
wrong MAC gives AUTH_FAIL with DETAIL 2, counts, and closes the session at the third in a row; a right MAC with the
wrong SEQ gives REPLAY and leaves the expected SEQ; both right advance the expected SEQ even where the command is then
refused (LOCKED, BAD_PARAMETER with DETAIL 2, POLICY_DENIED), and otherwise make it ready to run.
ADMIN_COMPLETION_WRITE of a finished command on a port that is up, no record waiting, writes its output, result MAC
and entry, in this order, advances CQ_TAIL, frees the service and closes the session of a command marked so; of a
command whose function or port was lost it frees the service and writes nothing. ADMIN_CLOSE with target 0 ends with
OK and marks the session for closing. (05_domains.md, 07_descriptors.md) -/
def Obligations.AdminDescriptorsAreChecked : Prop :=
  let taken (s t : State) (a : AdminReq) (c : AdminCmd) : Prop :=
    c.desc = a.desc ∧ c.idx = a.idx ∧ t.ops = s.ops ∧ t.units = s.units ∧ t.moor = s.moor ∧
    ((∀ r ∈ s.engine.handoff.erase a, r.failed = false) → t.engine.handoff = s.engine.handoff.erase a)
  let served (s : State) (d : Nat) (a : AdminReq) : Prop :=
    kprRuns s = true ∧ servingOf s d = none ∧ adminServed s d = true ∧
    (s.engine.handoff.find? fun r => r.dom == d) = some a
  (∀ (s : State) (d : Fin 256) (a : AdminReq) (data : Bytes) (rtt : Nat), served s d.val a →
    answers (.adminDescriptorServe d (some (data, rtt))) s (fun t =>
      let b := slice data 0 (dInLen a.desc)
      let pb := b.take (aPbLen a.desc)
      ∃ c, servingOf t d.val = some c ∧ taken s t a c ∧
      (if adminCheck a.desc ≠ 0 then
        c.done = true ∧ c.status = stBadDescriptor ∧ c.detail = adminCheck a.desc ∧ t.domains = s.domains
      else if dOpcode a.desc = 0x80 then
        t.domains = s.domains ∧
        if cmdPbOk a.desc pb = true then
          c.ready = true ∧ c.done = false ∧ c.pb = pb.drop 8 ∧ c.input = b.drop (aPbLen a.desc)
        else c.done = true ∧ c.status = stBadParameter ∧ c.detail = 2
      else match (getDom s d.val).session with
      | none => c.done = true ∧ c.status = stAdminAuthRequired ∧ t.domains = s.domains
      | some x =>
        if aMac a.desc ≠ descMac x.kMac a.desc b then
          c.done = true ∧ c.status = stAuthFail ∧ c.detail = 2 ∧
          (getDom t d.val).session = if x.macFails + 1 < 3 then some { x with macFails := x.macFails + 1 } else none
        else if aSeq a.desc ≠ x.expSeq then
          c.done = true ∧ c.status = stReplay ∧ (getDom t d.val).session = some { x with macFails := 0 }
        else
          (getDom t d.val).session =
            some { x with macFails := 0, expSeq := (x.expSeq + 1) % 2 ^ 32, lastTick := s.tick } ∧
          c.kMac = some x.kMac ∧
          (if devLocked s = true ∧ lockedAllows (dOpcode a.desc) = false then c.done = true ∧ c.status = stLocked
           else if cmdPbOk a.desc pb = false then c.done = true ∧ c.status = stBadParameter ∧ c.detail = 2
           else if outOfScope s d.val (dOpcode a.desc) = true then c.done = true ∧ c.status = stPolicyDenied
           else c.ready = true ∧ c.done = false ∧ c.pb = pb.drop 8 ∧ c.input = b.drop (aPbLen a.desc))))) ∧
  (∀ (s : State) (d : Fin 256) (a : AdminReq), served s d.val a →
    adminCheck a.desc = 0 → (dOpcode a.desc = 0x80 ∨ (getDom s d.val).session.isSome = true) → dInLen a.desc ≠ 0 →
    answers (.adminDescriptorServe d none) s (fun t =>
      ∃ c, servingOf t d.val = some c ∧ taken s t a c ∧ c.done = true ∧ c.status = stDmaError ∧
        c.detail = (if aPbLen a.desc = 0 then 3 else 2) ∧ t.domains = s.domains)) ∧
  (∀ (s : State) (d : Fin 256) (c : AdminCmd), kprRuns s = true → servingOf s d.val = some c → c.done = true →
    recordsPending s.flash = false → c.lost = false → portUp s (domPort d.val) = true →
    answers (.adminCompletionWrite d) s (fun t =>
      let x := getQueue s d.val 64
      let entry := completionEntry c.idx (if c.bad then 0x8000 else 0) c.status c.detail (dOpcode c.desc) 0 (cmdOutLen c)
        (if c.kMac.isSome then 16 else 0) (le 4 (aSeq c.desc))
        (b2n x.phase + shl (b2n (!c.output.isEmpty || c.kMac.isSome)) 1)
      servingOf t d.val = none ∧
      (s.outs ++ (if c.output.isEmpty then [] else [dataWrite s d.val (dOutAddr c.desc) c.output]) ++
        (match c.kMac with
          | none => []
          | some k => [dataWrite s d.val (dAuxAddr c.desc) (resultMac k entry c.output)]) ++
        [.completion d.val 64 (x.cqBase + 32 * x.cqTail) entry]) <+: t.outs ∧
      (getQueue t d.val 64).cqTail = (if x.cqTail + 1 = 2 ^ x.cqLog2 then 0 else x.cqTail + 1) ∧
      (c.close = true → (getDom t d.val).session = none) ∧
      t.ops = s.ops ∧ t.units = s.units ∧ t.moor = s.moor)) ∧
  (∀ (s : State) (d : Fin 256) (c : AdminCmd), kprRuns s = true → servingOf s d.val = some c → c.done = true →
    recordsPending s.flash = false → c.lost = true →
    answers (.adminCompletionWrite d) s (fun t => servingOf t d.val = none ∧ t.outs = s.outs ∧ t.queues = s.queues)) ∧
  (∀ (s : State) (d : Fin 256) (c : AdminCmd), cmdReady s d.val 0x81 0 c → aTarget c.desc = 0 →
    answers (.adminClose d) s (fun t => cmdEnds t d.val { c with close := true } stOK 0 [] ∧ onlyService s t))

/-- Opening a session, lock-outs, expiry. Where neither a lock-out, the body's form nor the credential's scope refuses it:
ADMIN_OPEN phase 0 with a valid 97-byte host key, room for 257 bytes and random bytes to be had answers challenge,
device key and signature and makes that the outstanding challenge, leaving an open session; with a host key of another
length or off the curve it gives BAD_PARAMETER with DETAIL 3. Phase 1 on a matching challenge uses it up: a right
proof ends with OK, sets FAILS to 0 and opens the one session with the derived keys and expected SEQ 1; a wrong one
ends with AUTH_FAIL, leaves an open session, counts FAILS and locks out from the tenth for the period of R122. Without
a matching challenge it ends with AUTH_FAIL uncounted. While locked out both end with ADMIN_LOCKED_OUT. The identity
form with target 0 returns the record of 5,584 bytes, or the length it needs. CHALLENGE_EXPIRY drops only the
challenge, SESSION_IDLE_TIMEOUT closes a session idle for 900,000 ticks, LOCKOUT_EXPIRY ends a lock-out that has run
out. (05_domains.md) -/
def Obligations.SessionsOpenAndExpire : Prop :=
  (∀ (s : State) (d : Fin 256) (c : AdminCmd), cmdReady s d.val 0x80 0 c → openRefusal s c 0 = none →
    c.input.length = 97 → ecPubOk p384 c.input = true → 257 ≤ dOutLen c.desc → drawWaits s = false →
    answers (.adminOpenPhase0 d) s (fun t =>
      ∃ x, (getDom t d.val).challenge = some x ∧
        cmdEnds t d.val c stOK 0 (x.bytes ++ x.devPub ++
          idSign s (primBytes (.hash 2) 48 [x.bytes ++ x.devPub]) ((drbgBytes s 128).drop 80)) ∧
        x.bytes = challengeBytes s c.dom (byteAt c.pb 0) (aTarget c.desc) (slice (drbgBytes s 128) 48 32) ∧
        x.devPub = ecPublic p384 x.secret ∧ x.hostPub = c.input ∧ x.method = byteAt c.pb 0 ∧
        x.credential = aTarget c.desc ∧ (getDom t d.val).session = (getDom s d.val).session ∧
        t = { s with engine := t.engine, domains := t.domains, rng := t.rng, free := t.free })) ∧
  (∀ (s : State) (d : Fin 256) (c : AdminCmd), cmdReady s d.val 0x80 0 c → openRefusal s c 0 = none →
    (c.input.length ≠ 97 ∨ ecPubOk p384 c.input = false) →
    answers (.adminOpenPhase0 d) s (fun t => cmdEnds t d.val c stBadParameter 3 [] ∧ onlyService s t)) ∧
  (∀ (s : State) (d : Fin 256) (c : AdminCmd) (x : Challenge), cmdReady s d.val 0x80 1 c → openRefusal s c 1 = none →
    challengeFor s c = some x →
    answers (.adminOpenPhase1 d) s (fun t =>
      (getDom t d.val).challenge = none ∧ t.ops = s.ops ∧ t.units = s.units ∧ t.moor = s.moor ∧
      if proofOk s d.val (byteAt c.pb 1) x c.input then
        let k := sessionKeys d.val x
        cmdEnds t d.val { c with kMac := some (k.take 48) } stOK 0 [] ∧ (getLock t d.val).fails = 0 ∧
        (getDom t d.val).session = some {
          method := x.method, credential := aTarget c.desc, kMac := k.take 48, kPw := k.drop 48, lastTick := s.tick
          expSeq := 1, factory := aTarget c.desc == rootCred && s.lifecycle == .factory }
      else
        let f := min 255 ((getLock s d.val).fails + 1)
        cmdEnds t d.val c stAuthFail 1 [] ∧ (getDom t d.val).session = (getDom s d.val).session ∧
        (getLock t d.val).fails = f ∧ (getLock t d.val).locked = decide (10 ≤ f) ∧
        (10 ≤ f → (getLock t d.val).period = if 20 < f then 86400 else 60 * 2 ^ (f - 10)))) ∧
  (∀ (s : State) (d : Fin 256) (c : AdminCmd), cmdReady s d.val 0x80 1 c → openRefusal s c 1 = none →
    challengeFor s c = none →
    answers (.adminOpenPhase1 d) s (fun t => cmdEnds t d.val c stAuthFail 1 [] ∧ t.backup = s.backup ∧
      t.domains = s.domains)) ∧
  (∀ (s : State) (d : Fin 256) (c : AdminCmd), lockedOut s d.val = true → cmdReady s d.val 0x80 0 c →
    answers (.adminOpenPhase0 d) s (fun t => cmdEnds t d.val c stAdminLockedOut 0 [] ∧ onlyService s t)) ∧
  (∀ (s : State) (d : Fin 256) (c : AdminCmd), lockedOut s d.val = true → cmdReady s d.val 0x80 1 c →
    answers (.adminOpenPhase1 d) s (fun t => cmdEnds t d.val c stAdminLockedOut 0 [] ∧ onlyService s t)) ∧
  (∀ (s : State) (d : Fin 256) (c : AdminCmd), cmdReady s d.val 0x80 2 c → aTarget c.desc = 0 →
    answers (.adminOpenIdentity d) s (fun t => onlyService s t ∧
      if 5584 ≤ dOutLen c.desc then cmdEnds t d.val c stOK 0 (identityRecord s)
      else cmdShort t d.val c 5584)) ∧
  (∀ (s : State) (d : Fin 256), kprRuns s = true → answers (.challengeExpiry d) s (fun t =>
    getDom t d.val = { getDom s d.val with challenge := none } ∧ (∀ e, e ≠ d.val → getDom t e = getDom s e) ∧
    t = { s with domains := t.domains })) ∧
  (∀ (s : State) (d : Fin 256) (x : Session), kprRuns s = true → (getDom s d.val).session = some x →
    x.lastTick + 900000 ≤ s.tick →
    answers (.sessionIdleTimeout d) s (fun t => getDom t d.val = { getDom s d.val with session := none } ∧
      (∀ e, e ≠ d.val → getDom t e = getDom s e) ∧ t.ops = s.ops ∧ t.units = s.units ∧ t.moor = s.moor ∧
      t.engine = s.engine)) ∧
  (∀ (s : State) (d : Fin 256), (getLock s d.val).locked = true → (getLock s d.val).left = 0 →
    answers (.lockoutExpiry d) s (fun t => getLock t d.val = { getLock s d.val with locked := false } ∧
      (∀ e, e ≠ d.val → getLock t e = getLock s e) ∧
      t = { s with backup := { s.backup with locks := t.backup.locks } }))

/-- POLICY_SET and DOMAIN_SHARE_SET commands and a release. While the logbook takes changes: DATA_PLANE_ENABLE moves
COMMISSIONED to OPERATIONAL, and changes nothing in OPERATIONAL. PERMISSIONS and DOMAIN_SHARE_SET, once staged or with
their own checks passed, set the target's permissions or share in the bank that becomes active, and no other domain's,
where no commit is busy; while one is, the entry and record are staged, the policy stays, and the command waits.
RETENTION sets the log's mode. QUERY answers the domain's or the device's block, or the 64 bytes it needs, and changes
nothing. RELEASE of an OFF domain, that owns no key whose destruction needs a quorum, holds it under RELEASING.
RELEASE_COMPLETE, no commit busy and the DRAM awake, leaves it without keys and ACTIVE moorings, and waits while a
tombstone is to be programmed; once none is, the domain's statistics, FAILS and lock-out are cleared, its share is at
the defaults and the command ends. PASSWORD_SET with random bytes to be had stores or clears the role's entry, staged
in FACTORY, in the custody record later and then only with an approval, which it spends; a wrong tag or password gives
BAD_PARAMETER with DETAIL 3 and changes nothing. (05_domains.md, 01_architecture.md) -/
def Obligations.PolicyCommandsTakeEffect : Prop :=
  let staged (c : AdminCmd) : AdminCmd := { c with staged := true }
  let goes (s : State) (c : AdminCmd) (refusal : Option (Nat × Nat)) : Prop :=
    c.staged = true ∨ (refusal = none ∧ logRefusal s = none)
  (∀ (s : State) (d : Fin 256) (c : AdminCmd), cmdReady s d.val 0x8F 0x01 c → deviceWide s c true = none →
    s.lifecycle = .operational →
      answers (.dataPlaneEnable d) s (fun t => cmdEnds t d.val c stOK 0 [] ∧ onlyService s t)) ∧
  (∀ (s : State) (d : Fin 256) (c : AdminCmd), cmdReady s d.val 0x8F 0x01 c → deviceWide s c true = none →
    s.lifecycle = .commissioned → logRefusal s = none →
      answers (.dataPlaneEnable d) s (fun t => cmdEnds t d.val c stOK 0 [] ∧ t.lifecycle = .operational ∧
        t.log.nextSeq = s.log.nextSeq + 1 ∧ t.ops = s.ops ∧ t.units = s.units ∧ t.moor = s.moor ∧ t.policy = s.policy)) ∧
  (∀ (s : State) (d : Fin 256) (c : AdminCmd), cmdReady s d.val 0x8F 0x02 c → goes s c (permsRefusal s c) →
    answers (.permissions d) s (fun t => t.ops = s.ops ∧ t.moor = s.moor ∧ t.keys = s.keys ∧ t.lifecycle = s.lifecycle ∧
      if commitBusy s = true then servingOf t d.val = some (staged c) ∧ t.policy = s.policy
      else cmdEnds t d.val (staged c) stOK 0 [] ∧ t.policy.active = 1 - s.policy.active ∧
        ∀ e, getShare (activeBank t) e = if e = aTarget c.desc
          then { getShare (activeBank s) e with perms := leAt c.pb 0 4 } else getShare (activeBank s) e)) ∧
  (∀ (s : State) (d : Fin 256) (c : AdminCmd), cmdReady s d.val 0x91 0 c → goes s c (shareRefusal s c) →
    answers (.domainShareSet d) s (fun t => t.ops = s.ops ∧ t.moor = s.moor ∧ t.keys = s.keys ∧
      (c.staged = false → nbit (byteAt c.pb 0) 3 = true → moorAllow t (aTarget c.desc) = leAt c.pb 8 4) ∧
      (c.staged = false → nbit (byteAt c.pb 0) 4 = true → keyAllow t (aTarget c.desc) = leAt c.pb 12 4) ∧
      if commitBusy s = true then servingOf t d.val = some (staged c) ∧ t.policy = s.policy
      else cmdEnds t d.val (staged c) stOK 0 [] ∧ t.policy.active = 1 - s.policy.active ∧
        ∀ e, getShare (activeBank t) e = if e = aTarget c.desc
          then newShare (getShare (activeBank s) e) c.pb else getShare (activeBank s) e)) ∧
  (∀ (s : State) (d : Fin 256) (c : AdminCmd), cmdReady s d.val 0x8F 0x05 c →
    deviceWide s c (c.pb.length == 8 && byteAt c.pb 0 ≤ 1 && allZero (c.pb.drop 1)) = none →
    answers (.retention d) s (fun t => cmdEnds t d.val c stOK 0 [] ∧ (t.log.retain = decide (byteAt c.pb 0 = 1)) ∧
      t.ops = s.ops ∧ t.units = s.units ∧ t.moor = s.moor ∧ t.policy = s.policy)) ∧
  (∀ (s : State) (d : Fin 256) (c : AdminCmd), cmdReady s d.val 0x8F 0x04 c → aTarget c.desc = allTarget →
    ownerScope s c = true → answers (.query d) s (fun t => onlyService s t ∧
        if 64 ≤ dOutLen c.desc then cmdEnds t d.val c stOK 0 (queryDevice s) else cmdShort t d.val c 64)) ∧
  (∀ (s : State) (d : Fin 256) (c : AdminCmd), cmdReady s d.val 0x8F 0x04 c → aTarget c.desc ≠ allTarget →
    onDomain s c true = none → answers (.query d) s (fun t => onlyService s t ∧
        if 64 ≤ dOutLen c.desc then cmdEnds t d.val c stOK 0 (queryDomain s (aTarget c.desc))
        else cmdShort t d.val c 64)) ∧
  (∀ (s : State) (d : Fin 256) (c : AdminCmd), cmdReady s d.val 0x8F 0x03 c → domTargetOk s (aTarget c.desc) = true →
    ownerScope s c = true → (getDomUnit s (aTarget c.desc)).st = .off → quorumKey s (aTarget c.desc) = false →
    logRefusal s = none →
    answers (.release d) s (fun t => servingOf t d.val = some { c with ready := false, waiting := true } ∧
      getDom t (aTarget c.desc) = { getDom s (aTarget c.desc) with releasing := true } ∧
      (∀ e, e ≠ aTarget c.desc → getDom t e = getDom s e) ∧ t.log.nextSeq = s.log.nextSeq + 1 ∧
      t.ops = s.ops ∧ t.units = s.units ∧ t.moor = s.moor ∧ t.keys = s.keys ∧ t.policy = s.policy)) ∧
  (∀ (s : State) (d : Fin 256) (bad : List (Fin 4194304)) (c : AdminCmd), policyRuns s = true → s.clocks.dramSr = false →
    servingOf s d.val = some c → c.waiting = true → dOpcode c.desc = 0x8F → aSubop c.desc = 0x03 → commitBusy s = false →
    answers (.releaseComplete d bad) s (fun t =>
      let r := aTarget c.desc
      t.ops = s.ops ∧
      (c.staged = false → (∀ k ∈ t.keys.slots, k.2.st ≠ .empty → k.2.owner ≠ r) ∧
        ∀ m ∈ t.moor.slots, m.2.state = .active → m.2.owner ≠ r) ∧
      if tombstoneWaits t = true then servingOf t d.val = some (staged c)
      else cmdEnds t d.val (staged c) stOK 0 [] ∧ (getDom t r).releasing = false ∧ (getDom t r).done = 0 ∧
        (getDom t r).failed = 0 ∧ getLock t r = {} ∧
        getShare (activeBank t) r = { ({} : Share) with perms := defaultPerms s r })) ∧
  (∀ (s : State) (d : Fin 256) (c : AdminCmd), cmdReady s d.val 0x8F 0x44 c →
    factoryOrOwner s c (pwBodyOk c.pb) = none → logRefusal s = none → drawWaits s = false →
    answers (.passwordSet d) s (fun t =>
      t.ops = s.ops ∧ t.units = s.units ∧ t.moor = s.moor ∧
      if pwValueOk c = false then cmdEnds t d.val c stBadParameter 3 [] ∧ onlyService s t
      else if s.lifecycle = .factory then
        cmdEnds t d.val c stOK 0 [] ∧ t.owner.custody = s.owner.custody ∧
        ∀ r, mget {} t.owner.staged.passwords r =
          if r = byteAt c.pb 0 then newPwEntry s c else mget {} s.owner.staged.passwords r
      else if approved s c = false then cmdEnds t d.val c stPolicyDenied 0 [] ∧ onlyService s t
      else
        cmdEnds t d.val c stOK 0 [] ∧ t.keys.approval = none ∧
        ∀ r, mget {} t.owner.custody.passwords r =
          if r = byteAt c.pb 0 then newPwEntry s c else mget {} s.owner.custody.passwords r))

/-- Host writes to beacon and queue setup registers. With the data-plane clock running and the link up: QP_SETUP_WRITE, to
the whole or to a half, of a value other than the one held is applied and logged while the queue is OFF and the
logbook records, each base aligned down to its size; in any other state it leaves every queue as it was, and DB_ADDR
of an admin queue takes no write. QP_CONFIG_WRITE in any state sets IRQ_EN, COAL_COUNT, COAL_TIME and, for a queue
pair and a value other than 3, POLL_CLASS; IRQ_EN 0 drops the pending count and timer; besides, it changes at most the
two sizes of that queue. QP_DOM_BEACON_WRITE sets the 128 B aligned address while the domain is OFF and not otherwise.
PORT_BEACON_WRITE sets EN and the 64 B aligned address. Other queues, functions and ports are unchanged.
(06_queues_beacons.md, 04_host_ports.md) -/
def Obligations.QueueSetupWrites : Prop :=
  let up (s : State) (n : Nat) : Prop := dpRuns s = true ∧ portUp s n = true
  let put (x : Queue) (f : QpSetup) (h : Half) (v : Nat) : Queue := match f with
    | .sqBase => { x with sqBase := mergeHalf x.sqBase h v / 4096 * 4096 }
    | .cqBase => { x with cqBase := mergeHalf x.cqBase h v / 4096 * 4096 }
    | .dbAddr => { x with dbAddr := mergeHalf x.dbAddr h v / 16 * 16 }
    | .sizes => { x with sqLog2 := fld v 4 0, cqLog2 := fld v 9 5 }
  (∀ (s : State) (d : Fin 256) (q : Fin 65) (f : QpSetup) (h : Half) (v : Nat), up s (domPort d.val) →
    (getQueueUnit s d.val q.val).st = .off → ¬(f = .dbAddr ∧ q.val = 64) →
    (setupField (getQueue s d.val q.val) f h v).2.1 ≠ (setupField (getQueue s d.val q.val) f h v).2.2 →
    logRefusal s = none →
    answers (.qpSetupWrite d q f h v) s (fun t =>
      getQueue t d.val q.val = put (getQueue s d.val q.val) f h v ∧
      (∀ k, k ≠ queueKey d.val q.val → mget {} t.queues k = mget {} s.queues k) ∧
      t.log.nextSeq = s.log.nextSeq + 1 ∧ t.units = s.units ∧ t.ops = s.ops ∧ t.moor = s.moor)) ∧
  (∀ (s : State) (d : Fin 256) (q : Fin 65) (f : QpSetup) (h : Half) (v : Nat), up s (domPort d.val) →
    ((getQueueUnit s d.val q.val).st ≠ .off ∨ (f = .dbAddr ∧ q.val = 64)) →
    answers (.qpSetupWrite d q f h v) s (fun t => t.queues = s.queues ∧ t.units = s.units ∧ t.ops = s.ops)) ∧
  (∀ (s : State) (d : Fin 256) (q : Fin 65) (v : BitVec 32), up s (domPort d.val) →
    answers (.qpConfigWrite d q v) s (fun t =>
      let old := getQueue s d.val q.val
      let x := getQueue t d.val q.val
      x = { old with
        pollClass := if q.val = 64 ∨ fld v.toNat 11 10 = 3 then old.pollClass else fld v.toNat 11 10
        irqEn := nbit v.toNat 12, coalCount := fld v.toNat 21 14, coalTime := fld v.toNat 31 22
        irqPending := if nbit v.toNat 12 then old.irqPending else 0, timerOn := nbit v.toNat 12 && old.timerOn
        sqLog2 := x.sqLog2, cqLog2 := x.cqLog2 } ∧
      (∀ k, k ≠ queueKey d.val q.val → mget {} t.queues k = mget {} s.queues k))) ∧
  (∀ (s : State) (d : Fin 256) (h : Half) (v : Nat), up s (domPort d.val) →
    answers (.qpDomBeaconWrite d h v) s (fun t =>
      (getFunc t d.val).domBeacon =
        (if (getDomUnit s d.val).st = .off then mergeHalf (getFunc s d.val).domBeacon h v / 128 * 128
         else (getFunc s d.val).domBeacon) ∧
      (∀ e, e ≠ d.val → getFunc t e = getFunc s e) ∧ t.queues = s.queues)) ∧
  (∀ (s : State) (n : Fin 4) (h : Half) (v : Nat), portPresent s n.val = true → up s n.val →
    answers (.portBeaconWrite n h v) s (fun t =>
      let w := mergeHalf (beaconWord (getPort s n.val)) h v
      (getPort t n.val).beaconEn = nbit w 0 ∧ (getPort t n.val).beaconAddr = w / 64 * 64 ∧
      t = { s with ports := t.ports, outs := t.outs } ∧ ∀ m, m ≠ n.val → getPort t m = getPort s m))

/-- The poll loop: line, block and doorbell reads, sweeps, rechecks, failures and fetches. With the data-plane clock
running: PORT_LINE_READ with EN, an address and the link up issues the 64 B read of the beacon line. PORT_LINE_RESULT
of a current read sets SEEN_PORT of each served function to the line's byte, and of every function for a read that
only sets. DOMAIN_BLOCK_RESULT of a domain's first read sets all of SEEN_DOM; a later current one sets SEEN_DOM of
each ON queue. DOORBELL_RESULT of a read that still counts faults the queue with TAIL_RANGE, takes the new tail, or
counts a stale read, as check_doorbell gives. DOORBELL_RECHECK and QUEUE_SWEEP issue their reads. BEACON_READ_FAILURE
of a line leaves SEEN_PORT and counts, of a block gives SEEN_PORT[f] back its old value, and of a doorbell, the
sixteenth in a row, faults the queue with DB_READ. DESCRIPTOR_FETCH_RESULT of a current read adds the descriptors in
ring order to the queue or, of an admin queue, to the hand-off ring; of a failed read, each completes and counts in
DOM_FAILED where nothing stands before it, and otherwise waits its turn. COALESCE_TIMER of an unmasked vector clears
the pending count and sends the message. (06_queues_beacons.md) -/
def Obligations.PollingFollowsBeacons : Prop :=
  let served (s : State) (d : Nat) : Bool := domOn s d || adminServed s d
  (∀ (s : State) (n : Fin 4), dpRuns s = true → (getPort s n.val).linkUp = true → (getPort s n.val).beaconEn = true →
    (getPort s n.val).beaconAddr ≠ 0 → answers (.portLineRead n) s (fun t =>
      t.outs = s.outs ++ [.hostRead (64 * n.val) (getPort s n.val).beaconAddr 64] ∧
      (getPort t n.val).lineReads =
        (getPort s n.val).lineReads ++ [⟨(getPort s n.val).gen, (getPort s n.val).setsOnlyNext⟩] ∧
      t = { s with ports := t.ports, outs := t.outs })) ∧
  (∀ (s : State) (n : Fin 4) (line : Bytes) (rtt : Nat) (rest : List LineRead), dpRuns s = true →
    (getPort s n.val).lineReads = ⟨(getPort s n.val).gen, false⟩ :: rest →
    answers (.portLineResult n line rtt) s (fun t => (getPort t n.val).lineReads = rest ∧
      (∀ f, f < 64 → mget 0 (getPort t n.val).seenPort f = if served s (64 * n.val + f) then byteAt line f
        else mget 0 (getPort s n.val).seenPort f) ∧
      t = { s with ports := t.ports, engine := t.engine, outs := t.outs })) ∧
  (∀ (s : State) (n : Fin 4) (line : Bytes) (rtt : Nat) (rest : List LineRead), dpRuns s = true →
    (getPort s n.val).lineReads = ⟨(getPort s n.val).gen, true⟩ :: rest →
    answers (.portLineResult n line rtt) s (fun t => (getPort t n.val).lineReads = rest ∧
      (∀ f, f < 64 → mget 0 (getPort t n.val).seenPort f = byteAt line f))) ∧
  (∀ (s : State) (d : Fin 256) (blk : Bytes) (rtt : Nat) (r : BlockRead) (rest : List BlockRead), dpRuns s = true →
    s.engine.blockReads = r :: rest → r.dom = d.val → r.initial = true →
    answers (.domainBlockResult d blk rtt) s (fun t => t.engine.blockReads = rest ∧
      (∀ q, q < 64 → mget 0 (getFunc t d.val).seenDom q = byteAt blk q) ∧
      t = { s with funcs := t.funcs, ports := t.ports, engine := t.engine })) ∧
  (∀ (s : State) (d : Fin 256) (blk : Bytes) (rtt : Nat) (r : BlockRead) (rest : List BlockRead), dpRuns s = true →
    s.engine.blockReads = r :: rest → r.dom = d.val → r.initial = false → r.gen = (getPort s (domPort d.val)).gen →
    served s d.val = true →
    answers (.domainBlockResult d blk rtt) s (fun t => t.engine.blockReads = rest ∧
      (∀ q, q < 64 → mget 0 (getFunc t d.val).seenDom q =
        if queueOn s d.val q then byteAt blk q else mget 0 (getFunc s d.val).seenDom q))) ∧
  (∀ (s : State) (d : Fin 256) (q : Fin 65) (rcd : Bytes) (rtt : Nat) (r : DbRead) (rest : List DbRead),
    dpRuns s = true → s.engine.dbReads = r :: rest → r.dom = d.val → r.q = q.val → dbStale s r = false →
    2 ^ (getQueue s d.val q.val).sqLog2 ≤ leAt rcd 0 2 → (getQueueUnit s d.val q.val).st ≠ .faulted →
      answers (.doorbellResult d q rcd rtt) s (fun t =>
        (getQueueUnit t d.val q.val).st = .faulted ∧ (getQueueUnit t d.val q.val).cause = 3)) ∧
  (∀ (s : State) (d : Fin 256) (q : Fin 65) (rcd : Bytes) (rtt : Nat) (r : DbRead) (rest : List DbRead),
    dpRuns s = true → s.engine.dbReads = r :: rest → r.dom = d.val → r.q = q.val → dbStale s r = false →
    leAt rcd 0 2 < 2 ^ (getQueue s d.val q.val).sqLog2 → leAt rcd 0 2 ≠ (getQueue s d.val q.val).fetchPtr →
      answers (.doorbellResult d q rcd rtt) s (fun t => (getQueue t d.val q.val).sqTail = leAt rcd 0 2 ∧
        (getQueue t d.val q.val).rechecks = 0 ∧ (getQueue t d.val q.val).seenSeq = byteAt rcd 2 ∧ t.units = s.units)) ∧
  (∀ (s : State) (d : Fin 256) (q : Fin 65) (rcd : Bytes) (rtt : Nat) (r : DbRead) (rest : List DbRead),
    dpRuns s = true → s.engine.dbReads = r :: rest → r.dom = d.val → r.q = q.val → dbStale s r = false →
    leAt rcd 0 2 < 2 ^ (getQueue s d.val q.val).sqLog2 → leAt rcd 0 2 = (getQueue s d.val q.val).fetchPtr →
    byteAt rcd 2 = (getQueue s d.val q.val).seenSeq → (getQueue s d.val q.val).rechecks < 4 →
      answers (.doorbellResult d q rcd rtt) s (fun t =>
        (getQueue t d.val q.val).rechecks = (getQueue s d.val q.val).rechecks + 1 ∧
        (getQueue t d.val q.val).stale = min 255 ((getQueue s d.val q.val).stale + 1) ∧
        (getQueue t d.val q.val).recheckDue = true)) ∧
  (∀ (s : State) (d : Fin 256) (q : Fin 65), dpRuns s = true → portUp s (domPort d.val) = true →
    (getQueue s d.val q.val).recheckDue = true → polled s d.val q.val = true →
    answers (.doorbellRecheck d q) s (fun t => (getQueue t d.val q.val).recheckDue = false ∧
      t.engine.dbReads = s.engine.dbReads ++ [⟨d.val, q.val, .recheck⟩] ∧
      t = { s with queues := t.queues, engine := t.engine, outs := t.outs })) ∧
  (∀ (s : State) (n : Fin 4), dpRuns s = true → portUp s n.val = true → answers (.queueSweep n) s (fun t =>
    t.engine.dbReads = s.engine.dbReads ++ (polledQueues s n.val).map (fun p => ⟨p.1, p.2, .sweep⟩) ∧
    t = { s with engine := t.engine, outs := t.outs })) ∧
  (∀ (s : State) (n : Fin 4) (r : LineRead) (rest : List LineRead), dpRuns s = true →
    (getPort s n.val).lineReads = r :: rest →
    answers (.beaconReadFailure (.line n)) s (fun t => (getPort t n.val).lineReads = rest ∧
      (getPort t n.val).seenPort = (getPort s n.val).seenPort ∧
      (getPort t n.val).readErr = min 65535 ((getPort s n.val).readErr + 1) ∧
      nbit (getPort t n.val).events 6 = true)) ∧
  (∀ (s : State) (d : Fin 256) (r : BlockRead) (rest : List BlockRead), dpRuns s = true →
    s.engine.blockReads = r :: rest → r.dom = d.val → r.initial = false → r.gen = (getPort s (domPort d.val)).gen →
    answers (.beaconReadFailure (.block d)) s (fun t => t.engine.blockReads = rest ∧
      mget 0 (getPort t (domPort d.val)).seenPort (domFn d.val) = r.oldSeen)) ∧
  (∀ (s : State) (d : Fin 256) (q : Fin 65) (r : DbRead) (rest : List DbRead), dpRuns s = true →
    s.engine.dbReads = r :: rest → r.dom = d.val → r.q = q.val → dbStale s r = false →
    (getQueue s d.val q.val).dbFails = 15 → (getQueueUnit s d.val q.val).st ≠ .faulted →
    answers (.beaconReadFailure (.doorbell d q)) s (fun t =>
      (getQueueUnit t d.val q.val).st = .faulted ∧ (getQueueUnit t d.val q.val).cause = 4)) ∧
  (∀ (s : State) (d : Fin 256) (q : Fin 65) (b : Bytes) (rtt : Nat) (f : Fetch) (rest : List Fetch), dpRuns s = true →
    s.engine.fetches = f :: rest → f.dom = d.val → f.q = q.val → f.stale = false →
    answers (.descriptorFetchResult d q (some b) rtt) s (fun t =>
      let l := (List.range f.count).map fun i =>
        ((f.start + i) % 2 ^ (getQueue s d.val q.val).sqLog2, slice b (64 * i) 64)
      rest <+: t.engine.fetches ∧ t.ops = s.ops ∧ t.moor = s.moor ∧ t.units = s.units ∧
      if q.val = 64 then t.engine.handoff = s.engine.handoff ++ l.map fun p => { dom := d.val, idx := p.1, desc := p.2 }
      else (getQueue t d.val q.val).fetched =
        (getQueue s d.val q.val).fetched ++ l.map fun p => { idx := p.1, desc := p.2 })) ∧
  (∀ (s : State) (d : Fin 256) (q : Fin 65) (rtt : Nat) (f : Fetch) (rest : List Fetch), dpRuns s = true →
    s.engine.fetches = f :: rest → f.dom = d.val → f.q = q.val → f.stale = false → q.val ≠ 64 → 0 < f.count →
    (∀ x ∈ (getQueue s d.val q.val).fetched, x.failed = false) →
    answers (.descriptorFetchResult d q none rtt) s (fun t => rest <+: t.engine.fetches ∧ t.ops = s.ops ∧
      t.moor = s.moor ∧
      if (getQueue s d.val q.val).fetched = [] then
        (getQueue t d.val q.val).fetched = [] ∧ (getDom t d.val).failed = ((getDom s d.val).failed + f.count) % 2 ^ 48
      else (getQueue t d.val q.val).fetched.length = (getQueue s d.val q.val).fetched.length + f.count ∧
        (getDom t d.val).failed = (getDom s d.val).failed)) ∧
  (∀ (s : State) (d : Fin 256) (q : Fin 64), dpRuns s = true → (getQueue s d.val q.val).timerOn = true →
    (getQueue s d.val q.val).irqEn = true → (getPort s (domPort d.val)).linkUp = true →
    (getFunc s d.val).msixEn = true → (getFunc s d.val).fnMask = false →
    nbit (getFunc s d.val).unmasked (1 + q.val) = true →
    answers (.coalesceTimer d q) s (fun t => t.outs = s.outs ++ [msixOut s d.val (1 + q.val)] ∧
      getQueue t d.val q.val = { getQueue s d.val q.val with irqPending := 0, timerOn := false } ∧
      t = { s with queues := t.queues, outs := t.outs }))

/-- The head descriptor is rejected, held, refused or admitted; fills and parameter blocks return. With the data-plane
clock running, of an ON queue of an ON domain that no FENCE or fill blocks, and no later descriptor's read failed:
DESCRIPTOR_ADMISSION rejects a head that fails R190 with the check's number and no tag, and holds one that R107 does
not admit. With a tag free and the named keys imaged, it ends an admitted descriptor that names no mooring with its
early status; otherwise a FENCE runs and marks the earlier operations of its queue where ABORT_PRIOR is set; a CIPHER
whose key passes reads its parameter block; a SEAL on a cached mooring that passes R204 takes counter, salt and key
area, advances CTR and waits for a lane; on one not cached it starts its fill, or waits at the head while no fill can
start. MOORING_CACHE_FILL with the DRAM running and no operation waiting caches the mooring, keeps every record where
no line failed and poisons an active one where a line other than 0 failed; where no line failed, a waiting SEAL goes
on. PARAMETER_BLOCK_RESULT ends an operation whose header disagrees with BAD_PARAMETER and DETAIL 2, and makes a
CIPHER with a right block ready. (05_domains.md, 07_descriptors.md, 08_moorings.md) -/
def Obligations.AdmissionFollowsItsRules : Prop :=
  let head (s : State) (d q : Nat) (f : Fetched) (rest : List Fetched) : Prop :=
    dpRuns s = true ∧ queueOn s d q = true ∧ domOn s d = true ∧ queueBlocked s d q = false ∧
    (getQueue s d q).fetched = f :: rest ∧ ∀ x ∈ f :: rest, x.failed = false
  let free (s : State) (d : Nat) (f : Fetched) (tag : Nat) : Prop :=
    formatCheck f.desc = 0 ∧ mayAdmit s d = true ∧ pickTag s = some tag ∧ keyNotImaged s f.desc = false
  let from_ (s : State) (d q : Nat) (f : Fetched) (tag : Nat) (o : Op) : Prop :=
    o.tag = tag ∧ o.dom = d ∧ o.q = q ∧ o.idx = f.idx ∧ o.desc = f.desc ∧ o.bank = s.policy.active ∧
    o.epoch = s.policy.epoch ∧ o.seqNo = s.opSeq
  let ref (f : Fetched) : Nat := dRef f.desc % 2 ^ 22
  let o0 (d q : Nat) (f : Fetched) : Op := {
    tag := 0, dom := d, q := q, idx := f.idx, desc := f.desc, bank := 0, epoch := 0, seqNo := 0 }
  let sealGoes (s : State) (d q : Nat) (f : Fetched) (tag : Nat) : Prop :=
    free s d f tag ∧ dOpcode f.desc = 1 ∧ earlyStatus s s.policy.active d f.desc = none ∧
    heldByRekey s f.desc = false ∧ ref f < mooringCount s.part ∧ stageCheck s (o0 d q f) (dRef f.desc) 0 = none ∧
    (getMoor s (ref f)).alg < 16
  (∀ (s : State) (d : Fin 256) (q : Fin 64) (f : Fetched) (rest : List Fetched), head s d.val q.val f rest →
    formatCheck f.desc ≠ 0 → portUp s (domPort d.val) = true →
    answers (.descriptorAdmission d q) s (fun t =>
      rejects s t d.val q.val f.idx stBadDescriptor (formatCheck f.desc) (dOpcode f.desc) ∧
      (getQueue t d.val q.val).fetched = rest ∧ (getDom t d.val).failed = ((getDom s d.val).failed + 1) % 2 ^ 48 ∧
      t.ops = s.ops ∧ t.moor = s.moor ∧ t.units = s.units)) ∧
  (∀ (s : State) (d : Fin 256) (q : Fin 64) (f : Fetched) (rest : List Fetched), head s d.val q.val f rest →
    formatCheck f.desc = 0 → mayAdmit s d.val = false →
    answers (.descriptorAdmission d q) s (fun t => (getQueue t d.val q.val).fetched = f :: rest ∧
      t = { s with queues := t.queues, engine := t.engine, outs := t.outs })) ∧
  (∀ (s : State) (d : Fin 256) (q : Fin 64) (f : Fetched) (rest : List Fetched) (tag st : Nat),
    head s d.val q.val f rest → free s d.val f tag → refIsHandle f.desc = false →
    earlyStatus s s.policy.active d.val f.desc = some st → portUp s (domPort d.val) = true →
    answers (.descriptorAdmission d q) s (fun t =>
      let x := getQueue s d.val q.val
      Out.completion d.val q.val (x.cqBase + 32 * x.cqTail) (completionEntry f.idx (tag % 4096) st 0 (dOpcode f.desc)
        (engineByte none) 0 0 [] (b2n x.phase)) ∈ t.outs ∧
      findOp t tag = none ∧ (getQueue t d.val q.val).fetched = rest)) ∧
  (∀ (s : State) (d : Fin 256) (q : Fin 64) (f : Fetched) (rest : List Fetched) (tag : Nat),
    head s d.val q.val f rest → free s d.val f tag → dOpcode f.desc = 0x31 →
    answers (.descriptorAdmission d q) s (fun t =>
      (∃ o, findOp t tag = some o ∧ from_ s d.val q.val f tag o ∧ o.stage = .running) ∧
      (∀ p ∈ s.ops, (if nbit (dFlags f.desc) 2 = true ∧ p.dom = d.val ∧ p.q = q.val ∧ p.seqNo < s.opSeq ∧ p.stage ≠ .held
        then { p with marked := true } else p) ∈ t.ops) ∧
      t.opSeq = s.opSeq + 1 ∧ t.moor = s.moor ∧ t.units = s.units)) ∧
  (∀ (s : State) (d : Fin 256) (q : Fin 64) (f : Fetched) (rest : List Fetched) (tag : Nat),
    head s d.val q.val f rest → free s d.val f tag → dOpcode f.desc = 4 →
    earlyStatus s s.policy.active d.val f.desc = none → keyResolve s d.val (dRef f.desc) = none →
    keyPolicy s f.desc = none →
    answers (.descriptorAdmission d q) s (fun t =>
      (∃ o, findOp t tag = some o ∧ from_ s d.val q.val f tag o ∧ o.stage = .waitPb ∧
        o.key1 = (getKey s (refSlot (dRef f.desc))).img) ∧
      Out.hostRead d.val (dPbAddr f.desc) (dPbLen f.desc) ∈ t.outs ∧ (∀ p ∈ s.ops, p ∈ t.ops) ∧ t.moor = s.moor)) ∧
  (∀ (s : State) (d : Fin 256) (q : Fin 64) (f : Fetched) (rest : List Fetched) (tag : Nat),
    head s d.val q.val f rest → sealGoes s d.val q.val f tag → cached s (ref f) = true →
    answers (.descriptorAdmission d q) s (fun t =>
      let m := getMoor s (ref f)
      (∃ o, findOp t tag = some o ∧ from_ s d.val q.val f tag o ∧ o.stage = .ready ∧ o.ctr = some m.ctr ∧
        o.salt = m.salt ∧ o.area = m.keySel ∧ o.rekeyDue = decide (m.rekeyAt ≤ m.ctr) ∧
        o.result = nonceOf m.salt m.ctr) ∧
      getMoor t (ref f) = { m with ctr := m.ctr + 1 } ∧ (∀ i, i ≠ ref f → getMoor t i = getMoor s i) ∧
      t.moor.hits = (s.moor.hits + 1) % 2 ^ 48 ∧ d.val ∈ t.arb.lane ∧ ∀ p ∈ s.ops, p ∈ t.ops)) ∧
  (∀ (s : State) (d : Fin 256) (q : Fin 64) (f : Fetched) (rest : List Fetched) (tag : Nat),
    head s d.val q.val f rest → sealGoes s d.val q.val f tag → cached s (ref f) = false → fillCan s (ref f) = true →
      answers (.descriptorAdmission d q) s (fun t =>
        (∃ o, findOp t tag = some o ∧ from_ s d.val q.val f tag o ∧ o.stage = .waitFill 0 ∧ o.ctr = none) ∧
        ref f ∈ t.moor.fills ∧ t.moor.slots = s.moor.slots ∧ t.moor.misses = (s.moor.misses + 1) % 2 ^ 48)) ∧
  (∀ (s : State) (d : Fin 256) (q : Fin 64) (f : Fetched) (rest : List Fetched) (tag : Nat),
    head s d.val q.val f rest → sealGoes s d.val q.val f tag → cached s (ref f) = false → fillCan s (ref f) = false →
      answers (.descriptorAdmission d q) s (fun t => t.ops = s.ops ∧ t.moor.slots = s.moor.slots ∧
        (getQueue t d.val q.val).fetched.map Fetched.desc = f.desc :: rest.map Fetched.desc)) ∧
  (∀ (s : State) (i : Fin 4194304) (l : List LineRes), dramRuns s = true → s.moor.fills.contains i.val = true →
    (s.ops.all fun o => match o.stage with | .waitFill _ => false | _ => true) = true →
    answers (.mooringCacheFill i l) s (fun t =>
      t.moor.fills = s.moor.fills.filter (fun x => x != i.val) ∧ cached t i.val = true ∧ t.ops = s.ops ∧
      (badLines l = [] → t.moor.slots = s.moor.slots) ∧
      ((badLines l).any (fun p => p.1 == 0) = false → badLines l ≠ [] → (getMoor s i.val).state = .active →
        (getMoor t i.val).state = .poisoned ∧ (getMoor t i.val).shareA0 = [] ∧ (getMoor t i.val).shareB0 = [] ∧
        (getMoor t i.val).shareA1 = [] ∧ (getMoor t i.val).shareB1 = [] ∧ pended 5 s t ∧
        ∀ j, j ≠ i.val → getMoor t j = getMoor s j))) ∧
  (∀ (s : State) (i : Fin 4194304) (l : List LineRes) (o : Op), dramRuns s = true →
    s.moor.fills.contains i.val = true → badLines l = [] →
    s.ops = [o] → o.stage = .waitFill 0 → dOpcode o.desc = 1 → dRef o.desc % 2 ^ 22 = i.val → dPbLen o.desc = 0 →
    stageCheck s o (dRef o.desc) 0 = none → (getMoor s i.val).alg < 16 →
    answers (.mooringCacheFill i l) s (fun t =>
      ∃ p, findOp t o.tag = some p ∧ t.ops = [p] ∧ p.stage = .ready ∧ p.ctr = some (getMoor s i.val).ctr ∧
        (getMoor t i.val).ctr = (getMoor s i.val).ctr + 1)) ∧
  (∀ (s : State) (tag : Fin 4096) (o : Op) (pb : Bytes) (rtt : Nat), dpRuns s = true → findOp s tag.val = some o →
    o.stage = .waitPb → pbHeaderOk (dOpcode o.desc) (dPbLen o.desc) (slice pb 0 (dPbLen o.desc)) = false → plain o →
    heldByOrder s o = false → answers (.parameterBlockResult tag pb rtt) s (fun t =>
        opEnds s t o stBadParameter 2 o.result (0, 0) 0)) ∧
  (∀ (s : State) (tag : Fin 4096) (o : Op) (pb : Bytes) (rtt : Nat), dpRuns s = true → findOp s tag.val = some o →
    o.stage = .waitPb → pbHeaderOk (dOpcode o.desc) (dPbLen o.desc) (slice pb 0 (dPbLen o.desc)) = true →
    dOpcode o.desc = 4 → cipherBad o.desc (slice pb 0 (dPbLen o.desc)) = 0 →
    cipherNeed o.desc (slice pb 0 (dPbLen o.desc)) ≤ dOutLen o.desc →
      answers (.parameterBlockResult tag pb rtt) s (fun t =>
        findOp t tag.val = some { o with pb := slice pb 0 (dPbLen o.desc), stage := .ready } ∧ o.dom ∈ t.arb.lane ∧
        t.moor = s.moor))

/-- MOOR, REKEY, UNMOOR, MOOR_QUERY, sweeps and FENCE. With the data-plane clock running: MOOR, with a slot free, room
under MOOR_ALLOW and the random source ON, takes the head of the free list and completes with its handle, the slot
holding the new key as two shares, its body's policy, CTR 0 and the window clear; REKEY puts the new key into the
other area, selects it and clears CTR and window; a key that does not unwrap, or a REKEY to the current key, gives
BAD_PARAMETER with DETAIL 3 and changes no key, counter or selection. UNMOOR drains; UNMOOR_RELEASE of a slot that is
ready, and if once poisoned reads back, zeroes it and frees it at the tail of the free list with its generation, or
retires it at generation 1,023, and completes its UNMOOR where that is still in flight. MOOR_QUERY writes the record
of its admission; a finished query that an earlier operation of a pinned mooring precedes is held for order. The sweep
frees the domain's RETIRED slots that no operation names and counts them. FENCE drains; with ABORT_PRIOR each
operation it ends takes ABORTED with DETAIL 1, and their number is its result; FENCE_COMPLETE completes it once
nothing earlier of its queue pair is in flight. (07_descriptors.md, 08_moorings.md) -/
def Obligations.MooringCommandsActOnTheirSlot : Prop :=
  let runs (s : State) (tag : Fin 4096) (op : Nat) (o : Op) : Prop :=
    dpRuns s = true ∧ findOp s tag.val = some o ∧ o.stage = .running ∧ dOpcode o.desc = op
  let idx (o : Op) : Nat := dRef o.desc % 2 ^ 22
  let released (s t : State) (i : Nat) : Prop :=
    let m := getMoor s i
    (∀ j, j ≠ i → getMoor t j = getMoor s j) ∧ t.units = s.units ∧
    if m.gen < 1023 then getMoor t i = { state := .free, gen := m.gen } ∧ t.moor.freed = s.moor.freed ++ [i]
    else getMoor t i = { state := .retired, gen := m.gen, owner := m.owner } ∧ t.moor.freed = s.moor.freed
  (∀ (s : State) (tag : Fin 4096) (o : Op) (i : Nat) (s1 : State), runs s tag 0x10 o → plain o → o.moored = false →
    noneHeld s = true → rngOn s = true → moorHeld s o.dom < moorAllow s o.dom → takeFree s = some (i, s1) →
    answers (.opMoor tag) s (fun t =>
      let b := pbBody o.pb
      let m := getMoor t i
      if newKey o = none then opEnds s t o stBadParameter 3 [] (0, 0) 0 ∧ t.moor = s.moor
      else
        opEnds s t o stOK 0 (le 4 (handleOf i (getMoor s i).gen)) (0, 0) 0 ∧
        t.moor = { s1.moor with slots := t.moor.slots } ∧
        m.state = .active ∧ m.owner = o.dom ∧ m.alg = mAlg b ∧ m.dir = mDir b ∧ m.tagLen = mTagLen b ∧
        m.gen = (getMoor s i).gen ∧ m.ctr = 0 ∧ m.keySel = 0 ∧ m.winValid = false ∧ m.window = 0 ∧ m.sealed_ = 0 ∧
        m.mflags = mFlags b ∧ (nbit (mFlags b) 0 = false → m.salt = mSalt b) ∧ m.rekeyAt = rekeyAtOf b ∧
        newKey o = some (keyOf m 0) ∧ (∀ j, j ≠ i → getMoor t j = getMoor s j) ∧
        t.rng = (useDrbg 36 s).rng ∧ t.units = s.units ∧ t.keys = s.keys)) ∧
  (∀ (s : State) (tag : Fin 4096) (o : Op), runs s tag 0x11 o → plain o → noneHeld s = true → heldByOrder s o = false →
    rngOn s = true →
    answers (.opRekey tag) s (fun t =>
      let m := getMoor s (idx o)
      let m' := getMoor t (idx o)
      let b := pbBody o.pb
      (∀ j, j ≠ idx o → getMoor t j = getMoor s j) ∧ m'.owner = m.owner ∧ m'.gen = m.gen ∧ m'.alg = m.alg ∧
      m'.pinValid = m.pinValid ∧ m'.pinQ = m.pinQ ∧ m'.state = m.state ∧
      if newKey o = none ∨ newKey o = some (keyOf m m.keySel) then
        opEnds s t o stBadParameter 3 [] (0, 0) 0 ∧ m'.keySel = m.keySel ∧ m'.ctr = m.ctr ∧ m'.salt = m.salt ∧
        m'.window = m.window ∧ m'.winValid = m.winValid ∧ keyOf m' m'.keySel = keyOf m m.keySel
      else
        opEnds s t o stOK 0 (le 4 (dRef o.desc)) (0, 0) 0 ∧ m'.keySel = 1 - m.keySel ∧ m'.ctr = 0 ∧
        m'.winValid = false ∧ m'.window = 0 ∧ (nbit (mFlags b) 0 = false → m'.salt = mSalt b) ∧
        m'.rekeyAt = rekeyAtOf b ∧ m'.rekeyCount = (m.rekeyCount + 1) % 2 ^ 32 ∧ m'.rekeyTime = rtcStamp s ∧
        newKey o = some (keyOf m' m'.keySel))) ∧
  (∀ (s : State) (tag : Fin 4096) (o : Op), runs s tag 0x12 o → answers (.opUnmoor tag) s (fun t =>
    findOp t tag.val = some { o with stage := .draining } ∧ t = { s with ops := t.ops })) ∧
  (∀ (s : State) (i : Fin 4194304) (ok : Bool) (o : Op), dpRuns s = true → releaseReady s i.val = true →
    unmoorOp s i.val = some o → plain o → noneHeld s = true → ((getMoor s i.val).wasPoisoned = false ∨ ok = true) →
    answers (.unmoorRelease i ok) s (fun t => opEnds s t o stOK 0 [] (0, 0) 0 ∧ released s t i.val)) ∧
  (∀ (s : State) (i : Fin 4194304) (ok : Bool), dpRuns s = true → releaseReady s i.val = true →
    unmoorOp s i.val = none → ((getMoor s i.val).wasPoisoned = false ∨ ok = true) →
    answers (.unmoorRelease i ok) s (fun t => t.ops = s.ops ∧ released s t i.val)) ∧
  (∀ (s : State) (tag : Fin 4096) (o : Op), runs s tag 0x13 o → dAlg o.desc = 0 → o.out ≠ [] → o.dup = false →
    answers (.opMoorQuery tag) s (fun t => dataWrite s o.dom (dOutAddr o.desc) o.out ∈ t.outs ∧
      if heldByOrder s o = true ∧ o.lost = false then ∃ p, findOp t tag.val = some p ∧ p.stage = .held ∧ p.status = stOK
      else opEnds s t o stOK 0 [] (o.out.length, o.aux.length) 2)) ∧
  (∀ (s : State) (tag : Fin 4096) (o : Op), runs s tag 0x13 o → dAlg o.desc = 1 → plain o → o.moored = false →
    noneHeld s = true →
    answers (.moorQuerySweep tag) s (fun t =>
      opEnds s t o stOK 0 (le 4 (sweepable s o.dom).length) (0, 0) 0 ∧
      (∀ i, getMoor t i = if i ∈ sweepable s o.dom then {} else getMoor s i) ∧
      t.moor.freed = s.moor.freed ++ sweepable s o.dom ∧ t.units = s.units)) ∧
  (∀ (s : State) (tag : Fin 4096) (o : Op), runs s tag 0x31 o → nbit (dFlags o.desc) 2 = false →
    answers (.opFence tag) s (fun t =>
      findOp t tag.val = some { o with stage := .draining } ∧ t = { s with ops := t.ops })) ∧
  (∀ (s : State) (tag : Fin 4096) (o : Op), runs s tag 0x31 o → (s.ops.map Op.tag).Nodup →
    nbit (dFlags o.desc) 2 = true →
    answers (.opFence tag) s (fun t =>
      findOp t tag.val =
          some { o with stage := .draining, result := le 2 (s.ops.filter (fenceEnds o)).length } ∧
        (∀ p ∈ s.ops, fenceEnds o p = true →
          ((findOp t p.tag).all fun p' => p'.status == stAborted && p'.detail == 1) = true) ∧
        t.units = s.units ∧ t.keys = s.keys)) ∧
  (∀ (s : State) (tag : Fin 4096) (o : Op), dpRuns s = true → findOp s tag.val = some o → o.stage = .draining →
    dOpcode o.desc = 0x31 →
    (s.ops.any fun p => p.dom == o.dom && p.q == o.q && decide (p.seqNo < o.seqNo)) = false → plain o →
    answers (.fenceComplete tag) s (fun t => opEnds s t o stOK 0 o.result (0, 0) 0 ∧ t.units = s.units))

/-- What a pass of SEAL, OPEN, RESEAL, CIPHER and PIN_TRANSLATE computes and writes. A running pass on a lane, the data-
plane clock running. Where a full reseed falls due within its blocks and no full seed is held, the pass stays running,
starved, with the blocks done counted. Otherwise all its blocks are counted, and: SEAL writes the ciphertext and tag
of its mooring's algorithm under the lane's key and the salt and counter of its admission. OPEN decrypts and compares
the tag; it writes the plaintext at once without VERIFY_FIRST, and fills the release buffer with it. RESEAL decrypts
into the release buffer in pass 1 and writes the new ciphertext and tag in pass 2. CIPHER writes the mode's output,
and only fills the buffer on GCM or CCM decryption. PIN_TRANSLATE writes a block only where the recovered field passes
its check. Nothing else changes but the generators, counters and random bytes that the pass uses. (09_cipher_lanes.md,
08_moorings.md) -/
def Obligations.LaneOpcodesCompute : Prop :=
  let pass (s : State) (o : Op) (n : Nat) : Nat × State := runBlocks n (aesRounds o.laneKey.a.length)
    (passBlocks s o / 2 ^ 20 + 2) (passBlocks s o - o.blocksDone) s
  let runs (s : State) (tag : Fin 4096) (op : Nat) (o : Op) (n : Nat) : Prop :=
    dpRuns s = true ∧ findOp s tag.val = some o ∧ o.stage = .running ∧ dOpcode o.desc = op ∧ laneOf o = some n
  let starves (s t : State) (o : Op) (n : Nat) : Prop :=
    (∃ p, findOp t o.tag = some p ∧ p = { o with
      starved := true, blocksDone := passBlocks s o - (pass s o n).1, outWritten := p.outWritten }) ∧
    t = { (pass s o n).2 with ops := t.ops }
  let wrote (s t : State) (o : Op) (out : Bytes) (ok : Bool) : Prop :=
    (∃ p, findOp t o.tag = some p ∧ p = { o with
      stage := .computed, compareOk := ok, outWritten := !out.isEmpty, written := out.length, blocksDone := 0
      starved := false, buf := p.buf }) ∧
    t.outs = s.outs ++ (if out.isEmpty then [] else [dataWrite s o.dom (dOutAddr o.desc) out])
  let buffered (s t : State) (o : Op) (out : Bytes) (ok : Bool) : Prop :=
    (∃ p, findOp t o.tag = some p ∧ p = { o with
      stage := .computed, compareOk := ok, blocksDone := 0, starved := false, buf := p.buf } ∧ p.buf.value = out) ∧
    t.outs = s.outs
  let does (s t : State) (o : Op) (n : Nat) (p : Prop) : Prop :=
    ((pass s o n).1 ≠ 0 ∧ starves s t o n) ∨
    ((pass s o n).1 = 0 ∧ p ∧ t = { (pass s o n).2 with ops := t.ops, outs := t.outs })
  let ccm (m : Mooring) : Bool := decide (16 ≤ m.alg)
  let seals (ccm : Bool) (n : Nat) (k iv aad pt : Bytes) : Bytes :=
    if ccm then ccmCtr k iv pt ++ ccmTag n k iv aad pt else gcmCtr k iv pt ++ gcmTag n k iv aad (gcmCtr k iv pt)
  let plainOf (ccm : Bool) (k iv ct : Bytes) : Bytes := if ccm then ccmCtr k iv ct else gcmCtr k iv ct
  let tagOk (ccm : Bool) (n : Nat) (k iv aad body : Bytes) : Bool :=
    let ct := body.take (body.length - n)
    (if ccm then ccmTag n k iv aad (ccmCtr k iv ct) else gcmTag n k iv aad ct) == body.drop (body.length - n)
  let aad (o : Op) : Bytes := o.input.take (dSplit o.desc)
  let body (o : Op) : Bytes := o.input.drop (dSplit o.desc)
  let ct (n : Nat) (o : Op) : Bytes := (body o).take ((body o).length - n)
  let iv (o : Op) : Bytes := le 4 o.salt ++ be 8 (o.ctr.getD 0)
  let ivIn (o : Op) : Bytes := slice o.auxIn 0 12
  (∀ (s : State) (tag : Fin 4096) (o : Op) (n : Nat), runs s tag 1 o n → answers (.opSeal tag) s (fun t =>
    let m := getMoor s (dRef o.desc % 2 ^ 22)
    does s t o n (wrote s t o (seals (ccm m) m.tagLen o.laneKey.value (iv o) (aad o) (body o)) true))) ∧
  (∀ (s : State) (tag : Fin 4096) (o : Op) (n : Nat), runs s tag 2 o n → answers (.opOpen tag) s (fun t =>
    let m := getMoor s (dRef o.desc % 2 ^ 22)
    let k := o.laneKey.value
    let pt := plainOf (ccm m) k (ivIn o) (ct m.tagLen o)
    let ok := tagOk (ccm m) m.tagLen k (ivIn o) (aad o) (body o)
    does s t o n (if nbit (dFlags o.desc) 0 = true then buffered s t o pt ok else wrote s t o pt ok))) ∧
  (∀ (s : State) (tag : Fin 4096) (o : Op) (n : Nat), runs s tag 3 o n → answers (.opReseal tag) s (fun t =>
    let m := getMoor s (dRef o.desc % 2 ^ 22)
    let m2 := getMoor s (dRef2 o.desc % 2 ^ 22)
    let k := o.laneKey.value
    does s t o n (if o.pass = 1 then buffered s t o (plainOf (ccm m) k (ivIn o) (ct m.tagLen o))
        (tagOk (ccm m) m.tagLen k (ivIn o) (aad o) (body o))
      else wrote s t o (seals (ccm m2) m2.tagLen k (iv o) (aad o) o.buf.value) true))) ∧
  (∀ (s : State) (tag : Fin 4096) (o : Op) (n : Nat), runs s tag 4 o n → answers (.opCipher tag) s (fun t =>
    let m := dAlg o.desc % 16
    let b := o.pb.drop 8
    let k := o.laneKey.value
    let l := byteAt b 1
    let v := slice b 8 (byteAt b 0)
    does s t o n (if m = 2 ∨ m = 4 then
      if 128 ≤ dAlg o.desc then buffered s t o (plainOf (m == 2) k v (ct l o)) (tagOk (m == 2) l k v (aad o) (body o))
      else wrote s t o (seals (m == 2) l k v (aad o) (body o)) true
    else wrote s t o (plainMode m (decide (128 ≤ dAlg o.desc)) k v (body o)) true))) ∧
  (∀ (s : State) (tag : Fin 4096) (o : Op) (n : Nat), runs s tag 8 o n → answers (.opPinTranslate tag) s (fun t =>
    let fi := dAlg o.desc % 16
    let fo := dAlg o.desc / 16
    let digits := byteAt (o.pb.drop 8) 0
    let pan := slice (o.pb.drop 8) 8 10
    let f := pinDecipher fi o.laneKey.value digits pan o.input
    if (pass s o n).1 ≠ 0 then starves s t o n
    else
      t = { s with ops := t.ops, outs := t.outs, lanes := t.lanes, legacy := t.legacy, rng := t.rng, free := t.free } ∧
      if pinFieldGood fi f = true then wrote s t o
        (pinEncipher fo o.key2.value digits pan (pinField fo f (pinFill o (pass s o n).2).1)) true
      else (∃ p, findOp t o.tag = some p ∧ p = { o with
          stage := .computed, compareOk := false, blocksDone := 0, starved := false, buf := p.buf }) ∧ t.outs = s.outs))

/-- Dispatch to lanes, arrival of input, the ends of passes, scrubs and reseeds. With the data-plane clock running:
LANE_DISPATCH gives the oldest message of the head domain, its deficit positive, to the lane the order names, charges
the domain and issues the input's read; where it starts at once, the lane holds the key re-masked. A translation that
needs the legacy unit goes by its own row, and ends with ABORTED and DETAIL 4 while that unit is not ON.
INPUT_READ_RESULT of an inbound message whose turn it is holds its counter, or ends it with the status of R206; of
another message it takes the input. LANE_PASS_COMPLETE ends a SEAL with OK or REKEY_REQUIRED, an unbuffered OPEN with
OK and its counter in the window, or with AUTH_FAIL and the window unchanged; a buffered message that matches is
written and released, and one that fails is overwritten and scrubbed first; a RESEAL goes on to pass 2. The end of a
release, and LANE_SCRUB_COMPLETE, write the entry. LANE_FULL_RESEED of a lane or the legacy unit replaces a
generator's state by its full seed, and LANE_SEED_TIMEOUT faults the unit with MASK_RESEED. (09_cipher_lanes.md,
05_domains.md, 08_moorings.md) -/
def Obligations.LanesCarryMessages : Prop :=
  let ends (s t : State) (o : Op) (st dt : Nat) : Prop :=
    opEnds s t o st dt o.result (if o.outWritten then (o.written, o.aux.length) else (0, 0))
      (shl (b2n o.outWritten) 1 + shl (b2n o.dup) 2)
  let next (s : State) (d : Nat) (rest : List Nat) (o : Op) (n : Nat) : Prop :=
    dpRuns s = true ∧ s.arb.lane = d :: rest ∧ 0 < (getDom s d).laneDef ∧ oldestLane s d = some o ∧ laneFor s o = some n
  let given (s t : State) (d : Nat) (o : Op) (n : Nat) : Prop :=
    (∃ p, findOp t o.tag = some p ∧ p.unit = some (laneId n) ∧ p.desc = o.desc ∧ p.ctr = o.ctr ∧
      (p.stage = .dispatched ∨ (p.stage = .running ∧ p.laneKey.value = (passKey s o).value))) ∧
    (getDom t d).laneDef = (if laneMore s o then (getDom s d).laneDef - laneCharge o.desc else 0) ∧
    (usesIn o.desc = true → dInLen o.desc ≠ 0 → Out.hostRead o.dom (dInAddr o.desc) (dInLen o.desc) ∈ t.outs) ∧
    t.moor = s.moor ∧ t.units = s.units
  let passes (s : State) (tag : Fin 4096) (op : Nat) (o : Op) (st : Stage) : Prop :=
    dpRuns s = true ∧ findOp s tag.val = some o ∧ (laneOf o).isSome = true ∧ o.stage = st ∧ dOpcode o.desc = op ∧
    heldByOrder s o = false ∧ noneHeld s = true
  let ref (o : Op) : Nat := dRef o.desc % 2 ^ 22
  let marked (s t : State) (o : Op) : Prop := ∀ c ∈ o.heldCtr, o.areaIn = (getMoor s (ref o)).keySel →
    let m' := getMoor t (ref o)
    m'.winValid = true ∧ c ≤ m'.ctr ∧ (m'.ctr - c < 1024 → nbit m'.window (m'.ctr - c) = true)
  let scrubs (s t : State) (o : Op) : Prop := t.moor = s.moor ∧ findOp t o.tag = some { overwritten s o with
    stage := .scrubbing, status := stAuthFail, detail := 0, heldCtr := none }
  let releases (s t : State) (o : Op) : Prop :=
    (∃ p, findOp t o.tag = some p ∧ p.stage = .releasing ∧ p.heldCtr = o.heldCtr ∧ p.written = o.buf.value.length) ∧
    (o.buf.value ≠ [] → dataWrite s o.dom (dOutAddr o.desc) o.buf.value ∈ t.outs) ∧ t.moor = s.moor
  (∀ (s : State) (d : Nat) (rest : List Nat) (o : Op) (n : Nat), next s d rest o n → needsLegacy o.desc = false →
    answers .laneDispatch s (fun t => given s t d o n)) ∧
  (∀ (s : State) (d : Nat) (rest : List Nat) (o : Op) (n : Nat), next s d rest o n → needsLegacy o.desc = true → plain o →
    answers .legacyUnitTranslation s (fun t =>
      if unitSt s .legacy = .on then given s t d o n else opEnds s t o stAborted 4 o.result (0, 0) 0)) ∧
  (∀ (s : State) (tag : Fin 4096) (o : Op) (input aux : Bytes) (rtt : Nat), dpRuns s = true →
    findOp s tag.val = some o → (dOpcode o.desc = 2 ∧ o.stage = .dispatched ∧ o.arrived = false ∧ o.reserved = false) ∨
      (dOpcode o.desc = 3 ∧ o.stage = .waitNonce) → (inboundPending o = true → inboundTurn s o = true) →
    inboundCheck s o (slice aux 0 12) ≠ none → plain o → heldByOrder s o = false →
      answers (.inputReadResult tag input aux rtt) s (fun t =>
        opEnds s t o ((inboundCheck s o (slice aux 0 12)).getD (0, 0)).1 ((inboundCheck s o (slice aux 0 12)).getD (0, 0)).2
          (if dOpcode o.desc = 2 then slice aux 0 12 else o.result) (0, 0) 0 ∧ t.units = s.units)) ∧
  (∀ (s : State) (tag : Fin 4096) (o : Op) (input aux : Bytes) (rtt : Nat), dpRuns s = true →
    findOp s tag.val = some o → dOpcode o.desc = 2 → o.stage = .dispatched → o.arrived = false → o.reserved = false →
    (inboundPending o = true → inboundTurn s o = true) → inboundCheck s o (slice aux 0 12) = none →
    (laneOf o).isSome = true →
      answers (.inputReadResult tag input aux rtt) s (fun t => ∃ p, findOp t tag.val = some p ∧
        p.heldCtr = some (unbe (slice aux 4 8)) ∧ p.input = slice input 0 (dInLen o.desc) ∧ p.arrived = true ∧
        p.result = slice aux 0 12 ∧ (p.stage = .dispatched ∨ p.stage = .running))) ∧
  (∀ (s : State) (tag : Fin 4096) (o : Op) (input aux : Bytes) (rtt : Nat), dpRuns s = true →
    findOp s tag.val = some o → dOpcode o.desc = 3 → o.stage = .waitNonce →
    (inboundPending o = true → inboundTurn s o = true) → inboundCheck s o (slice aux 0 12) = none →
      answers (.inputReadResult tag input aux rtt) s (fun t => ∃ p, findOp t tag.val = some p ∧
        p.heldCtr = some (unbe (slice aux 4 8)) ∧ p.stage = .ready ∧ o.dom ∈ t.arb.lane)) ∧
  (∀ (s : State) (tag : Fin 4096) (o : Op) (input aux : Bytes) (rtt : Nat), dpRuns s = true →
    findOp s tag.val = some o → dOpcode o.desc ≠ 2 → dOpcode o.desc ≠ 3 → usesIn o.desc = true → o.stage = .dispatched →
    o.arrived = false → o.reserved = false → (laneOf o).isSome = true →
      answers (.inputReadResult tag input aux rtt) s (fun t => ∃ p, findOp t tag.val = some p ∧
        p.input = slice input 0 (dInLen o.desc) ∧ p.arrived = true ∧ (p.stage = .dispatched ∨ p.stage = .running))) ∧
  (∀ (s : State) (tag : Fin 4096) (o : Op), passes s tag 1 o .computed → answers (.lanePassComplete tag) s (fun t =>
    ends s t o (if o.rekeyDue then stRekeyRequired else stOK) 0 ∧
    (o.moored = true → (getMoor t (ref o)).sealed_ = sat64 (getMoor s (ref o)).sealed_ 1 ∧
      (getMoor t (ref o)).ctr = (getMoor s (ref o)).ctr))) ∧
  (∀ (s : State) (tag : Fin 4096) (o : Op), passes s tag 2 o .computed → opBuffered o.desc = false →
    answers (.lanePassComplete tag) s (fun t =>
      if o.compareOk = true then ends s t o stOK 0 ∧ marked s t o
      else ends s t o stAuthFail 0 ∧ (getMoor t (ref o)).window = (getMoor s (ref o)).window ∧
        (getMoor t (ref o)).ctr = (getMoor s (ref o)).ctr ∧
        (getMoor t (ref o)).winValid = (getMoor s (ref o)).winValid)) ∧
  (∀ (s : State) (tag : Fin 4096) (o : Op) (op : Nat), passes s tag op o .computed → op = 2 ∨ op = 4 →
    opBuffered o.desc = true → answers (.lanePassComplete tag) s (fun t =>
      if o.compareOk = true then releases s t o else scrubs s t o)) ∧
  (∀ (s : State) (tag : Fin 4096) (o : Op) (op : Nat), passes s tag op o .releasing → op = 2 ∨ op = 4 →
    answers (.lanePassComplete tag) s (fun t => ends s t o stOK 0 ∧ (op = 2 → marked s t o))) ∧
  (∀ (s : State) (tag : Fin 4096) (o : Op), passes s tag 3 o .computed → o.pass = 1 →
    answers (.lanePassComplete tag) s (fun t =>
      if o.compareOk = true then t.moor = s.moor ∧ (∃ p, findOp t tag.val = some p ∧ p.pass = 2 ∧ p.heldCtr = o.heldCtr ∧
          p.buf = o.buf) ∧
        (dSplit o.desc ≠ 0 → Out.hostRead o.dom (dInAddr o.desc) (dSplit o.desc) ∈ t.outs)
      else scrubs s t o)) ∧
  (∀ (s : State) (tag : Fin 4096) (o : Op), passes s tag 3 o .computed → o.pass = 2 →
    answers (.lanePassComplete tag) s (fun t =>
      ends s t o (if o.rekeyDue then stRekeyRequired else stOK) 0 ∧ marked s t o)) ∧
  (∀ (s : State) (tag : Fin 4096) (o : Op), passes s tag 4 o .computed → opBuffered o.desc = false →
    answers (.lanePassComplete tag) s (fun t => ends s t o stOK 0)) ∧
  (∀ (s : State) (tag : Fin 4096) (o : Op), passes s tag 8 o .computed →
    answers (.lanePassComplete tag) s (fun t =>
      if o.compareOk = true then ends s t o stOK 0 else ends s t o stBadParameter 3)) ∧
  (∀ (s : State) (tag : Fin 4096) (o : Op) (op : Nat), passes s tag op o .scrubbing →
    ¬(o.status = stBadParameter ∧ o.detail = 1) →
    answers (.laneScrubComplete tag) s (fun t => ends s t o o.status o.detail ∧ t.units = s.units)) ∧
  (∀ (s : State) (n : Fin 17) (f : Bytes), dpRuns s = true → 2 ^ 20 ≤ (getMask s n.val).since →
    (getMask s n.val).full = some f → maskUnitWorks s n.val = true →
    answers (.laneFullReseed n) s (fun t =>
      (getMask t n.val).since = 0 ∧ (getMask t n.val).reseeds = ((getMask s n.val).reseeds + 1) % 65536 ∧
      (s.ops = [] → (getMask t n.val).state = unle f) ∧ t.units = s.units ∧ t.moor = s.moor)) ∧
  (∀ (s : State) (n : Fin 17), dpRuns s = true → maskUnitWorks s n.val = true → seedMissing s n.val = true →
    answers (.laneSeedTimeout n) s (fun t =>
      let u : UnitId := if n.val < 16 then laneId n.val else .legacy
      (getUnit t u).st = .faulted ∧ (getUnit t u).cause = 1 ∧ (getUnit t u).en = (getUnit s u).en ∧ pended 7 s t))

/-- HASH, MAC and KDF: dispatch to a pipe, result, ending. With the data-plane clock running: HASH_DISPATCH gives the
oldest message of the head domain, its deficit positive, the context that R253 names, charges the domain by R262 and
issues its read; with no pipe ON or STARTING it ends the message with ABORTED and DETAIL 4. HASH makes the digest of
its input, MAC the full MAC or the comparison of its leading AUX_LEN bytes, KDF exactly OUT_LEN bytes of HKDF or of
the counter mode; each changes only the operation. HASH_MESSAGE_COMPLETE writes the result and ends with OK, or with
AUTH_FAIL and nothing written where a MAC did not verify, and counts the message's blocks. (10_hash_kdf.md) -/
def Obligations.HashPipesRunMessages : Prop :=
  let next (s : State) (d : Nat) (rest : List Nat) (o : Op) : Prop :=
    dpRuns s = true ∧ s.arb.hash = d :: rest ∧ 0 < (getDom s d).hashDef ∧ oldestHash s d = some o
  let runs (s : State) (tag : Fin 4096) (op : Nat) (o : Op) : Prop :=
    dpRuns s = true ∧ findOp s tag.val = some o ∧ o.stage = .running ∧ dOpcode o.desc = op
  let more (s : State) (o : Op) : Bool :=
    s.ops.any fun p => p.dom == o.dom && p.tag != o.tag && p.stage == .ready && isHashOp p.desc
  (∀ (s : State) (d : Nat) (rest : List Nat) (o : Op) (n c : Nat), next s d rest o → hostCtx s = some (n, c) →
    answers .hashDispatch s (fun t =>
      (∃ p, findOp t o.tag = some p ∧ p.unit = some (pipeId n) ∧ p.pipe = some n ∧ p.ctx = c ∧ p.desc = o.desc ∧
        (p.stage = .dispatched ∨ p.stage = .running)) ∧
      (getDom t d).hashDef = (if more s o then (getDom s d).hashDef - hashCharge o.desc else 0) ∧
      (usesIn o.desc = true → dInLen o.desc ≠ 0 → Out.hostRead o.dom (dInAddr o.desc) (dInLen o.desc) ∈ t.outs) ∧
      t.units = s.units ∧ t.moor = s.moor ∧ (pipeUnit s n).st = .on ∧ ctxFree s n c = true ∧
      (∀ m, m < n → (pipeUnit s m).st = .on → ctxFree s m 2 = false ∧ ctxFree s m 3 = false))) ∧
  (∀ (s : State) (d : Nat) (rest : List Nat) (o : Op), next s d rest o → noPipes s = true → plain o →
    answers .hashDispatch s (fun t => opEnds s t o stAborted 4 o.result (0, 0) 0 ∧ t.units = s.units)) ∧
  (∀ (s : State) (tag : Fin 4096) (o : Op), runs s tag 5 o → answers (.opHash tag) s (fun t =>
    findOp t tag.val = some {
      o with
      stage := .computed
      out := primBytes (.hash (dAlg o.desc)) (if dAlg o.desc = 0x21 ∨ dAlg o.desc = 0x22 then dOutLen o.desc
        else if dAlg o.desc % 16 = 1 then 32 else if dAlg o.desc % 16 = 2 then 48 else 64) [o.input] } ∧
    t = { s with ops := t.ops })) ∧
  (∀ (s : State) (tag : Fin 4096) (o : Op), runs s tag 6 o → answers (.opMac tag) s (fun t =>
    let m := hmac (dAlg o.desc % 128) o.key1.value o.input
    findOp t tag.val = some (if dAlg o.desc < 128 then { o with stage := .computed, out := m }
      else { o with stage := .computed, compareOk := m.take (dAuxLen o.desc) == o.auxIn }) ∧
    t = { s with ops := t.ops })) ∧
  (∀ (s : State) (tag : Fin 4096) (o : Op), runs s tag 7 o → answers (.opKdf tag) s (fun t =>
    let la := leAt o.pb 8 2
    let salt := slice o.pb 16 la
    let info := slice o.pb (16 + pad8 la) (leAt o.pb 10 2)
    ∃ p, findOp t tag.val = some p ∧ p = { o with stage := .computed, out := p.out } ∧ p.out.length = dOutLen o.desc ∧
      p.out = (if dAlg o.desc < 16 then hkdf (dAlg o.desc) (dOutLen o.desc) o.key1.value salt info
        else kbkdf (dAlg o.desc) (dOutLen o.desc) o.key1.value salt info) ∧ t = { s with ops := t.ops })) ∧
  (∀ (s : State) (tag : Fin 4096) (o : Op) (n : Nat), dpRuns s = true → findOp s tag.val = some o → o.stage = .computed →
    isHashOp o.desc = true → o.pipe = some n → plain o →
    answers (.hashMessageComplete tag) s (fun t =>
      (if o.compareOk = true then
        opEnds s t o stOK 0 [] (if o.out = [] then (0, 0) else (o.out.length, o.aux.length)) (if o.out = [] then 0 else 2) ∧
        (o.out ≠ [] → dataWrite s o.dom (dOutAddr o.desc) o.out ∈ t.outs)
      else opEnds s t o stAuthFail 0 [] (0, 0) 0) ∧
      (getPipe t n).blocks = ((getPipe s n).blocks + messageBlocks o) % 2 ^ 48 ∧ t.units = s.units))

/-- Public-key operations: dispatch, reservation, result, comparison, scrub. With the data-plane clock running:
PK_DISPATCH, where no operation holds a reservation or waits at a pair to start, gives the oldest operation of the
head domain, its deficit positive, the pair and engines that the order names and issues its reads, or reserves a pair
for a duplicated one, and charges it. Each opcode computes its result into the operation and changes nothing else.
PK_OPERATION_COMPLETE counts, and where the engines agree writes output and auxiliary output and ends with OK if the
result stands, else ends with AUTH_FAIL (PK_VERIFY) or BAD_PARAMETER with DETAIL 3; a compare failure of a duplicated
operation scrubs, pends PK_COMPARE_FAIL, counts, and faults a pair not FAULTED yet with COMPARE; a validity failure
does so with ABORTED and VALIDITY. PK_RAND_TIMEOUT, the source counting as FAULTED and the draws not to be had, ends
with NO_ENTROPY. PK_SCRUB_COMPLETE writes the entry, and faults the pair with SCRUB where memory is not zero.
(11_pk_engines.md) -/
def Obligations.PairsRunAndCompare : Prop :=
  let next (s : State) (d : Nat) (rest : List Nat) (o : Op) : Prop :=
    dpRuns s = true ∧ s.arb.pk = d :: rest ∧ 0 < (getDom s d).pkDef ∧ oldestPk s d = some o ∧
    (s.ops.any Op.reserved) = false ∧ (s.ops.any fun p => (pairOf p).isSome && p.stage == .dispatched) = false
  let more (s : State) (o : Op) : Bool :=
    s.ops.any fun p => p.dom == o.dom && p.tag != o.tag && p.stage == .ready && isPkOp p.desc
  let runs (s : State) (tag : Fin 4096) (op : Nat) (o : Op) : Prop :=
    dpRuns s = true ∧ findOp s tag.val = some o ∧ o.stage = .running ∧ dOpcode o.desc = op
  let result (s t : State) (o : Op) (out aux : Bytes) (ok : Bool) : Prop :=
    findOp t o.tag = some { o with stage := .computed, out := out, aux := aux, compareOk := ok } ∧
    t = { s with ops := t.ops }
  let onPair (s : State) (tag : Fin 4096) (o : Op) (n : Nat) (st : Stage) : Prop :=
    dpRuns s = true ∧ findOp s tag.val = some o ∧ pairOf o = some n ∧ o.stage = st
  let flags (o : Op) (w : Bool) : Nat := (if w then 2 else 0) + if o.dup then 4 else 0
  (∀ (s : State) (d : Nat) (rest : List Nat) (o : Op) (n e : Nat), next s d rest o → pairFor s o.desc = some (n, e) →
    auxRead o ++ inRead o ≠ [] → answers .pkDispatch s (fun t =>
      findOp t o.tag = some {
        o with unit := some (pairId n), eng := e, reserved := false, draw := drawUnits s o.desc, stage := .dispatched
               arrived := false } ∧
      (getDom t d).pkDef = (if more s o then (getDom s d).pkDef - pkCharge s o else 0) ∧
      t.outs = s.outs ++ auxRead o ++ inRead o ∧ t.units = s.units)) ∧
  (∀ (s : State) (d : Nat) (rest : List Nat) (o : Op) (n e : Nat), next s d rest o → pairFor s o.desc = some (n, e) →
    dOpcode o.desc = 0x27 → (needsStream o.desc = true → noPipes s = false) → answers .pkDispatch s (fun t =>
      (∃ p, findOp t o.tag = some p ∧ p.unit = some (pairId n) ∧ p.eng = e ∧ p.desc = o.desc ∧
        (p.stage = .dispatched ∨ p.stage = .running)) ∧
      (getDom t d).pkDef = (if more s o then (getDom s d).pkDef - pkCharge s o else 0) ∧ t.units = s.units)) ∧
  (∀ (s : State) (d : Nat) (rest : List Nat) (o : Op) (n : Nat), next s d rest o → pairFor s o.desc = none →
    opDup o.desc = true → reservable s = some n → answers .pkDispatch s (fun t =>
      findOp t o.tag = some { o with reserved := true, unit := some (pairId n) } ∧
      (getDom t d).pkDef = (getDom s d).pkDef - pkCharge s o ∧ t.outs = s.outs ∧ t.units = s.units)) ∧
  (∀ (s : State) (tag : Fin 4096) (o : Op), runs s tag 0x20 o → answers (.opPkSign tag) s (fun t =>
    result s t o (signWith (dAlg o.desc) (curveOf o.curveB) (sigLen (dAlg o.desc) o.cLn) (privOf s o) o.input (pkCtx o.pb)
      o.drawn) [] true)) ∧
  (∀ (s : State) (tag : Fin 4096) (o : Op), runs s tag 0x21 o → answers (.opPkVerify tag) s (fun t =>
    result s t o [] [] (verifyWith (dAlg o.desc) (curveOf o.curveB) (pubOf o) o.input o.auxIn (pkCtx o.pb)))) ∧
  (∀ (s : State) (tag : Fin 4096) (o : Op), runs s tag 0x22 o → answers (.opPkAgree tag) s (fun t =>
    let z := if dAlg o.desc = 2 then ecdh (curveOf o.curveB) (privOf s o) (pkPub o.pb)
      else some (primBytes (.agree 3) 32 [privOf s o, pkPub o.pb])
    if dAlg o.desc ≠ 2 ∧ allZero (z.getD []) = true then result s t o [] [] false
    else result s t o (z.getD []) [] z.isSome)) ∧
  (∀ (s : State) (tag : Fin 4096) (o : Op), runs s tag 0x23 o → answers (.opKemEncaps tag) s (fun t =>
    let args := [latticeSet (dAlg o.desc), pubOf o, o.drawn]
    result s t o (primBytes (.encapsCt (dAlg o.desc)) (ctLen (dAlg o.desc)) args)
      (primBytes (.encapsSecret (dAlg o.desc)) 32 args) true)) ∧
  (∀ (s : State) (tag : Fin 4096) (o : Op), runs s tag 0x24 o → answers (.opKemDecaps tag) s (fun t =>
    result s t o [] (primBytes (.decaps (dAlg o.desc)) 32 [latticeSet (dAlg o.desc), privOf s o, o.input]) true)) ∧
  (∀ (s : State) (tag : Fin 4096) (o : Op), runs s tag 0x25 o → answers (.opRsaPrivate tag) s (fun t =>
    result s t o (be (rsaK o) (rsaCrt (rsaK o) o.key1.value (unbe o.input))) [] true)) ∧
  (∀ (s : State) (tag : Fin 4096) (o : Op), runs s tag 0x26 o → rsaE o < 2 ^ 32 → answers (.opRsaPublic tag) s (fun t =>
    ∃ p, findOp t tag.val = some p ∧ result s t o p.out [] true ∧ p.out.length = rsaK o ∧
      (rsaN o ≤ 2 ^ (8 * rsaK o) → 0 < rsaN o → unbe p.out = unbe o.input ^ rsaE o % rsaN o))) ∧
  (∀ (s : State) (tag : Fin 4096) (o : Op), runs s tag 0x27 o → answers (.opPkKeygen tag) s (fun t =>
    result s t o
      (publicWith (dAlg o.desc) (curveOf o.curveB) (pubLen (dAlg o.desc) o.cL) (newSecret o))
      (makeBlob s o (newSecret o) (slice o.drawn 0 12)) true)) ∧
  (∀ (s : State) (tag : Fin 4096) (o : Op) (n : Nat), onPair s tag o n .computed → isPkOp o.desc = true →
    o.outWritten = false →
    answers (.pkOperationComplete tag .agree) s (fun t =>
      (getPair t n).ops = ((getPair s n).ops + 1) % 2 ^ 48 ∧ t.units = s.units ∧
      if o.compareOk = true then
        opEnds s t o stOK 0 [] (if o.out = [] ∧ o.aux = [] then (0, 0) else (o.out.length, o.aux.length))
          (flags o (!(o.out.isEmpty && o.aux.isEmpty))) ∧
        (o.out ≠ [] → dataWrite s o.dom (dOutAddr o.desc) o.out ∈ t.outs) ∧
        (o.aux ≠ [] → dataWrite s o.dom (dAuxAddr o.desc) o.aux ∈ t.outs)
      else if dOpcode o.desc = 0x21 then opEnds s t o stAuthFail 0 [] (0, 0) (flags o false)
      else opEnds s t o stBadParameter 3 [] (0, 0) (flags o false))) ∧
  (∀ (s : State) (tag : Fin 4096) (o : Op) (n : Nat), onPair s tag o n .computed → (pairUnit s n).st ≠ .faulted →
    o.dup = true → answers (.pkOperationComplete tag .compare) s (fun t =>
      (∃ p, findOp t tag.val = some p ∧ p.stage = .scrubbing ∧ p.status = stCompareFail ∧ p.out = [] ∧ p.aux = []) ∧
      (pairUnit t n).st = .faulted ∧ (pairUnit t n).cause = 1 ∧ pended 6 s t ∧
      (getPair t n).compareFails = min 255 ((getPair s n).compareFails + 1))) ∧
  (∀ (s : State) (tag : Fin 4096) (o : Op) (n : Nat), onPair s tag o n .computed → (pairUnit s n).st ≠ .faulted →
    answers (.pkOperationComplete tag .validity) s (fun t =>
      (∃ p, findOp t tag.val = some p ∧ p.stage = .scrubbing ∧ p.status = stAborted ∧ p.detail = 4 ∧ p.out = []) ∧
      (pairUnit t n).st = .faulted ∧ (pairUnit t n).cause = 2 ∧
      (getPair t n).validityFails = min 255 ((getPair s n).validityFails + 1))) ∧
  (∀ (s : State) (tag : Fin 4096) (o : Op) (n : Nat), onPair s tag o n .dispatched → o.arrived = true → o.reserved = false →
    rngFaulted s = true → drawReady s o n = false → heldByOrder s o = false → plain o →
    answers (.pkRandTimeout tag) s (fun t => opEnds s t o stNoEntropy 0 o.result (0, 0) 0 ∧ t.units = s.units)) ∧
  (∀ (s : State) (tag : Fin 4096) (o : Op) (n : Nat) (zero : Bool), onPair s tag o n .scrubbing → isPkOp o.desc = true →
    o.outWritten = false → ¬(o.status = stBadParameter ∧ o.detail = 1) →
    answers (.pkScrubComplete tag zero) s (fun t =>
      opEnds s t o o.status o.detail o.result (0, 0) (flags o false) ∧
      (zero = true → t.units = s.units) ∧
      (zero = false → (pairUnit t n).st = .faulted ∧ (pairUnit t n).cause = 4)))

/-- CURVE_LOAD's three sub-functions and the two curve registers. For a slot that no key record names, below its last
epoch, with no logbook refusal and flash that programs: LOAD with a body that fails a check answers CURVE_REJECTED and
the reason and changes nothing. A good body stages one entry and the slot's record and then waits while COMMIT_BUSY or
that record is incomplete, staying as it is. Then it writes the copy that is not live, makes it valid in the other
bank, which becomes active, advances the epoch and answers the fingerprint. CLEAR stages its entry and deletes the
record at once, waits while COMMIT_BUSY, then puts the built-in curve (slots 0 to 4) or none in the other copy. Other
slots' copies, epoch and entry stay. A slot whose epoch is at its end takes neither (R629). READ answers the live
copy's body and fingerprint, nothing for an empty slot, and changes nothing. PKE_CURVE_SEL and PKE_CURVE_DATA reach
only the copy that is not live, and set REFUSED otherwise. (12_curves_lattice.md) -/
def Obligations.CurveSlotsChange : Prop :=
  let free (s : State) (c : AdminCmd) (i : Nat) : Prop :=
    i = aTarget c.desc ∧ i ≤ 63 ∧ c.input = [] ∧ curveInUse s i = false ∧ logRefusal s = none ∧
    (getCurve s i).epoch < 2 ^ 32 - 1
  let sel (s : State) (i : Nat) : CurveSel := curveSel (activeBank s) i
  let changed (s t : State) (i : Nat) (valid : Bool) (x : CurveCopy) : Prop :=
    sel t i = ⟨valid, 1 - (sel s i).copy⟩ ∧ (∀ j, j ≠ i → sel t j = sel s j ∧ getCurve t j = getCurve s j) ∧
    curveCopy t i (1 - (sel s i).copy) = x ∧ curveCopy t i (sel s i).copy = curveCopy s i (sel s i).copy ∧
    (getCurve t i).epoch = (getCurve s i).epoch + 1 ∧ t.policy.active = 1 - s.policy.active ∧
    t.ops = s.ops ∧ t.keys = s.keys ∧ t.moor = s.moor
  let staged (c : AdminCmd) : AdminCmd := { c with staged := true }
  let loads (s : State) (d : Nat) (c : AdminCmd) (i : Nat) : Prop :=
    cmdReady s d 0x83 0 c ∧ c.staged = false ∧ free s c i ∧ curveBodyOk c.pb = true ∧ 32 ≤ dOutLen c.desc
  (∀ (s : State) (d : Fin 256) (c : AdminCmd) (i : Nat), loads s d.val c i → flashStage s ≠ 5 →
    answers (.curveLoad d) s (fun t =>
      if curveReason c.pb ≠ 0 then cmdEnds t d.val c stCurveRejected (curveReason c.pb) [] ∧ onlyService s t
      else servingOf t d.val = some (staged c) ∧ curveRecWaits t i = true ∧
        getCurve t i = { getCurve s i with record := some c.pb } ∧ t.log.nextSeq = s.log.nextSeq + 1 ∧
        t.policy = s.policy ∧ t.ops = s.ops)) ∧
  (∀ (s : State) (d : Fin 256) (c : AdminCmd), cmdReady s d.val 0x83 0 c → c.staged = true →
    commitBusy s = true ∨ curveRecWaits s (aTarget c.desc) = true → answers (.curveLoad d) s (fun t => t = s)) ∧
  (∀ (s : State) (d : Fin 256) (c : AdminCmd) (i : Nat), cmdReady s d.val 0x83 0 c → c.staged = true →
    i = aTarget c.desc → commitBusy s = false → curveRecWaits s i = false → answers (.curveLoad d) s (fun t =>
      cmdEnds t d.val c stOK 0 (curveFingerprint c.pb) ∧ changed s t i true (.loaded c.pb) ∧
      (getCurve t i).record = (getCurve s i).record)) ∧
  (∀ (s : State) (d : Fin 256) (c : AdminCmd) (i : Nat), cmdReady s d.val 0x83 1 c → free s c i → c.staged = false →
    answers (.curveClear d) s (fun t => t.log.nextSeq = s.log.nextSeq + 1 ∧ (getCurve t i).record = none ∧
      (if commitBusy s = true then servingOf t d.val = some (staged c) ∧ t.policy = s.policy ∧ t.ops = s.ops ∧
        getCurve t i = { getCurve s i with record := none }
      else cmdEnds t d.val (staged c) stOK 0 [] ∧ changed s t i (decide (i < 5)) .asReset))) ∧
  (∀ (s : State) (d : Fin 256) (c : AdminCmd) (i : Nat), cmdReady s d.val 0x83 1 c → c.staged = true →
    i = aTarget c.desc → answers (.curveClear d) s (fun t =>
      if commitBusy s = true then t = s
      else cmdEnds t d.val c stOK 0 [] ∧ changed s t i (decide (i < 5)) .asReset)) ∧
  (∀ (s : State) (d : Fin 256) (c : AdminCmd), 2 ^ 32 - 1 ≤ (getCurve s (aTarget c.desc)).epoch → c.staged = false →
    cmdReady s d.val 0x83 0 c → 32 ≤ dOutLen c.desc →
    answers (.curveLoad d) s (fun t => cmdEnds t d.val c stBadParameter 2 [] ∧ onlyService s t)) ∧
  (∀ (s : State) (d : Fin 256) (c : AdminCmd), 2 ^ 32 - 1 ≤ (getCurve s (aTarget c.desc)).epoch → c.staged = false →
    cmdReady s d.val 0x83 1 c →
    answers (.curveClear d) s (fun t => cmdEnds t d.val c stBadParameter 2 [] ∧ onlyService s t)) ∧
  (∀ (s : State) (d : Fin 256) (c : AdminCmd) (i : Nat), cmdReady s d.val 0x83 2 c → i = aTarget c.desc → i ≤ 63 →
    answers (.curveRead d) s (fun t => onlyService s t ∧
      (let b := (copyBody i (curveCopy s i (sel s i).copy)).getD []
      if (sel s i).valid = false ∨ copyBody i (curveCopy s i (sel s i).copy) = none then cmdEnds t d.val c stOK 0 []
      else if 504 ≤ dOutLen c.desc then cmdEnds t d.val c stOK 0 (slice b 0 472 ++ curveFingerprint b)
      else cmdShort t d.val c 504))) ∧
  (∀ (s : State) (v : BitVec 32), policyRuns s = true → answers (.pkeCurveSelWrite v) s (fun t =>
    let i := v.toNat % 64
    let c := v.toNat / 64 % 2
    let keep := s.curveRegs.refused && !nbit v.toNat 7
    if (sel s i).copy = c then t = { s with curveRegs := { s.curveRegs with refused := true } }
    else getCurve t i = { getCurve s i with staging := [] } ∧
      t = { s with curves := t.curves, curveRegs := { slot := i, copy := c, refused := keep, index := 0 } })) ∧
  (∀ (s : State) (v : BitVec 32), policyRuns s = true → answers (.pkeCurveDataWrite v) s (fun t =>
    let r := s.curveRegs
    if 118 ≤ r.index ∨ (sel s r.slot).copy = r.copy then t = { s with curveRegs := { r with refused := true } }
    else
      let b := (getCurve s r.slot).staging ++ le 4 v.toNat
      (getCurve t r.slot).staging = b ∧ (r.index = 117 → curveCopy t r.slot r.copy = .loaded b) ∧
      (∀ j, j ≠ r.slot → getCurve t j = getCurve s j) ∧
      t = { s with curves := t.curves, curveRegs := { r with index := r.index + 1 } }))

/-- Seeds, health tests, faults, keeper reads and RNG_FILL. With the keeper clock running. A pair whose window fails is
isolated and counted and RNG_HEALTH pends; the source faults below 48 healthy pairs. A retest readmits passing pairs
isolated fewer than 8 times. 16 or more samples make words; a repeated word faults the source, else the last eight are
the seed unless one is ready. A due reseed takes the seed. Start-up tests with a seed ready bring the source ON with
the stalls served, or fault it. Every fault enters FAULTED with its cause, drops seed and DRBG, ends the stalls and
the fills in flight with NO_ENTROPY, or with ABORTED and DETAIL 4 once they have written, and leaves the lanes' and
pairs' unit records alone. A read of RNG_DATA returns fresh bits tagged SECRET, stalls, or returns 0 tagged ERR, as a
stalled one does at its timeout. OP_RNG_FILL (data-plane clock) enters arbitration; RNG_FILL_CHUNK, with no read
stalled, writes DRBG output of at most 4 KiB and ends the fill with OK after its last. (13_random.md) -/
def Obligations.RandomSourceRules : Prop :=
  let rngSt (s : State) : UnitState := (getUnit s .rng).st
  let gone (s t : State) (o : Op) : Prop :=
    findOp t o.tag = none ∧ (o.lost = false → portUp s (domPort o.dom) = true →
      let e (ph : Nat) : Bytes := completionEntry o.idx (o.tag % 4096) (if o.written = 0 then stNoEntropy else stAborted)
        (if o.written = 0 then 0 else 4) 0x30 (engineByte (if o.reserved then none else o.unit))
        (if o.outWritten then o.written else 0) (if o.outWritten then o.aux.length else 0) o.result
        (ph + 2 * b2n o.outWritten + 4 * b2n o.dup)
      (t.outs.any fun x => match x with
        | .completion d q _ b => d == o.dom && q == o.q && (b == e 0 || b == e 1) | _ => false) = true)
  let faults (s t : State) (cause : Nat) : Prop :=
    rngSt t = .faulted ∧ (getUnit t .rng).cause = cause ∧ t.rng.seed = none ∧ t.rng.drbg = none ∧
    t.rng.stalls = [] ∧ pended 3 s t ∧ (∀ n, n < 16 → laneUnit t n = laneUnit s n ∧ pairUnit t n = pairUnit s n) ∧
    t.keys = s.keys ∧ ∀ o ∈ s.ops, findOp s o.tag = some o → dOpcode o.desc = 0x30 → o.stage ≠ .held → gone s t o
  let good (s : State) (a b : List PairWindow) (i : Nat) : Bool :=
    let k := mget 0 s.rng.isoCount i
    decide (k < 8) && (windowPasses a i || (windowPasses b i && decide (k < 7)))
  (∀ (s : State) (n : Fin 64) (w : PairWindow) (inSeed : Bool), kprRuns s = true → rngSt s ≠ .off → rngSt s ≠ .faulted →
    nbit s.rng.isolated n.val = false → 81 ≤ w.run ∨ 830 ≤ w.recurs → answers (.rngPairFail n w inSeed) s (fun t =>
      (∀ m, m < 64 → (nbit t.rng.isolated m = true ↔ m = n.val ∨ nbit s.rng.isolated m = true)) ∧
      mget 0 t.rng.isoCount n.val = mget 0 s.rng.isoCount n.val + 1 ∧
      t.rng.rct = (if 81 ≤ w.run then min 65535 (s.rng.rct + 1) else s.rng.rct) ∧
      t.rng.apt = (if 830 ≤ w.recurs then min 65535 (s.rng.apt + 1) else s.rng.apt) ∧
      if healthyPairs s ≤ 48 then rngSt t = .faulted ∧ (getUnit t .rng).cause = 1 ∧ t.rng.stalls = []
      else pended 3 s t ∧ t.units = s.units ∧ t.ops = s.ops ∧ t.rng.seed = (if inSeed then none else s.rng.seed))) ∧
  (∀ (s : State) (w : List PairWindow), kprRuns s = true → rngSt s ≠ .off → answers (.rngRetest w) s (fun t =>
    (∀ n, n < 64 → (nbit t.rng.isolated n = true ↔ nbit s.rng.isolated n = true ∧
      (mget 0 s.rng.isoCount n < 8 → windowPasses w n = false))) ∧
    t = { s with rng := { s.rng with isolated := t.rng.isolated, readmits := t.rng.readmits } })) ∧
  (∀ (s : State) (raw : List (BitVec 64)), kprRuns s = true → 16 ≤ raw.length → raw.length % 2 = 0 →
    rngSt s = .starting ∨ worksOn (rngSt s) = true → answers (.seedReady raw) s (fun t =>
      let c := condition s.rng.isolated s.rng.lfsr raw
      let seed := ((c.1.drop (c.1.length - 8)).map fun x => le 8 x.toNat).flatten
      if wordRepeats (s.rng.lastWord.toList ++ c.1) then faults s t 2
      else t = { s with rng := { s.rng with
        lfsr := c.2, lastWord := c.1.getLast?, seed := some (s.rng.seed.getD seed) } })) ∧
  (∀ (s : State), kprRuns s = true → s.rng.drbg ≠ none → s.rng.seed ≠ none → s.rng.reseedDue = true →
    answers .drbgReseed s (fun t => t.rng.seed = none ∧ t.rng.reseeds = (s.rng.reseeds + 1) % 2 ^ 48 ∧
      t.rng.isolated = s.rng.isolated ∧ t.keys = s.keys)) ∧
  (∀ (s : State) (a b : List PairWindow), kprRuns s = true → rngSt s = .starting → s.rng.seed ≠ none →
    answers (.rngStartupTestsPass (a, b)) s (fun t =>
      (∀ i, i < 64 → nbit t.rng.isolated i = !good s a b i) ∧ t.rng.stalls = [] ∧ t.rng.seed = none ∧
      if 48 ≤ ((List.range 64).filter (good s a b)).length then rngSt t = .on ∧ t.rng.drbg ≠ none
      else rngSt t = .faulted ∧ (getUnit t .rng).cause = 1 ∧ t.rng.drbg = none)) ∧
  (∀ (s : State), kprRuns s = true → rngSt s = .starting → answers .seedTimeout s (faults s · 4)) ∧
  (∀ (s : State) (cause : Fin 5), kprRuns s = true → rngSt s ≠ .off → rngSt s ≠ .faulted →
    answers (.rngSourceFault cause) s (faults s · (cause.val + 1))) ∧
  (∀ (s : State) (c : Fin 4) (r : Fin 16), kprRuns s = true → (coreUnit s c.val).st = .on → rngStalled s c.val = false →
    answers (.rngDataRead c r) s (fun t =>
      if rngSt s = .starting ∨ (rngSt s = .on ∧ s.rng.reseedDue = true) then
        t = { s with rng := { s.rng with stalls := s.rng.stalls ++ [⟨c.val, some r.val⟩] } }
      else
        getCore t c.val = (getCore s c.val).setD r.val
          (if rngSt s = .on then ⟨BitVec.ofNat 32 (unle (drbgBytes s 4)), .secret⟩ else errWord) ∧
        (∀ e, e < 4 → e ≠ c.val → getCore t e = getCore s e) ∧
        t = { (if rngSt s = .on then useDrbg 4 s else s) with keeper := t.keeper })) ∧
  (∀ (s : State) (c : Fin 4) (r : Nat), kprRuns s = true → s.rng.stalls.filter (fun x => x.core == c.val) = [⟨c.val, some r⟩] →
    answers (.rngDataStallTimeout c) s (fun t => getCore t c.val = (getCore s c.val).setD r errWord ∧
      (∀ e, e < 4 → e ≠ c.val → getCore t e = getCore s e) ∧
      t = { s with keeper := t.keeper, rng := { s.rng with stalls := s.rng.stalls.filter fun x => x.core != c.val } })) ∧
  (∀ (s : State) (c : Fin 4), kprRuns s = true → s.rng.stalls.filter (fun x => x.core == c.val) = [⟨c.val, none⟩] →
    answers (.rngDataStallTimeout c) s (fun t => t = { s with rng := { s.rng with
      stalls := s.rng.stalls.filter fun x => x.core != c.val, answers := s.rng.answers ++ [(c.val, errWord)] } })) ∧
  (∀ (s : State) (tag : Fin 4096) (o : Op), dpRuns s = true → findOp s tag.val = some o → o.stage = .running →
    dOpcode o.desc = 0x30 → answers (.opRngFill tag) s (fun t => findOp t tag.val = some { o with stage := .computed } ∧
      o.dom ∈ t.arb.rng ∧ t.outs = s.outs ∧ t.units = s.units ∧ t.rng = s.rng)) ∧
  (∀ (s : State) (d : Nat) (rest : List Nat) (o : Op), kprRuns s = true → rngOn s = true → s.rng.stalls = [] →
    s.arb.rng = d :: rest → 0 < (getDom s d).rngDef → oldestFill s d = some o → findOp s o.tag = some o → o.dup = false →
    answers .rngFillChunk s (fun t =>
      let n := min 4096 (dOutLen o.desc - o.written)
      dataWrite s d (dOutAddr o.desc + o.written) (drbgBytes s n) ∈ t.outs ∧ t.rng = (useDrbg n s).rng ∧
      t.units = s.units ∧
      if dOutLen o.desc ≤ o.written + n then opEnds s t o stOK 0 [] (o.written + n, o.aux.length) 2
      else findOp t o.tag = some { o with written := o.written + n, outWritten := true }))

/-- KEY_GENERATE and KEY_IMPORT. For a command that the checks of its block and of R352 pass, with no logbook refusal.
Where a LOAD of the curve slot its key names runs, the command waits as it is. KEY_GENERATE then gives NO_ENTROPY
where the source counts as FAULTED, waits while a draw waits, gives POLICY_DENIED and stores nothing where the
computations of a public part disagreed, and else stores the secret that its draw gives. KEY_IMPORT stores a public
key, a clear secret or a key block's secret that passes validation, and otherwise answers BAD_PARAMETER with DETAIL 3;
a block whose KBPK or header does not permit it gives POLICY_DENIED. Storing makes the slot ACTIVE with the command's
kind, owner and policy, changes no other slot, logs one entry, and leaves the command holding slot and fingerprint. In
a staged command's last step it stays as it is while that record waits, and else the image entry is built where it can
be, and the command ends with OK, slot and fingerprint. (14_key_store.md) -/
def Obligations.KeyCommandsCreateKeys : Prop :=
  let names (c : AdminCmd) : Bool := decide (4 ≤ kKind c) && decide (kAlg c ≤ 2)
  let may (s : State) (d : Fin 256) (op sub : Nat) (c : AdminCmd) (kinds : List Nat) (kbpk secret : Bool) : Prop :=
    cmdReady s d.val op sub c ∧ c.staged = false ∧
    createRefusal s c kinds kbpk secret = none ∧ logRefusal s = none ∧ (names c && loadRuns s (kCurve c)) = false
  let stored (s t : State) (d : Fin 256) (c : AdminCmd) (origin : Nat) (secret pub policy : Bytes) : Prop :=
    let n := (createSlot s (aTarget c.desc)).getD 0
    let fp := keyFp (kKind c) secret pub
    getKey t n = {
      st := .active, kind := kKind c, alg := kAlg c, curveSlot := kCurve c, owner := kOwner c, origin := origin
      secret := secret, pub := keptPub (kKind c) (kAlg c) pub, writeSeq := s.keys.writeSeq + 1, fp := fp, policy := policy
      created := (if s.backup.rtcValid then rtcStamp s else 0), kekEpoch := s.backup.kekEpoch } ∧
    (createSlot s (aTarget c.desc)).isSome = true ∧ (∀ m, m ≠ n → getKey t m = getKey s m) ∧
    t.keys = { s.keys with slots := t.keys.slots, writeSeq := s.keys.writeSeq + 1 } ∧
    servingOf t d.val = some { c with staged := true, output := le 4 n ++ slice fp 0 16 } ∧
    t.log.nextSeq = s.log.nextSeq + 1 ∧ t.ops = s.ops ∧ t.units = s.units ∧ t.moor = s.moor ∧ t.policy = s.policy
  let fails (s t : State) (d : Fin 256) (c : AdminCmd) (status detail : Nat) : Prop :=
    cmdEnds t d.val c status detail [] ∧ onlyService s t
  let lasts (s t : State) (d : Fin 256) (c : AdminCmd) : Prop :=
    let n := leAt c.output 0 4
    let k := getKey s n
    if recordWaits s 1 n = true then t = s
    else cmdEnds t d.val c stOK 0 c.output ∧ (∀ m, m ≠ n → getKey t m = getKey s m) ∧ t.ops = s.ops ∧ t.log = s.log ∧
      (if imageCan s = true then
        getKey t n = { k with imaged := true, img := splitBy k.secret (drbgBytes s k.secret.length) }
      else getKey t n = k ∧ (devLocked s = false → t.keys.building = true))
  (∀ (s : State) (d : Fin 256) (c : AdminCmd) (agree : Bool), may s d 0x86 0 c [1, 2, 3, 0x10] false true →
    answers (.keyGenerate d agree) s (fun t =>
      if rngFaulted s = true then fails s t d c stNoEntropy 0
      else if drawWaits s = true then t = s
      else if agree = false ∧ kKind c = 0x10 then
        cmdEnds t d.val c stPolicyDenied 0 [] ∧ t.keys = s.keys ∧ t.ops = s.ops ∧ t.log.nextSeq = s.log.nextSeq + 1
      else
        let secret := genSecret s c (drbgBytes s (genDraw c))
        stored s t d c 0 secret (genPub s c secret) (kPolicy c))) ∧
  (∀ (s : State) (d : Fin 256) (c : AdminCmd), may s d 0x84 0 c [0x11] false false →
    answers (.keyImportPublic d) s (fun t =>
      if pubValid s (kAlg c) (kCurve c) c.input then stored s t d c 1 [] c.input (kPolicy c)
      else fails s t d c stBadParameter 3)) ∧
  (∀ (s : State) (d : Fin 256) (c : AdminCmd), may s d 0x84 1 c [1, 2, 3, 0x10] false true →
    answers (.keyImportClear d) s (fun t => nbit (effPerms (activeBank s) c.dom) 3 = true ∧
      if secretValid s c then stored s t d c 2 (clearParts s c).1 (clearParts s c).2 (kPolicy c)
      else fails s t d c stBadParameter 3)) ∧
  (∀ (s : State) (d : Fin 256) (c : AdminCmd), may s d 0x84 2 c [1, 2, 3] true true →
    answers (.keyImportKeyBlock d) s (fun t =>
      let kb := (getKey s (refSlot (kKbpk c))).secret
      if kbpkOk s (kKbpk c) c.dom = false then fails s t d c stPolicyDenied 0
      else if blockOk c kb c.input = false then fails s t d c stBadParameter 3
      else if blockPolicyOk c c.input = false then fails s t d c stPolicyDenied 0
      else stored s t d c 3 ((primBytes .keyBlockUnwrap (2 + kLen c) [kb, c.input]).drop 2) [] (storedPolicy c c.input))) ∧
  (∀ (s : State) (d : Fin 256) (c : AdminCmd) (agree : Bool), cmdReady s d.val 0x86 0 c → c.staged = false →
    (names c && loadRuns s (kCurve c)) = true → answers (.keyGenerate d agree) s (fun t => t = s)) ∧
  (∀ (s : State) (d : Fin 256) (c : AdminCmd), cmdReady s d.val 0x84 0 c → c.staged = false →
    (names c && loadRuns s (kCurve c)) = true → answers (.keyImportPublic d) s (fun t => t = s)) ∧
  (∀ (s : State) (d : Fin 256) (c : AdminCmd), cmdReady s d.val 0x84 1 c → c.staged = false →
    (names c && loadRuns s (kCurve c)) = true → answers (.keyImportClear d) s (fun t => t = s)) ∧
  (∀ (s : State) (d : Fin 256) (c : AdminCmd) (agree : Bool), cmdReady s d.val 0x86 0 c → c.staged = true →
    answers (.keyGenerate d agree) s (lasts s · d c)) ∧
  (∀ (s : State) (d : Fin 256) (c : AdminCmd), cmdReady s d.val 0x84 0 c → c.staged = true →
    answers (.keyImportPublic d) s (lasts s · d c)) ∧
  (∀ (s : State) (d : Fin 256) (c : AdminCmd), cmdReady s d.val 0x84 1 c → c.staged = true →
    answers (.keyImportClear d) s (lasts s · d c)) ∧
  (∀ (s : State) (d : Fin 256) (c : AdminCmd), cmdReady s d.val 0x84 2 c → c.staged = true →
    answers (.keyImportKeyBlock d) s (lasts s · d c))

/-- KEY_EXPORT, KEY_DESTROY, approvals and the key image. With the keeper clock running. An export of a public key answers
the public part and changes only the command. An export as a key block, once it may draw, answers the block that R355
forms, logs one entry and changes no slot. KEY_DESTROY empties exactly its slot, logs one entry and stays staged, its
slot among the scrubs where an image entry stood; staged, it ends with OK once no tombstone of the slot waits and no
scrub is left. An action under a quorum runs only with its approval, which it spends. A request with bit 7 opens the
one pending approval and answers its APPROVAL_ID, or gives BAD_PARAMETER with DETAIL 2 and changes nothing where none
is required. APPROVAL_EXPIRY drops it. KEY_IMAGE_SCRUB, the DRAM awake, removes a scrub that no operation's key and no
tombstone holds back. KEY_IMAGE_BUILD builds the next entry as two shares, one of them fresh, or ends the build.
(14_key_store.md) -/
def Obligations.KeyCommandsEndKeys : Prop :=
  let key (s : State) (c : AdminCmd) : KeySlot := getKey s (aTarget c.desc)
  let calm (s t : State) : Prop := t.ops = s.ops ∧ t.units = s.units ∧ t.moor = s.moor ∧ t.policy = s.policy
  let asks (s t : State) (d : Fin 256) (c : AdminCmd) (m roles : Nat) (unlockSet : Bool) : Prop :=
    cmdEnds t d.val c stOK 0 (approvalId c) ∧ calm s t ∧
    t.keys = { s.keys with
      approval := some { id := approvalId c, m := m, roles := roles, who := [], unlockSet := unlockSet } }
  let none2 (s t : State) (d : Fin 256) (c : AdminCmd) : Prop := cmdEnds t d.val c stBadParameter 2 [] ∧ onlyService s t
  let quorum (s : State) (c : AdminCmd) : Bool := (key s c).st == .active && quorumDestroy (key s c)
  (∀ (s : State) (d : Fin 256) (c : AdminCmd), cmdReady s d.val 0x85 0 c → keyTarget s c false = none →
    answers (.keyExportPublic d) s (fun t => onlyService s t ∧
      if (key s c).kind ≠ 0x10 ∧ (key s c).kind ≠ 0x11 then cmdEnds t d.val c stBadParameter 4 []
      else if (publicPart (key s c)).length ≤ dOutLen c.desc then cmdEnds t d.val c stOK 0 (publicPart (key s c))
      else cmdShort t d.val c (publicPart (key s c)).length)) ∧
  (∀ (s : State) (d : Fin 256) (c : AdminCmd) (h : Bytes × Nat × Nat), cmdReady s d.val 0x85 1 c →
    exportRefusal s c = none → exportHeader (key s c) = some h → blockLen (key s c).secret.length ≤ dOutLen c.desc →
    logRefusal s = none → answers (.keyExportKeyBlock d) s (fun t => calm s t ∧ t.keys.slots = s.keys.slots ∧
      if quorumExport (key s c) = true ∧ approved s c = false then cmdEnds t d.val c stPolicyDenied 0 [] ∧ onlyService s t
      else if drawWaits s = true then t = s
      else cmdEnds t d.val c stOK 0
          (exportBlock (key s c) h (getKey s (refSlot (leAt c.pb 0 4))).secret (drbgBytes s 16)) ∧
        t.keys.approval = (if quorumExport (key s c) then none else s.keys.approval) ∧
        t.log.nextSeq = s.log.nextSeq + 1)) ∧
  (∀ (s : State) (d : Fin 256) (c : AdminCmd), cmdReady s d.val 0x87 0 c → c.staged = false → destroyRefusal s c = none →
    logRefusal s = none → answers (.keyDestroy d) s (fun t => calm s t ∧
      if quorum s c = true ∧ approved s c = false then cmdEnds t d.val c stPolicyDenied 0 [] ∧ onlyService s t
      else servingOf t d.val = some { c with staged := true } ∧ key t c = {} ∧
        (∀ m, m ≠ aTarget c.desc → getKey t m = getKey s m) ∧ t.log.nextSeq = s.log.nextSeq + 1 ∧
        t.keys.approval = (if quorum s c then none else s.keys.approval) ∧
        t.keys.scrubs = s.keys.scrubs ++ (if (key s c).imaged then [aTarget c.desc] else []))) ∧
  (∀ (s : State) (d : Fin 256) (c : AdminCmd), cmdReady s d.val 0x87 0 c → c.staged = true →
    answers (.keyDestroy d) s (fun t =>
      if recordWaits s 2 (aTarget c.desc) = true ∨ aTarget c.desc ∈ s.keys.scrubs then t = s
      else cmdEnds t d.val c stOK 0 [] ∧ onlyService s t)) ∧
  (∀ (s : State) (n : Fin 65536), n.val ∈ s.keys.scrubs → kprRuns s = true → dramRuns s = true → keyInUse s n.val = false →
    recordWaits s 2 n.val = false → answers (.keyImageScrub n) s (fun t =>
      t = { s with keys := { s.keys with scrubs := s.keys.scrubs.filter fun m => m != n.val } })) ∧
  (∀ (s : State), kprRuns s = true → s.keys.building = true → imageCan s = true → nextImage s = none →
    answers .keyImageBuild s (fun t => t = { s with keys := { s.keys with building := false, next := [] } })) ∧
  (∀ (s : State) (n : Nat), kprRuns s = true → s.keys.building = true → imageCan s = true → nextImage s = some n →
    answers .keyImageBuild s (fun t =>
      let k := getKey s n
      let m := k.secret.length
      getKey t n = { k with imaged := true, img := splitBy k.secret (drbgBytes s m) } ∧
      (∀ m, m ≠ n → getKey t m = getKey s m) ∧
      t = { (useDrbg m s) with keys := {
        s.keys with slots := t.keys.slots, next := s.keys.next.filter fun x => x != n } })) ∧
  (∀ (s : State) (d : Fin 256) (c : AdminCmd), logRefusal s = none →
    (cmdReady s d.val 0x85 0x81 c ∧ exportRefusal s c = none ∧ quorumExport (key s c) = true) ∨
    (cmdReady s d.val 0x87 0x80 c ∧ destroyRefusal s c = none ∧ quorum s c = true) →
    answers (.approvalRequest d) s (fun t =>
      if 32 ≤ dOutLen c.desc then
        asks s t d c (quorumM (key s c)) (quorumRoles (key s c)) false ∧ t.log.nextSeq = s.log.nextSeq + 1
      else cmdShort t d.val c 32 ∧ onlyService s t)) ∧
  (∀ (s : State) (d : Fin 256) (c : AdminCmd),
    (cmdReady s d.val 0x8F 0x90 c ∧ watchRefusal s c = none ∧ watchNeeds c = true) ∨
    (cmdReady s d.val 0x8F 0x91 c ∧ watchRefusal s c = none) ∨
    (cmdReady s d.val 0x8F 0xC1 c ∧ custodyRefusal s c = none ∧ s.lifecycle ≠ .factory) ∨
    (cmdReady s d.val 0x8F 0xC4 c ∧ passwordRefusal s c = none ∧ s.lifecycle ≠ .factory) →
    answers (.approvalRequest d) s (fun t =>
      if 32 ≤ dOutLen c.desc then asks s t d c s.owner.custody.unlockM 0 true ∧ t.log = s.log
      else cmdShort t d.val c 32 ∧ onlyService s t)) ∧
  (∀ (s : State) (d : Fin 256) (c : AdminCmd),
    (cmdReady s d.val 0x85 0x81 c ∧ exportRefusal s c = none ∧ quorumExport (key s c) = false) ∨
    (cmdReady s d.val 0x87 0x80 c ∧ destroyRefusal s c = none ∧ quorum s c = false) ∨
    (cmdReady s d.val 0x8F 0x90 c ∧ watchRefusal s c = none ∧ watchNeeds c = false) ∨
    (cmdReady s d.val 0x8F 0xC1 c ∧ custodyRefusal s c = none ∧ s.lifecycle = .factory) ∨
    (cmdReady s d.val 0x8F 0xC4 c ∧ passwordRefusal s c = none ∧ s.lifecycle = .factory) →
    answers (.approvalRequest d) s (none2 s · d c)) ∧
  (∀ (s : State), kprRuns s = true →
    answers .approvalExpiry s (fun t => t = { s with keys := { s.keys with approval := none } }))

/-- The direct command sequence, its six commands, their endings and reads of the flash window. With the keeper clock
running. Two unlock words, a command code, an address and its data words, in this order, advance the sequence, and any
other value or order discards it with SEQ_ERR; a timeout discards a sequence under way; FLC_XO_LOCK_WRITE locks, and
discards too. On the last data word a refused command sets DONE and ADDR_ERR and touches no page; PROGRAM_PAGE,
ERASE_SECTOR, READ_MARGIN and BLANK_CHECK run, an erase with its journal page first, and ERASE_SUSPEND and
ERASE_RESUME hold and release a direct erase. At its end a program writes exactly its page, an erase clears exactly
its sector, a margin read sets MARGIN_ERRS and a blank check BLANK; a failed program or erase sets its flag and pends
FLASH_FAULT. A window read that decodes cleanly answers the firmware partition's word tagged INT, or 0 tagged ERR in
an execute-only region; one that cannot be corrected answers 0 tagged ERR and counts in UNCORR. ERASE_AUTO_RESUME ends
the automatic suspensions. (15_flash.md) -/
def Obligations.FlashCommandsRun : Prop :=
  let only (s t : State) : Prop :=
    t = { s with flash := t.flash } ∧ t.flash.fw = s.flash.fw ∧ t.flash.pages = s.flash.pages
  let at_ (s t : State) (f : Flash) : Prop := t = { s with flash := f }
  let discards (s t : State) : Prop := at_ s t { s.flash with seq := 0, words := [], seqErr := true }
  let last (s : State) (v : BitVec 32) (code : Nat) : Prop := kprRuns s = true ∧ s.flash.code = code ∧
    lastData s.flash = true ∧ dataFits code v.toNat = true
  let refused (s t : State) : Prop := only s t ∧ t.flash.seq = 0 ∧ t.flash.done = true ∧ t.flash.addrErr = true ∧
    t.flash.running = s.flash.running ∧ t.flash.jobs = s.flash.jobs
  let journal (s : State) : PoolJob :=
    { kind := 7, id := 0, pages := 1, data := journalBytes s.flash.lastErased (s.flash.addr / 16384) 1 [] }
  let starts (s t : State) (v : BitVec 32) (code : Nat) : Prop :=
    if cmdBad s = true then refused s t
    else only s t ∧ t.flash.seq = 0 ∧ t.flash.done = s.flash.done ∧ t.flash.running = some (code, s.flash.addr) ∧
      (code = 1 → t.flash.progData = ((s.flash.words ++ [v]).map fun w => le 4 w.toNat).flatten) ∧
      t.flash.jobs = s.flash.jobs ++ (if code = 2 then [journal s] else [])
  let ends (s t : State) : Prop := t.flash.running = none ∧ t.flash.done = true ∧ t.flash.pages = s.flash.pages ∧
    t.ops = s.ops ∧ t.units = s.units ∧ t.keys = s.keys
  let runs (s : State) (code a : Nat) : Prop :=
    kprRuns s = true ∧ s.flash.running = some (code, a) ∧ (code = 2 → s.flash.held = false ∧ s.flash.directSusp = false)
  (∀ (s : State) (v : BitVec 32), kprRuns s = true → answers (.flcUnlockWrite v) s (fun t =>
    if s.flash.seq = 0 ∧ v = 0xA5C30F96 then at_ s t { s.flash with seq := 1 }
    else if s.flash.seq = 1 ∧ v = 0x5A3CF069 then at_ s t { s.flash with seq := 2 } else discards s t)) ∧
  (∀ (s : State) (v : BitVec 32), kprRuns s = true → answers (.flcCmdWrite v) s (fun t =>
    if s.flash.seq = 2 ∧ 1 ≤ v.toNat % 256 ∧ v.toNat % 256 ≤ 6 then at_ s t { s.flash with seq := 3, code := v.toNat % 256 }
    else discards s t)) ∧
  (∀ (s : State) (v : BitVec 32), kprRuns s = true → answers (.flcAddrWrite v) s (fun t =>
    if s.flash.seq = 3 ∧ (v.toNat % 2 ^ 27 = 0 ∨ (s.flash.code ≠ 3 ∧ s.flash.code ≠ 4)) then
      at_ s t { s.flash with seq := 4, addr := v.toNat % 2 ^ 27, words := [] }
    else discards s t)) ∧
  (∀ (s : State) (v : BitVec 32), kprRuns s = true → answers (.flcDataWrite v) s (fun t =>
    if (s.flash.seq = 4 ∨ s.flash.seq = 5) ∧ dataFits s.flash.code v.toNat = true then
      lastData s.flash = false → at_ s t { s.flash with seq := 5, words := s.flash.words ++ [v] }
    else discards s t)) ∧
  (∀ (s : State) (v : BitVec 32), kprRuns s = true → answers (.flcXoLockWrite v) s (fun t =>
    if s.flash.seq = 0 then at_ s t { s.flash with xoLock := s.flash.xoLock || nbit v.toNat 0 }
    else at_ s t { s.flash with seq := 0, words := [], seqErr := true, xoLock := s.flash.xoLock || nbit v.toNat 0 })) ∧
  (∀ (s : State), kprRuns s = true → answers .flashSequenceTimeout s (fun t =>
    if s.flash.seq = 0 then t = s else discards s t)) ∧
  (∀ (s : State), kprRuns s = true → answers .eraseAutoResume s (fun t =>
    at_ s t { s.flash with directSusp := false, poolSusp := false })) ∧
  (∀ (s : State) (v : BitVec 32), last s v 1 → answers (.programPage v) s (starts s · v 1)) ∧
  (∀ (s : State) (v : BitVec 32), last s v 2 → answers (.eraseSector v) s (starts s · v 2)) ∧
  (∀ (s : State) (v : BitVec 32), last s v 3 → answers (.eraseSuspend v) s (fun t => only s t ∧ t.flash.done = true ∧
    t.flash.running = s.flash.running ∧ t.flash.held = ((directErase s.flash).isSome || s.flash.held))) ∧
  (∀ (s : State) (v : BitVec 32), last s v 4 → answers (.eraseResume v) s (fun t =>
    if suspended s.flash = false then refused s t
    else only s t ∧ t.flash.done = true ∧ t.flash.held = false ∧ t.flash.running = s.flash.running)) ∧
  (∀ (s : State) (v : BitVec 32), last s v 5 → answers (.readMargin v) s (starts s · v 5)) ∧
  (∀ (s : State) (v : BitVec 32), last s v 6 → answers (.blankCheck v) s (starts s · v 6)) ∧
  (∀ (s : State) (a errs : Nat) (ok : Bool), runs s 1 a → answers (.flashCommandDone ok errs) s (fun t => ends s t ∧
    (∀ m, m ≠ a / 512 → fwPage t.flash m = fwPage s.flash m) ∧ t.flash.eraseFail = s.flash.eraseFail ∧
    if ok then t.flash.progFail = s.flash.progFail ∧ fwPage t.flash (a / 512) = some (slice s.flash.progData 0 512)
    else t.flash.progFail = true ∧ pended 4 s t)) ∧
  (∀ (s : State) (a errs : Nat) (ok : Bool), runs s 2 a → answers (.flashCommandDone ok errs) s (fun t => ends s t ∧
    (∀ m, m / 32 ≠ a / 16384 → fwPage t.flash m = fwPage s.flash m) ∧ t.flash.progFail = s.flash.progFail ∧
    if ok then ∀ m, m / 32 = a / 16384 → fwPage t.flash m = none
    else t.flash.eraseFail = true ∧ pended 4 s t)) ∧
  (∀ (s : State) (a errs : Nat) (ok : Bool), runs s 5 a → answers (.flashCommandDone ok errs) s (fun t =>
    ends s t ∧ only s t ∧ t.flash.marginErrs = min 65535 errs)) ∧
  (∀ (s : State) (a errs : Nat) (ok : Bool), runs s 6 a → answers (.flashCommandDone ok errs) s (fun t =>
    ends s t ∧ only s t ∧ t.flash.blank = sectorBlank s.flash (a / 16384))) ∧
  (∀ (s : State) (a : Fin 134217728), kprRuns s = true → answers (.flashWindowRead a .clean) s (fun t =>
    t = { s with flash := t.flash, free := t.free, outs := t.outs } ∧ t.flash.fw = s.flash.fw ∧
    t.flash.pages = s.flash.pages ∧ t.flash.reads = s.flash.reads + 1 ∧
    (a.val / 16384 < 2048 → t.outs = s.outs ++ [.readReply (if xoSector s.flash (a.val / 16384) then 5 * 2 ^ 32
      else leAt (fwBytes s.flash (a.val / 512)) (a.val / 4 * 4 % 512) 4 % 2 ^ 32)]))) ∧
  (∀ (s : State) (a : Fin 134217728), kprRuns s = true → answers (.flashWindowRead a .lost) s (fun t =>
    t.outs = s.outs ++ [.readReply (5 * 2 ^ 32)] ∧ t.flash.uncorr = min 65535 (s.flash.uncorr + 1)))

/-- The pool's rotation: programming at the frontier, retirement, reclaim, margin reads and the start's scan. With the
keeper clock running. A page of the oldest waiting record that may be programmed is written at the frontier and
nowhere else, with the next STREAM_SEQ; its last page makes its copy live and the record's earlier copies dead. A
program that fails verify, or needs more than 24 pulses, retires a good frontier sector and pends FLASH_FAULT. Outside
stage 5, with fewer than 64 free sectors, RECLAIM queues a copy of each live record of the tail but the logbook's
given-up pages, then a journal page, and no page changes. The erase, not suspended and once its records are relocated,
clears exactly that sector and advances the tail, or retires a good sector after two failed checks. Outside stage 5 a
lens page that fails its margin read has its record copied. The first scan drops waiting records, completes an
unfinished erase outside stage 5, and leaves no key ACTIVE whose record is under another KEK; a later scan changes
nothing. (15_flash.md) -/
def Obligations.RotationKeepsRecords : Prop :=
  let page (s : State) (n : Nat) : Option PoolPage := poolPage s.flash n
  let rest (s t : State) : Prop := t.ops = s.ops ∧ t.units = s.units ∧ t.moor = s.moor ∧ t.policy = s.policy
  let retired (s t : State) (sec : Nat) : Prop := sec ∈ t.flash.worn ∧ (∀ x ∈ s.flash.worn, x ∈ t.flash.worn) ∧
    (∀ c, c < 4 → mget 0 (getInt s c).crossing 4 < mget 0 (getInt t c).crossing 4)
  let next (s : State) (j : PoolJob) : Prop := kprRuns s = true ∧ s.flash.jobs.find? (mayProgram s) = some j
  (∀ (s : State) (j : PoolJob) (pulses : Nat), next s j → pulses ≤ 24 →
    answers (.poolPageProgramComplete pulses true) s (fun t =>
      let n := 32 * s.flash.frontSec + s.flash.frontPage
      let inst := if j.done = 0 then s.flash.streamSeq else j.inst
      rest s t ∧
      page t n = some {
        kind := j.kind, id := j.id, page := j.done, pages := j.pages, seq := s.flash.streamSeq, inst := inst
        data := slice j.data (512 * j.done) 512
        live := decide (j.pages ≤ j.done + 1) && j.kind != 7 && j.kind != 8 } ∧
      (∀ m, m ≠ n → (page t m).isSome = (page s m).isSome ∧
        (j.kind ≠ 2 → (page t m).map PoolPage.data = (page s m).map PoolPage.data)) ∧
      (j.pages ≤ j.done + 1 → ∀ m, m / 32 < 8192 → (page t m).all (fun p =>
        !(p.kind == j.kind && p.id == j.id && p.inst != inst) || !p.live) = true) ∧
      t.flash.streamSeq = s.flash.streamSeq + 1 ∧ t.flash.worn = s.flash.worn)) ∧
  (∀ (s : State) (j : PoolJob) (pulses : Nat) (ok : Bool), next s j → goodSector s.flash s.flash.frontSec = true →
    ok = false ∨ 24 < pulses → answers (.poolPageProgramComplete pulses ok) s (fun t =>
      retired s t s.flash.frontSec ∧ rest s t)) ∧
  (∀ (s : State) (f : Flash), f = s.flash → kprRuns s = true → f.reclaim = none → freeSectors f < 64 →
    f.tail ≠ f.frontSec → flashStage s ≠ 5 → answers .reclaim s (fun t =>
      rest s t ∧ t.flash.reclaim = some f.tail ∧ t.flash.pages = f.pages ∧
      t.flash.jobs = f.jobs ++ (((liveIn f f.tail).filter fun p => p.kind != 3 || decide (logFirst s ≤ p.id)).map fun p =>
        { kind := p.kind, id := p.id, pages := p.pages, data := recordOf f p, fromSec := some f.tail }) ++
        [{ kind := 7, id := 0, pages := 1, data := journalBytes f.lastErased f.tail 0 [] }])) ∧
  (∀ (s : State) (x : Nat) (first second : Bool), kprRuns s = true → s.flash.reclaim = some x → s.flash.poolSusp = false →
    (s.flash.jobs.any fun j => j.fromSec == some x) = false → goodSector s.flash x = true →
    answers (.reclaimEraseComplete first second) s (fun t =>
      rest s t ∧ t.flash.reclaim = none ∧ t.flash.lastErased = x ∧ (∀ m, m / 32 ≠ x → page t m = page s m) ∧
      if first || second then
        t.flash.tail = nextGood s.flash x ∧ t.flash.worn = s.flash.worn ∧ ∀ m, m / 32 = x → page t m = none
      else retired s t x)) ∧
  (∀ (s : State) (n : Fin 262144) (p : PoolPage), kprRuns s = true → flashStage s ≠ 5 →
    inLens s.flash (n.val / 32) = true → page s n.val = some p → p.live = true → p.kind ≠ 3 →
    answers (.lensMarginRead n true) s (fun t => t = { s with flash := { s.flash with
      jobs := s.flash.jobs ++ [{
        kind := p.kind, id := p.id, pages := p.pages, data := recordOf s.flash p, fromSec := some (n.val / 32) }] } })) ∧
  (∀ (s : State) (n : Fin 262144), answers (.lensMarginRead n false) s (fun t => t = s)) ∧
  (∀ (s : State), kprRuns s = true → s.flash.scanned = false → answers .flashStartScan s (fun t =>
    rest s t ∧ t.flash.scanned = true ∧ t.flash.pages = s.flash.pages ∧ (∀ j ∈ t.flash.jobs, j.kind = 7) ∧
    (if flashStage s = 5 then t.flash.unfinished = s.flash.unfinished ∧ t.flash.fw = s.flash.fw
    else t.flash.unfinished = none ∧ ∀ i, i < 32 →
      (s.flash.unfinished.all fun x => fwPage t.flash (32 * x + i) == none) = true) ∧
    ∀ n, n < 65536 → (getKey t n).st = .active → s.backup.kekPresent = true ∧ (getKey t n).kekEpoch = s.backup.kekEpoch)) ∧
  (∀ (s : State), s.flash.scanned = true → answers .flashStartScan s (fun t => t = s))

/-- Arithmetic, logic, shifts, products, quotients, CMP and CSEL of the keeper cores. The keeper clock running, when a
core issues one of these instructions, its destination's address forms, its sources read as p and q, and their tags
are ones the instruction takes, it completes: the result has the value and tag of the instruction reference, the flags
are set as its Flags column says (C the carry out, or no borrow; V where the exact signed result does not fit; N and Z
of the result; FS with a SECRET result), and the result is written where the destination stands. This covers every
operand form of both profiles; the operand steps themselves are KeeperOperandsResolve's. (17_nolac_encoding.md,
16_nolac_model.md) -/
def Obligations.KeeperArithmeticComputes : Prop :=
  let join (k : KBank) (x y : KWord) (carry : Bool) : Option Tag :=
    if plainTag x.tag && plainTag y.tag then some (if x.tag = .secret ∨ y.tag = .secret ∨ (carry = true ∧ k.fs = true)
      then .secret else .int) else none
  let sumTag (k : KBank) (x y : KWord) : Option Tag :=
    if (x.tag = .addr ∧ y.tag = .int) ∨ (x.tag = .int ∧ y.tag = .addr) then some .addr
    else if x.tag = .code ∧ y.tag = .int then some .code else join k x y false
  let difTag (k : KBank) (x y : KWord) : Option Tag :=
    if x.tag = .addr ∧ y.tag = .int then some .addr else if x.tag = .addr ∧ y.tag = .addr then some .int
    else if x.tag = .code ∧ y.tag = .int then some .code else join k x y false
  let sets (r : BitVec 32) (t : Tag) (c v : Bool) : Option (KWord × Option Flags) :=
    some (⟨r, t⟩, some { n := decide (r.toInt < 0), z := decide (r = 0), c := c, v := v, fs := decide (t = .secret) })
  let sum (x y : BitVec 32) (cin : Nat) (t : Tag) : Option (KWord × Option Flags) :=
    let r := x + y + BitVec.ofNat 32 cin
    sets r t (decide (2 ^ 32 ≤ x.toNat + y.toNat + cin)) (decide (r.toInt ≠ x.toInt + y.toInt + cin))
  let dif (x y : BitVec 32) (borrow : Nat) (t : Tag) : Option (KWord × Option Flags) :=
    let r := x - y - BitVec.ofNat 32 borrow
    sets r t (decide (y.toNat + borrow ≤ x.toNat)) (decide (r.toInt ≠ x.toInt - y.toInt - borrow))
  let on (t : Option Tag) (f : Tag → Option (KWord × Option Flags)) : Option (KWord × Option Flags) :=
    match t with | none => none | some g => f g
  let bits (f : BitVec 32 → BitVec 32 → BitVec 32) (k : KBank) (x y : KWord) : Option (KWord × Option Flags) :=
    on (join k x y false) fun t => sets (f x.val y.val) t false false
  let quiet (f : BitVec 32 → BitVec 32 → BitVec 32) (k : KBank) (x y : KWord) : Option (KWord × Option Flags) :=
    on (join k x y false) fun t => some (⟨f x.val y.val, t⟩, none)
  let quot (f : BitVec 32 → BitVec 32 → BitVec 32) (k : KBank) (x y : KWord) : Option (KWord × Option Flags) :=
    on (join k x y false) fun t => some (if y.val = 0 then ⟨0, .err⟩ else ⟨f x.val y.val, t⟩, none)
  let shift (f : BitVec 32 → Nat → BitVec 32) (out : BitVec 32 → Nat → Bool) (k : KBank) (x y : KWord) :
      Option (KWord × Option Flags) :=
    let n := y.val.toNat % 32
    on (join k x y false) fun t => sets (f x.val n) t (n != 0 && out x.val n) false
  let goes (i : Instr) (s : State) (c : Fin 4) (d : Opnd) (src : List Opnd) (ok : Bool)
      (out : KBank → List KWord → Option (KWord × Option Flags)) : Prop :=
    ∀ (n : Nat) (x : Dest) (s1 s2 u : State) (ws : List KWord) (w : KWord) (f : Option Flags),
      n = wordsOf s c.val (d :: src) → mayIssue s c.val n = true → ok = true →
      evalDest c.val 4 (pcOf s c.val) d (issued s c.val n) = .ok (x, s1) →
      readAll c.val 4 (pcOf s c.val) src s1 = .ok (ws, s2) → out (bankNow s2 c.val) ws = some (w, f) →
      writeDest c.val 4 x w (match f with | some g => setFlags c.val g s2 | none => s2) = .ok u →
      answers i s (fun t => t = dropAnswers c.val u)
  let bin (i : Fin 4 → Opnd → Opnd → Opnd → Instr) (imm : BitVec 32 → Bool)
      (f : KBank → KWord → KWord → Option (KWord × Option Flags)) : Prop :=
    ∀ (s : State) (c : Fin 4) (d a b : Opnd), goes (i c d a b) s c d [a, b] (shapeOk s c.val (some d) [a, b] imm)
      (fun k ws => match ws with | [x, y] => f k x y | _ => none)
  let one (i : Fin 4 → Opnd → Opnd → Instr) (f : KBank → KWord → Option (KWord × Option Flags)) : Prop :=
    ∀ (s : State) (c : Fin 4) (d a : Opnd), goes (i c d a) s c d [a] (shapeOk s c.val (some d) [a] noImm)
      (fun k ws => match ws with | [x] => f k x | _ => none)
  bin .kAdd simm16 (fun k x y => on (sumTag k x y) (sum x.val y.val 0)) ∧
  bin .kSub simm16 (fun k x y => on (difTag k x y) (dif x.val y.val 0)) ∧
  bin .kAdc noImm (fun k x y => on (join k x y true) (sum x.val y.val (if k.c then 1 else 0))) ∧
  bin .kSbc noImm (fun k x y => on (join k x y true) (dif x.val y.val (if k.c then 0 else 1))) ∧
  bin .kAnd uimm16 (fun k x y => if x.tag = .addr ∧ y.tag = .int then sets (x.val &&& y.val) .addr false false
    else bits (· &&& ·) k x y) ∧
  bin .kOr uimm16 (bits (· ||| ·)) ∧ bin .kXor uimm16 (bits (· ^^^ ·)) ∧ bin .kMul noImm (bits (· * ·)) ∧
  one .kNot (fun k x => on (join k x x false) fun t => sets (~~~x.val) t false false) ∧
  one .kNeg (fun k x => on (join k x x false) (dif 0 x.val 0)) ∧
  bin .kShl count5 (shift (fun x n => x <<< n) fun x n => x.getLsbD (32 - n)) ∧
  bin .kShr count5 (shift (fun x n => x >>> n) fun x n => x.getLsbD (n - 1)) ∧
  bin .kSar count5 (shift (fun x n => BitVec.ofInt 32 (x.toInt / 2 ^ n)) fun x n => x.getLsbD (n - 1)) ∧
  bin .kRol count5 (shift (fun x n => x <<< n ||| x >>> (32 - n)) fun x n => x.getLsbD (32 - n)) ∧
  bin .kRor count5 (shift (fun x n => x >>> n ||| x <<< (32 - n)) fun x n => x.getLsbD (n - 1)) ∧
  bin .kMulh noImm (quiet fun x y => BitVec.ofInt 32 (x.toInt * y.toInt / 2 ^ 32)) ∧
  bin .kMulhu noImm (quiet fun x y => BitVec.ofNat 32 (x.toNat * y.toNat / 2 ^ 32)) ∧
  bin .kDiv noImm (quot fun x y => BitVec.ofInt 32 (x.toInt.tdiv y.toInt)) ∧
  bin .kDivu noImm (quot fun x y => BitVec.ofNat 32 (x.toNat / y.toNat)) ∧
  bin .kRem noImm (quot fun x y => BitVec.ofInt 32 (x.toInt.tmod y.toInt)) ∧
  bin .kRemu noImm (quot fun x y => BitVec.ofNat 32 (x.toNat % y.toNat)) ∧
  (∀ (s : State) (c : Fin 4) (d a b : Opnd) (cc : Fin 16), goes (.kCsel c d a b cc) s c d [a, b]
    (cc.val != 15 && shapeOk s c.val (some d) [a, b] noImm) (fun k ws => match ws with
      | [x, y] =>
        let r := if condHolds k cc.val then x else y
        if k.fs then (if plainTag x.tag && plainTag y.tag then some (⟨r.val, .secret⟩, none) else none)
        else if x.tag = .err ∨ y.tag = .err then none else some (r, none)
      | _ => none)) ∧
  (∀ (s : State) (c : Fin 4) (a b : Opnd) (n : Nat) (x y : KWord) (s2 : State), n = wordsOf s c.val [a, b] →
    mayIssue s c.val n = true → shapeOk s c.val none [a, b] simm16 = true →
    readAll c.val 4 (pcOf s c.val) [a, b] (issued s c.val n) = .ok ([x, y], s2) → cmpTag x.tag = true → cmpTag y.tag = true →
    answers (.kCmp c a b) s (fun t => ∀ w f, dif x.val y.val 0 .int = some (w, some f) → t = dropAnswers c.val (setFlags c.val f s2)))

/-- Moves, loads, stores, addresses and atomic instructions of the keeper cores. The keeper clock running, when a core
issues one of these and its operand steps succeed, it completes. MOV, LD and ST carry the word with its tag; the
narrow forms carry 2 or 1 bytes. MOVI gives the immediate tagged INT; L-profile MOVI.H replaces the high half of an
INT or SECRET register. LEA gives the effective address tagged ADDR, or CODE for a PC-relative one, and LEAPC the
instruction's address plus the offset under the tag named. LDX loads and sets the reservation on its granule. STX
stores and sets Z where the core holds that reservation, else stores nothing and clears Z, and ends it either way. TAS
gives the old INT word, stores 1 and sets Z where it was 0. (17_nolac_encoding.md, 16_nolac_model.md) -/
def Obligations.KeeperMovesComplete : Prop :=
  let at_ (s : State) (c : Fin 4) (n : Nat) (ok : Bool) : Prop := mayIssue s c.val n = true ∧ ok = true
  let done (i : Instr) (s : State) (c : Fin 4) (u : State) : Prop := answers i s (fun t => t = dropAnswers c.val u)
  let carries (i : Instr) (s : State) (c : Fin 4) (size n : Nat) (ok : Bool) (d a : Opnd) : Prop :=
    ∀ (x : Dest) (w : KWord) (s1 s2 u : State), at_ s c n ok →
      evalDest c.val size (pcOf s c.val) d (issued s c.val n) = .ok (x, s1) →
      readOp c.val size (pcOf s c.val) a s1 = .ok (w, s2) → writeDest c.val size x w s2 = .ok u → done i s c u
  let stores (i : Instr) (s : State) (c : Fin 4) (size : Nat) (ok : Bool) (r ea : Opnd) : Prop :=
    ∀ (x : Dest) (w : KWord) (s1 s2 u : State), at_ s c 1 ok →
      readOp c.val size (pcOf s c.val) r (issued s c.val 1) = .ok (w, s1) →
      evalDest c.val size (pcOf s c.val) ea s1 = .ok (x, s2) → writeDest c.val size x w s2 = .ok u → done i s c u
  let places (i : Instr) (s : State) (c : Fin 4) (n : Nat) (ok : Bool) (d : Opnd) (w : KWord) : Prop :=
    ∀ (x : Dest) (s1 u : State), at_ s c n ok → evalDest c.val 4 (pcOf s c.val) d (issued s c.val n) = .ok (x, s1) →
      writeDest c.val 4 x w s1 = .ok u → done i s c u
  let zset (c : Fin 4) (z : Bool) (s : State) : State :=
    setFlags c.val { n := false, z := z, c := false, v := false, fs := false } s
  (∀ (s : State) (c : Fin 4) (d a : Opnd),
    carries (.kMov c d a) s c 4 (wordsOf s c.val [d, a]) (shapeOk s c.val (some d) [a] noImm) d a ∧
    carries (.kLd c d a) s c 4 (wordsOf s c.val [d, a])
      (if isM s c.val then a.isMem && shapeOk s c.val (some d) [a] noImm else lLoadOk d a) d a ∧
    (isM s c.val = true → carries (.kSt c d a) s c 4 (wordsOf s c.val [a, d])
      (a.isMem && shapeOk s c.val (some a) [d] noImm) a d) ∧
    (isM s c.val = false → stores (.kSt c d a) s c 4 (lLoadOk d a) d a)) ∧
  (∀ (s : State) (c : Fin 4) (byte : Bool) (d a : Opnd),
    (isM s c.val = true → carries (.kMovH c byte d a) s c (if byte then 1 else 2) (wordsOf s c.val [d, a])
      (shapeOk s c.val (some d) [a] noImm) d a) ∧
    (isM s c.val = false → d.isMem = false →
      carries (.kMovH c byte d a) s c (if byte then 1 else 2) 1 (lLoadOk d a) d a) ∧
    (isM s c.val = false → d.isMem = true → stores (.kMovH c byte d a) s c (if byte then 1 else 2) (lLoadOk a d) a d)) ∧
  (∀ (s : State) (c : Fin 4) (d : Opnd) (v : BitVec 32),
    places (.kMovi c d v) s c (wordsOf s c.val [d, .imm v]) (shapeOk s c.val (some d) [.imm v] simm16) d ⟨v, .int⟩) ∧
  (∀ (s : State) (c : Fin 4) (d : Opnd) (v : BitVec 16) (w : KWord) (u : State), at_ s c 1 (!isM s c.val && d.isReg) →
    readOp c.val 4 (pcOf s c.val) d (issued s c.val 1) = .ok (w, issued s c.val 1) → w.tag = .int ∨ w.tag = .secret →
    writeDest c.val 4 (regDest d) ⟨BitVec.ofNat 32 (v.toNat * 65536 + w.val.toNat % 65536), w.tag⟩
      (issued s c.val 1) = .ok u → done (.kMoviH c d v) s c u) ∧
  (∀ (s : State) (c : Fin 4) (d ea : Opnd) (n : Nat) (x : Dest) (e : BitVec 32) (s1 s2 u : State),
    at_ s c n (leaOk (isM s c.val) ea && if isM s c.val then d.mOk && d.destOk && mShape [d, ea] else d.isReg) →
    n = wordsOf s c.val [d, ea] → evalDest c.val 4 (pcOf s c.val) d (issued s c.val n) = .ok (x, s1) →
    formEa c.val 4 (pcOf s c.val) ea s1 = .ok (e, s2) →
    writeDest c.val 4 x ⟨e, match ea with | .pcrel _ => .code | _ => .addr⟩ s2 = .ok u →
    done (.kLea c d ea) s c u) ∧
  (∀ (s : State) (c : Fin 4) (d : Opnd) (off : BitVec 32) (data : Bool),
    places (.kLeapc c d off data) s c (wordsOf s c.val [d, .pcrel off])
      (if isM s c.val then d.mOk && d.destOk && mShape [d, .pcrel off] else d.isReg && fits 20 off) d
      ⟨pcOf s c.val + off, if data then .addr else .code⟩) ∧
  (∀ (s : State) (c : Fin 4) (r ea : Opnd) (n a : Nat) (s1 : State), at_ s c n (atomicOk s c.val r ea) →
    n = wordsOf s c.val [r, ea] → atomicEa c.val (pcOf s c.val) ea (issued s c.val n) = .ok (a, s1) →
    (∀ w s2 u, kLoad c.val a 4 s1 = .ok (w, s2) →
      writeDest c.val 4 (regDest r) w (modCore c.val (fun k => { k with resv := some (a / 16) }) s2) = .ok u →
      done (.kLdx c r ea) s c u) ∧
    (∀ w s2 u, kLoad c.val a 4 s1 = .ok (w, s2) → w.tag = .int →
      mpuCheck (getMpu s2 c.val) (ringOf s2 c.val) a .write = .ok () →
      writeDest c.val 4 (regDest r) w (memStore c.val a 4 ⟨1, .int⟩ s2) = .ok u →
      done (.kTas c r ea) s c (zset c (decide (w.val = 0)) u))) ∧
  (∀ (s : State) (c : Fin 4) (r ea : Opnd) (n a : Nat) (w : KWord) (s1 s2 : State), at_ s c n (atomicOk s c.val r ea) →
    n = wordsOf s c.val [r, ea] → readOp c.val 4 (pcOf s c.val) r (issued s c.val n) = .ok (w, s1) →
    atomicEa c.val (pcOf s c.val) ea s1 = .ok (a, s2) → storeTags s2 c.val a 4 w = .ok () →
    mpuCheck (getMpu s2 c.val) (ringOf s2 c.val) a .write = .ok () →
    done (.kStx c r ea) s c (if (getCore s2 c.val).resv = some (a / 16)
      then zset c true (modCore c.val (fun k => { k with resv := none }) (memStore c.val a 4 w (drainFor c.val a s2)))
      else zset c false (modCore c.val (fun k => { k with resv := none }) s2)))

/-- Operand addresses, and loads and stores of the keeper memories. The effective address of each memory form is as R431
and R436 give it, with post-increment and pre-decrement moving only their base. While the MPU is off, a word load in
ring 0 of SRAM gives the word with its tag, and a word store puts the word there and changes no other word of any
memory; a narrow load zero-extends its bytes, and a narrow store changes only its bytes and takes the more restrictive
tag. A base that is not ADDR, an index that is not INT, a tag that a narrow access does not admit, a misaligned or
unmapped address, and a ring above 0 while the MPU is off raise the fault that the tables name. (16_nolac_model.md,
17_nolac_encoding.md, 19_interrupts_mpu.md) -/
def Obligations.KeeperMemoryKeepsTags : Prop :=
  let base (s : State) (c : Nat) (a : Fin 8) (b : BitVec 32) : Prop := (bankNow s c).getA a.val = ⟨b, .addr⟩
  let free (s : State) (c a : Nat) : Prop :=
    (getMpu s c).en = false ∧ (getMpu s c).buf = [] ∧ ringOf s c = 0 ∧ inSram a = true
  let word (s : State) (c a : Nat) : KWord := match locate a with | some l => memWord s c l | none => {}
  (∀ (s : State) (c size : Nat) (pc b x : BitVec 32) (a : Fin 8) (i : Fin 16) (sc : Fin 4) (v : BitVec 32), base s c a b →
    formEa c size pc (.ind a) s = .ok (b, s) ∧ formEa c size pc (.disp a v) s = .ok (b + v, s) ∧
    formEa c size pc (.post a) s = .ok (b, setBankA c a.val ⟨b + BitVec.ofNat 32 size, .addr⟩ s) ∧
    formEa c size pc (.pre a) s = .ok (b - BitVec.ofNat 32 size, setBankA c a.val ⟨b - BitVec.ofNat 32 size, .addr⟩ s) ∧
    ((bankNow s c).getD i.val = ⟨x, .int⟩ →
      formEa c size pc (.idx a i sc v) s = .ok (b + x * BitVec.ofNat 32 (2 ^ sc.val) + v, s)) ∧
    (((bankNow s c).getD i.val).tag ≠ .int → formEa c size pc (.idx a i sc v) s =
      .error (.exc ⟨3, ((bankNow s c).getD i.val).tag.num, none⟩)) ∧
    formEa c size pc (.abs v) s = .ok (v, s) ∧ formEa c size pc (.pcrel v) s = .ok (pc + v, s)) ∧
  (∀ (s : State) (c size : Nat) (pc : BitVec 32) (a : Fin 8) (v w : BitVec 32) (i : Fin 16) (sc : Fin 4),
    ((bankNow s c).getA a.val).tag ≠ .addr → ∀ o, o ∈ [Opnd.ind a, .post a, .pre a, .disp a v, .idx a i sc v, .memInd a v w] →
      formEa c size pc o s = .error (.exc ⟨3, ((bankNow s c).getA a.val).tag.num, none⟩)) ∧
  (∀ (s : State) (c : Fin 4) (a : Nat), free s c.val a → a % 4 = 0 →
    kLoad c.val a 4 s = .ok (word s c.val a, s) ∧
    ∀ w : KWord, ∃ t, kStore c.val a 4 w s = .ok t ∧ word t c.val a = w ∧
      (∀ (e : Fin 4) (b : Nat), inSram b = true → (b / 4 ≠ a / 4 ∨ (e ≠ c ∧ a < 0x40000)) → word t e.val b = word s e.val b) ∧
      t.keeper.dram = s.keeper.dram ∧ t = { s with keeper := t.keeper }) ∧
  (∀ (s : State) (c : Fin 4) (a size : Nat), free s c.val a → (size = 1 ∨ size = 2) → a % size = 0 →
    let old := word s c.val a
    ((old.tag = .int ∨ old.tag = .secret ∨ old.tag = .err) → ∃ r, kLoad c.val a size s = .ok (r, s) ∧ r.tag = old.tag ∧
      r.val.toNat = old.val.toNat / 2 ^ (8 * (a % 4)) % 2 ^ (8 * size)) ∧
    (old.tag ≠ .int → old.tag ≠ .secret → old.tag ≠ .err →
      kLoad c.val a size s = .error (.exc ⟨3, old.tag.num, some a⟩)) ∧
    ∀ w : KWord, (w.tag = .int ∨ w.tag = .secret) → (old.tag = .int ∨ old.tag = .secret) →
      ∃ t, kStore c.val a size w s = .ok t ∧
        (word t c.val a).tag = (if w.tag = .secret ∨ old.tag = .secret then .secret else .int) ∧
        ∀ i, i < 4 → (word t c.val a).val.toNat / 2 ^ (8 * i) % 256 =
          if a % 4 ≤ i ∧ i < a % 4 + size then w.val.toNat / 2 ^ (8 * (i - a % 4)) % 256 else old.val.toNat / 2 ^ (8 * i) % 256) ∧
  (∀ (s : State) (c : Fin 4) (a size : Nat), 0 < size → (a % size ≠ 0 ∨ locate a = none) → isReg a = false →
    kLoad c.val a size s = .error (.exc ⟨7, 0, some a⟩)) ∧
  (∀ (s : State) (c : Fin 4) (a : Nat), (getMpu s c.val).en = false → ringOf s c.val ≠ 0 → inSram a = true → a % 4 = 0 →
    kLoad c.val a 4 s = .error (.exc ⟨9, 0, some a⟩))

/-- Accumulator and tag instructions of the keeper cores. The keeper clock running, on INT and SECRET operands, and an
accumulator that is not ERR, MACQ and MACQS add the 64-bit product, ADDQ and ADDQS the word, modulo 2^68; SHQL, SHQR
and SHQA shift the 68 bits by an INT count below 128; MOVQ.TL and TH replace a half; the tag is the most restrictive;
nothing else changes beyond the operand steps and the used answers of a stalled RNG read. MOVQ.L, .H and .G give the
part of an accumulator that is not ERR, under its tag. CLRQ clears. TAGR gives the tag's number tagged INT, TAGW in
ring 0 the value under a defined tag, TCHK passes the tag it names, and DECLASS in rings 0 and 1 turns SECRET into
INT. (17_nolac_encoding.md, 16_nolac_model.md) -/
def Obligations.KeeperAccumulatorsAndTags : Prop :=
  let done (i : Instr) (s : State) (c : Fin 4) (u : State) : Prop := answers i s (fun t => t = dropAnswers c.val u)
  let tagOf_ (a : Acc) (ws : List KWord) : Tag := if a.tag = .secret ∨ ws.any (fun w => w.tag == .secret) = true then .secret else .int
  let acc (i : Fin 4 → Opnd → List Opnd → Instr) (k : Nat) (f : BitVec 68 → List (BitVec 32) → Nat) : Prop :=
    ∀ (s : State) (c q : Fin 4) (src : List Opnd) (n : Nat) (ws : List KWord) (s1 : State), src.length = k →
      n = wordsOf s c.val src → mayIssue s c.val n = true → accOk s c.val none src = true →
      readAll c.val 4 (pcOf s c.val) src (issued s c.val n) = .ok (ws, s1) → (ws.all fun w => plainTag w.tag) = true →
      plainTag (getAcc s1 c.val q.val).tag = true →
      done (i c (.q q) src) s c (setAcc c.val q.val ⟨BitVec.ofNat 68 (f (getAcc s1 c.val q.val).val (ws.map KWord.val)),
        tagOf_ (getAcc s1 c.val q.val) ws⟩ s1)
  let two (i : Fin 4 → Opnd → Opnd → Opnd → Instr) (c : Fin 4) (q : Opnd) (l : List Opnd) : Instr :=
    match l with | [a, b] => i c q a b | _ => i c q q q
  let one (i : Fin 4 → Opnd → Opnd → Instr) (c : Fin 4) (q : Opnd) (l : List Opnd) : Instr :=
    match l with | [a] => i c q a | _ => i c q q
  let wrap (z : Int) : Nat := (z % 2 ^ 68).toNat
  let prod (f : BitVec 32 → Int) (x : BitVec 68) (l : List (BitVec 32)) : Nat :=
    match l with | [a, b] => wrap (x.toNat + f a * f b) | _ => 0
  let part (i : Fin 4 → Opnd → Opnd → Instr) (lo n : Nat) : Prop :=
    ∀ (s : State) (c q : Fin 4) (d : Opnd) (w : Nat) (x : Dest) (s1 u : State), w = wordsOf s c.val [d] →
      mayIssue s c.val w = true → accOk s c.val (some d) [] = true →
      evalDest c.val 4 (pcOf s c.val) d (issued s c.val w) = .ok (x, s1) → (getAcc s1 c.val q.val).tag ≠ .err →
      writeDest c.val 4 x ⟨BitVec.ofNat 32 ((getAcc s1 c.val q.val).val.toNat / 2 ^ lo % 2 ^ n), (getAcc s1 c.val q.val).tag⟩ s1
        = .ok u → done (i c d (.q q)) s c u
  let shl_ (x : BitVec 68) (n : Nat) : Nat := x.toNat * 2 ^ n % 2 ^ 68
  let count (i : Fin 4 → Opnd → Opnd → Instr) (f : BitVec 68 → Nat → Nat) : Prop :=
    ∀ (s : State) (c q : Fin 4) (b : Opnd) (n : Nat) (w : KWord) (s1 : State), n = wordsOf s c.val [b] →
      mayIssue s c.val n = true → accOk s c.val none [b] = true →
      readAll c.val 4 (pcOf s c.val) [b] (issued s c.val n) = .ok ([w], s1) → w.tag = .int →
      plainTag (getAcc s1 c.val q.val).tag = true →
      done (i c (.q q) b) s c (setAcc c.val q.val ⟨BitVec.ofNat 68
        (f (getAcc s1 c.val q.val).val (w.val.toNat % 128)), (getAcc s1 c.val q.val).tag⟩ s1)
  let tagged (i : Fin 4 → Opnd → Opnd → Instr) (ok : Nat → KWord → Bool) (f : KWord → KWord) : Prop :=
    ∀ (s : State) (c : Fin 4) (d a : Opnd) (n : Nat) (x : Dest) (w : KWord) (s1 s2 u : State), n = wordsOf s c.val [d, a] →
      mayIssue s c.val n = true → shapeOk s c.val (some d) [a] noImm = true →
      evalDest c.val 4 (pcOf s c.val) d (issued s c.val n) = .ok (x, s1) →
      readOp c.val 4 (pcOf s c.val) a s1 = .ok (w, s2) → ok (ringOf s c.val) w = true →
      writeDest c.val 4 x (f w) s2 = .ok u → done (i c d a) s c u
  acc (two .kMacq) 2 (prod fun a => a.toNat) ∧ acc (two .kMacqs) 2 (prod fun a => a.toInt) ∧
  acc (one .kAddq) 1 (fun x l => match l with | [a] => wrap (x.toNat + a.toNat) | _ => 0) ∧
  acc (one .kAddqs) 1 (fun x l => match l with | [a] => wrap (x.toNat + a.toInt) | _ => 0) ∧
  acc (one .kMovqTl) 1 (fun x l => match l with | [a] => x.toNat / 2 ^ 32 * 2 ^ 32 + a.toNat | _ => 0) ∧
  acc (one .kMovqTh) 1 (fun x l => match l with
    | [a] => x.toNat / 2 ^ 64 * 2 ^ 64 + a.toNat * 2 ^ 32 + x.toNat % 2 ^ 32 | _ => 0) ∧
  count .kShql shl_ ∧ count .kShqr (fun x n => x.toNat / 2 ^ n) ∧ count .kShqa (fun x n => wrap (x.toInt / 2 ^ n)) ∧
  part .kMovqL 0 32 ∧ part .kMovqH 32 32 ∧ part .kMovqG 64 4 ∧
  (∀ (s : State) (c q : Fin 4), mayIssue s c.val 1 = true →
    done (.kClrq c (.q q)) s c (setAcc c.val q.val ⟨0, .int⟩ (issued s c.val 1))) ∧
  tagged .kTagr (fun _ _ => true) (fun w => ⟨BitVec.ofNat 32 w.tag.num, .int⟩) ∧
  (∀ (g : Fin 16) (k : Tag), tagOf g.val = some k →
    tagged (fun c d a => .kTagw c d a g) (fun r w => r == 0 && w.tag != .err) (fun w => ⟨w.val, k⟩)) ∧
  tagged .kDeclass (fun r w => r < 2 && w.tag != .err) (fun w => ⟨w.val, if w.tag = .secret then .int else w.tag⟩) ∧
  (∀ (s : State) (c : Fin 4) (a : Opnd) (g : Fin 16) (n : Nat) (w : KWord) (s1 : State), n = wordsOf s c.val [a] →
    mayIssue s c.val n = true → shapeOk s c.val none [a] noImm = true →
    readOp c.val 4 (pcOf s c.val) a (issued s c.val n) = .ok (w, s1) → w.tag.num = g.val →
    done (.kTchk c a g) s c s1)

/-- The opcode byte takes the M column's values alone, and worked words of both profiles. An instruction's opcode byte is
one of the values of R432's M column, with the conditional ones for COND 0 to 14; each of these values is the byte of
some instruction, and no instruction has another, which is so reserved. The words of MOVI, LD with post-increment,
XOR, SUBI, BNE, DECLASS and CMPI of the L profile, and of MOV, XOR, BNE, DECLASS and CMP of the M profile, are those
worked out from the encoding tables. (R435) -/
def Obligations.OpcodeBytesAreTheTables : Prop :=
  let values : List Nat := [1, 2, 3, 4, 5, 8, 9, 10] ++ (List.range 15).map (0x10 + ·) ++ (List.range 7).map (0x20 + ·) ++
    (List.range 7).map (0x28 + ·) ++ (List.range 6).map (0x30 + ·) ++ (List.range 4).map (0x38 + ·) ++
    (List.range 15).map (0x40 + ·) ++ (List.range 15).map (0x50 + ·) ++ (List.range 11).map (0x60 + ·) ++
    (List.range 6).map (0x70 + ·)
  (∀ (i : Instr) (b : Nat), opc8 i = some b → b ∈ values) ∧
  (∀ b ∈ values, ∃ i, opc8 i = some b) ∧
  (∀ c : Fin 4, lWord (.kMovi c (.d 0) 0) = some 0x08000000 ∧ lWord (.kLd c (.d 1) (.post 0)) = some 0x14204000 ∧
    lWord (.kXor c (.d 1) (.d 1) (.d 2)) = some 0x40211006 ∧ lWord (.kSub c (.d 3) (.d 3) (.imm 1)) = some 0x48630001 ∧
    lWord (.kBcc c 1 (.pcrel 0xFFFFFFEC)) = some 0x807FFFFB ∧ lWord (.kDeclass c (.d 0) (.d 0)) = some 0x64000003 ∧
    lWord (.kCmp c (.d 0) (.imm 0)) = some 0x58000000) ∧
  (∀ c : Fin 4, mWords (.kMov c (.d 0) (.imm 0)) = some [0x010030F0, 0] ∧
    mWords (.kXor c (.d 1) (.post 0) (.post 1)) = some [0x16015051] ∧
    mWords (.kBcc c 1 (.pcrel 0xFFFFFFF0)) = some [0x41A0F0F0, 0xFFFFFFF0] ∧
    mWords (.kDeclass c (.d 0) (.d 0)) = some [0x3B0000F0] ∧ mWords (.kCmp c (.d 0) (.imm 0)) = some [0x1E0030F0, 0])

/-- Branches, calls, gates, traps, returns, waits and fences of the keeper cores. The keeper clock running, when a core
issues one of these: Bcc with a condition over flags that do not depend on a secret goes to its target, or on to the
next instruction; BR always goes. CALL, with room, writes the return address to A6 and pushes it; RET goes back where
A6 and the top entry agree. CALLG outside a handler, through a gate that admits the ring and with room, pushes the
frame and return entries and enters the gate's ring, at its address and, where it switches, on its stack; RETX outside
a handler undoes exactly such a frame. TRAP enters with cause 0x02 and the code. RETX in a handler returns to the bank
and address that entry saved, or locks up where the saved ring is more privileged than ENTRY_RING. Every RETX that
returns ends the reservation. WAIT in rings 0 and 1 stops the core; FENCE, and FENCE.I in rings 0 and 1, leave no
store buffered. (18_rings_exceptions.md, 17_nolac_encoding.md) -/
def Obligations.KeeperControlFlows : Prop :=
  let stepped (s : State) (c : Fin 4) (n : Nat) : Core :=
    { getCore s c.val with pc := pcOf s c.val + BitVec.ofNat 32 (4 * n), step := false }
  let core (s t : State) (c : Fin 4) (k : Core) : Prop := t = dropAnswers c.val (setCore c.val k s)
  let goes (s t : State) (c : Fin 4) (n : Nat) (cc : Nat) (a : BitVec 32) : Prop :=
    core s t c { stepped s c n with pc := if condHolds (bankNow s c.val) cc then a else (stepped s c n).pc }
  let target (s : State) (c : Fin 4) (tgt : Opnd) (n : Nat) (ok : Bool) : Prop :=
    n = wordsOf s c.val [tgt] ∧ mayIssue s c.val n = true ∧ ok = true
  let enters (u t : State) (c : Fin 4) (i : Nat) : Prop :=
    let k := getCore t c.val
    let w1 := (getCore u c.val).gate i 1
    let r := w1.toNat % 4
    let p := (getCore u c.val).part r
    core u t c k ∧ k.pc = (getCore u c.val).gate i 0 ∧ k.bank.ring = r ∧ k.part r = { p with top := p.top + 2 } ∧
    k.entry (p.top + 1) = ((pcOf u c.val &&& 0xFFFFFFFC) ||| 1) ∧
    k.bank.d = (bankNow u c.val).d ∧ k.bank.ie = (bankNow u c.val).ie ∧ k.bank.fs = (bankNow u c.val).fs ∧
    if nbit w1.toNat 8 = true ∧ ringOf u c.val ≠ r then k.bank.getA 7 = ⟨(getCore u c.val).gate i 2, .addr⟩ ∧
      k.entry p.top = ((((bankNow u c.val).getA 7).val &&& 0xFFFFFFF0) ||| BitVec.ofNat 32 (4 * ringOf u c.val + 3))
    else k.bank.a = (bankNow u c.val).a ∧ k.entry p.top = BitVec.ofNat 32 (4 * ringOf u c.val + 2)
  let admits (u : State) (c : Fin 4) (i : Nat) : Prop :=
    let w1 := ((getCore u c.val).gate i 1).toNat
    let a7 := (bankNow u c.val).getA 7
    (getCore u c.val).sb = false ∧ nbit w1 31 = true ∧ nbit w1 (4 + ringOf u c.val) = true ∧
    ((getCore u c.val).part (w1 % 4)).top + 2 ≤ ((getCore u c.val).part (w1 % 4)).fin ∧
    (nbit w1 8 = true → ringOf u c.val ≠ w1 % 4 → a7.tag = .addr ∧ a7.val.toNat % 16 = 0)
  (∀ (s : State) (c : Fin 4) (cc : Fin 16) (tgt : Opnd) (n : Nat) (a : BitVec 32), cc.val ≠ 15 →
    target s c tgt n (if isM s c.val then mTarget tgt else lLabel 22 tgt) →
    targetOf c.val (pcOf s c.val) tgt (issued s c.val n) = .ok a → cc.val = 14 ∨ (bankNow s c.val).fs = false →
    answers (.kBcc c cc tgt) s (fun t => goes s t c n cc.val a)) ∧
  (∀ (s : State) (c : Fin 4) (tgt : Opnd) (n : Nat) (a : BitVec 32),
    target s c tgt n (if isM s c.val then mTarget tgt else lLabel 22 tgt || tgt.isReg) →
    targetOf c.val (pcOf s c.val) tgt (issued s c.val n) = .ok a →
    answers (.kBr c tgt) s (fun t => goes s t c n 14 a)) ∧
  (∀ (s : State) (c : Fin 4) (tgt : Opnd) (n : Nat) (a : BitVec 32) (p : Sstk),
    target s c tgt n (if isM s c.val then mTarget tgt else lLabel 26 tgt || tgt.isReg) →
    targetOf c.val (pcOf s c.val) tgt (issued s c.val n) = .ok a → p = (getCore s c.val).part (ringOf s c.val) → p.top < p.fin →
    answers (.kCall c tgt) s (fun t => core s t c (({
      ((stepped s c n).setBank ((bankNow s c.val).setA 6 ⟨(stepped s c n).pc, .code⟩)) with
      pc := a, sstk := mset 0 (getCore s c.val).sstk p.top ((stepped s c n).pc &&& 0xFFFFFFFC) }).setPart (ringOf s c.val)
        { p with top := p.top + 1 }))) ∧
  (∀ (s : State) (c : Fin 4) (p : Sstk) (w : BitVec 32), mayIssue s c.val 1 = true →
    p = (getCore s c.val).part (ringOf s c.val) → p.base < p.top → w = (getCore s c.val).entry (p.top - 1) → w.toNat % 4 = 0 →
    (bankNow s c.val).getA 6 = ⟨w, .code⟩ →
    answers (.kRet c) s (fun t => core s t c (({ stepped s c 1 with pc := w }).setPart (ringOf s c.val)
      { p with top := p.top - 1 }))) ∧
  (∀ (s : State) (c : Fin 4) (v : BitVec 32) (n : Nat), n = wordsOf s c.val [.imm v] → mayIssue s c.val n = true →
    v.toNat < 256 → admits (issued s c.val n) c v.toNat →
    answers (.kCallg c (.imm v)) s (fun t => enters (issued s c.val n) t c v.toNat)) ∧
  (∀ (s : State) (c : Fin 4) (g : Opnd) (n : Nat) (w : KWord) (u : State), n = wordsOf s c.val [g] →
    mayIssue s c.val n = true → (if isM s c.val then g.mOk else g.isReg) = true →
    readOp c.val 4 (pcOf s c.val) g (issued s c.val n) = .ok (w, u) → w.tag = .gate → admits u c (w.val.toNat % 256) →
    answers (.kCallg c g) s (fun t => enters u t c (w.val.toNat % 256))) ∧
  (∀ (s : State) (c : Fin 4) (p : Sstk) (e f : BitVec 32), mayIssue s c.val 1 = true → (getCore s c.val).sb = false →
    p = (getCore s c.val).part (ringOf s c.val) → p.base + 2 ≤ p.top → e = (getCore s c.val).entry (p.top - 1) →
    f = (getCore s c.val).entry (p.top - 2) → e.toNat % 4 = 1 → 2 ≤ f.toNat % 4 →
    answers (.kRetx c) s (fun t =>
      let k := getCore t c.val
      core s t c k ∧ k.pc = (e &&& 0xFFFFFFFC) ∧ k.bank.ring = f.toNat / 4 % 4 ∧ k.resv = none ∧
      k.part (ringOf s c.val) = { p with top := p.top - 2 } ∧ k.bank.d = (bankNow s c.val).d ∧
      if f.toNat % 4 = 3 then k.bank.getA 7 = ⟨f &&& 0xFFFFFFF0, .addr⟩ else k.bank.a = (bankNow s c.val).a)) ∧
  (∀ (s : State) (c : Fin 4), mayIssue s c.val 1 = true → (getCore s c.val).sb = true →
    ((getCore s c.val).shadow.getA 6).tag = .code → answers (.kRetx c) s (fun t =>
      if (getCore s c.val).main.ring < (getCore s c.val).entryRing then
        (coreUnit t c.val).st = .faulted ∧ (coreUnit t c.val).cause = 0xC1
      else core s t c { stepped s c 1 with sb := false, pc := ((getCore s c.val).shadow.getA 6).val, resv := none })) ∧
  (∀ (s : State) (c : Fin 4) (code : Fin 256) (n : Nat), n = wordsOf s c.val [.imm 0] → mayIssue s c.val n = true →
    answers (.kTrap c code) s (fun t =>
      t = dropAnswers c.val (excEntry c.val ⟨2, code.val, none⟩ (stepped s c n).pc (issued s c.val n)))) ∧
  (∀ (s : State) (c : Fin 4), mayIssue s c.val 1 = true → answers (.kFence c) s (fun t =>
    (getMpu t c.val).buf = [] ∧ t = dropAnswers c.val (drainAll c.val (issued s c.val 1)))) ∧
  (∀ (s : State) (c : Fin 4), mayIssue s c.val 1 = true → ringOf s c.val < 2 → answers (.kFenceI c) s (fun t =>
    (getMpu t c.val).buf = [] ∧ t = dropAnswers c.val (drainAll c.val (issued s c.val 1)))) ∧
  (∀ (s : State) (c : Fin 4), mayIssue s c.val 1 = true → ringOf s c.val < 2 → answers (.kWait c) s (fun t =>
    core s t c { stepped s c 1 with waiting := true }))

/-- MFS, MTS and XB. The keeper clock running, when a core issues one of these: MFS of a register that the ring may read
gives its value, tagged CODE for PC and VECBASE, SECRET for ST while FS is 1 and INT otherwise. MTS of a register that
the ring may write, from a word that is not ERR, sets exactly that register: the flags of ST with FS set by a SECRET
word, IE from rings 0 and 1 alone and never RING; VECBASE from a CODE word; PROG but for its RSV bit; the gate
selector but for word 3, and the gate word selected under its tag rule; the shadow-stack selector up to 515, and the
entry or descriptor selected, a descriptor only where BASE, TOP and END stand in order. A ring that may not write, or
not read into a register, raises the privilege fault with the register's number. XB in ring 0 of a handler gives the
interrupted bank's register. (16_nolac_model.md, 17_nolac_encoding.md, 18_rings_exceptions.md) -/
def Obligations.KeeperSystemRegisters : Prop :=
  let done (s t : State) (c : Fin 4) : Prop := t = dropAnswers c.val s
  let refused (s t : State) (c : Fin 4) (n : Nat) : Prop := t = dropAnswers c.val (excEntry c.val ⟨5, n, none⟩ (pcOf s c.val)
    (modCore c.val (fun k => { k with step := false }) s))
  let read (s : State) (c : Fin 4) (n : Nat) (v : Nat) (g : Tag) : Prop :=
    (sysRead s c.val (pcOf s c.val) n).1 = ⟨BitVec.ofNat 32 v, g⟩
  let sets (r : Core) (i : Nat) (v : BitVec 32) : Except Stop Core :=
    .ok { r with gates := mset 0 r.gates (4 * (r.gateSel % 256) + i) v }
  (∀ (s : State) (c : Fin 4) (d : Opnd) (n : Fin 256) (w : Nat) (x : Dest) (s1 u : State), w = wordsOf s c.val [d, .imm 0] →
    mayIssue s c.val w = true → shapeOk s c.val (some d) [.imm 0] (fun _ => true) = true →
    sysReadable n.val (ringOf s c.val) = true → evalDest c.val 4 (pcOf s c.val) d (issued s c.val w) = .ok (x, s1) →
    writeDest c.val 4 x (sysRead s1 c.val (pcOf s c.val) n.val).1 (sysRead s1 c.val (pcOf s c.val) n.val).2 = .ok u →
    answers (.kMfs c d n) s (fun t => done u t c)) ∧
  (∀ (s : State) (c : Fin 4) (r : Core), r = getCore s c.val →
    read s c 0 (pcOf s c.val).toNat .code ∧ read s c 2 r.vecbase.val.toNat .code ∧ read s c 4 r.addrFault .int ∧
    read s c 5 r.entryRing .int ∧ read s c 7 c.val .int ∧ read s c 8 (if r.profileM then 1 else 0) .int ∧
    read s c 11 s.tick .int ∧
    (sysRead s c.val (pcOf s c.val) 1).1.tag = (if (bankNow s c.val).fs then .secret else .int)) ∧
  (∀ (s : State) (c : Fin 4) (a : Opnd) (n : Fin 256) (w : Nat) (v : KWord) (s1 : State) (r : Core),
    w = wordsOf s c.val [.imm 0, a] → mayIssue s c.val w = true → shapeOk s c.val none [a] noImm = true →
    sysWritable n.val (ringOf s c.val) = true → readOp c.val 4 (pcOf s c.val) a (issued s c.val w) = .ok (v, s1) →
    v.tag ≠ .err → (getCore s1 c.val).sysWrite n.val v = .ok r →
    answers (.kMts c n a) s (fun t => done (setCore c.val r s1) t c)) ∧
  (∀ (r : Core) (w : KWord), r.sysWrite 1 w = .ok (r.setBank { r.bank with
    c := nbit w.val.toNat 0, v := nbit w.val.toNat 1, z := nbit w.val.toNat 2, n := nbit w.val.toNat 3
    fs := nbit w.val.toNat 4 || w.tag == .secret, ie := if r.bank.ring < 2 then nbit w.val.toNat 5 else r.bank.ie })) ∧
  (∀ (r : Core) (w : KWord),
    r.sysWrite 2 w = if w.tag = .code then .ok { r with vecbase := w } else .error (.exc ⟨3, w.tag.num, none⟩)) ∧
  (∀ (r : Core) (w : KWord), r.sysWrite 6 w = .ok (r.setBank { r.bank with
    prog := w.val.toNat % 2 ^ 30 + 2 ^ 31 * (w.val.toNat / 2 ^ 31) })) ∧
  (∀ (r : Core) (w : KWord), r.sysWrite 12 w = .ok (if w.val.toNat / 256 % 4 = 3 then r
    else { r with gateSel := w.val.toNat % 1024 })) ∧
  (∀ (r : Core) (w : KWord), r.gateSel < 768 → r.sysWrite 13 w =
    if r.gateSel / 256 = 1 then sets r 1 (w.val &&& 0x800001F3)
    else if w.tag = (if r.gateSel / 256 = 0 then Tag.code else Tag.addr) then sets r (r.gateSel / 256) w.val
    else .error (.exc ⟨3, w.tag.num, none⟩)) ∧
  (∀ (r : Core) (w : KWord), r.sysWrite 14 w = .ok (if 515 < w.val.toNat % 1024 then r
    else { r with sstkSel := w.val.toNat % 1024 })) ∧
  (∀ (r : Core) (w : KWord) (p : Sstk),
    p = ⟨w.val.toNat % 1024, w.val.toNat / 1024 % 1024, w.val.toNat / 1048576 % 1024⟩ → r.sstkSel < 516 →
    r.sysWrite 15 w = .ok (if r.sstkSel < 512 then { r with sstk := mset 0 r.sstk r.sstkSel w.val }
      else if p.base ≤ p.top ∧ p.top ≤ p.fin then r.setPart (r.sstkSel - 512) p else r)) ∧
  (∀ (s : State) (c : Fin 4) (n : Fin 256) (a : Opnd) (w : Nat), w = wordsOf s c.val [.imm 0, a] →
    mayIssue s c.val w = true → shapeOk s c.val none [a] noImm = true → sysWritable n.val (ringOf s c.val) = false →
    answers (.kMts c n a) s (fun t => refused s t c n.val)) ∧
  (∀ (s : State) (c : Fin 4) (d : Opnd) (n : Fin 256) (w : Nat), w = wordsOf s c.val [d, .imm 0] →
    mayIssue s c.val w = true → d.isReg = true → sysReadable n.val (ringOf s c.val) = false →
    answers (.kMfs c d n) s (fun t => refused s t c n.val)) ∧
  (∀ (s : State) (c : Fin 4) (d a : Opnd) (w : Nat) (x : Dest) (s1 u : State), w = wordsOf s c.val [d] →
    mayIssue s c.val w = true → (getCore s c.val).sb = true → ringOf s c.val = 0 → a.isReg = true →
    shapeOk s c.val (some d) [] noImm = true → evalDest c.val 4 (pcOf s c.val) d (issued s c.val w) = .ok (x, s1) →
    writeDest c.val 4 x (match a with
      | .d j => (getCore s c.val).main.getD j.val | .a j => (getCore s c.val).main.getA j.val | _ => {}) s1 = .ok u →
    answers (.kXb c d a) s (fun t => done u t c))

/-- BMOV, BZERO, BCRC, BCRCC, BMAC and BMACS. The keeper clock running, with an INT count below 2^24 in D0, a long
instruction begins at word DONE where PROG holds a valid progress of the same opcode below the count, and at word 0
otherwise. Where every word from there to the count is processed in ascending order by its rule, the instruction
completes with the state that the last word leaves, and PROG reads 0. BZERO with a count of 2^24 or more raises the
bus fault with its first address. An interrupt accepted after a word before the last leaves PROG with that progress,
its opcode and VALID, and PC on the instruction itself. BMOV copies words with their tags, BZERO stores 0 tagged INT,
BCRC and BCRCC advance the CRC over the word, and BMAC and BMACS add the product of two words to the accumulator.
(17_nolac_encoding.md) -/
def Obligations.KeeperLongInstructionsRun : Prop :=
  let long (i : Option (BitVec 24) → Instr) (c : Fin 4) (opc : Nat) (word : Nat → State → State → Prop) : Prop :=
    ∀ (s : State) (st : Nat → State) (d0 : BitVec 32) (a : Nat), mayIssue s c.val 1 = true →
      (bankNow s c.val).getD 0 = ⟨d0, .int⟩ → d0.toNat < 2 ^ 24 → a = longStart (bankNow s c.val).prog opc d0.toNat →
      st a = issued s c.val 1 →
      (∀ z : Option (BitVec 24), (∀ n, a ≤ n → n < d0.toNat → word n (st n) (st (n + 1))) →
        (∀ k, z = some k → d0.toNat ≤ a + k.toNat) →
        answers (i z) s (fun t => t = dropAnswers c.val (setProg c.val 0 (st d0.toNat)))) ∧
      ∀ k : BitVec 24, a + k.toNat < d0.toNat → (∀ n, a ≤ n → n < a + k.toNat → word n (st n) (st (n + 1))) →
        answers (i (some k)) s (fun t => t = dropAnswers c.val (jump c.val (pcOf s c.val)
          (setProg c.val (a + k.toNat + opc * 2 ^ 24 + 2 ^ 31) (st (a + k.toNat)))))
  let crc (i : Fin 4 → Fin 16 → Fin 8 → Option (BitVec 24) → Instr) (poly : Nat) : Prop :=
    ∀ (c : Fin 4) (acc : Fin 16) (src : Fin 8), acc.val ≠ 0 → long (i c acc src) c 0x32 (fun n s t =>
      ∃ p w s1 x, wordAddr s c.val src n = .ok p ∧ kLoad c.val p 4 s = .ok (w, s1) ∧ x = (bankNow s1 c.val).getD acc.val ∧
        plainTag x.tag = true ∧ plainTag w.tag = true ∧ t = setBankD c.val acc.val
          ⟨crcWord poly x.val w.val, if x.tag = .secret ∨ w.tag = .secret then .secret else .int⟩ s1)
  let mac (i : Fin 4 → Fin 4 → Fin 8 → Fin 8 → Option (BitVec 24) → Instr) (f : BitVec 32 → Int) : Prop :=
    ∀ (c q : Fin 4) (a b : Fin 8), long (i c q a b) c 0x33 (fun n s t =>
      ∃ x y v w s1 s2 g, wordAddr s c.val a n = .ok x ∧ wordAddr s c.val b n = .ok y ∧ kLoad c.val x 4 s = .ok (v, s1) ∧
        kLoad c.val y 4 s1 = .ok (w, s2) ∧ g = getAcc s2 c.val q.val ∧ plainTag g.tag = true ∧ plainTag v.tag = true ∧
        plainTag w.tag = true ∧ t = setAcc c.val q.val ⟨BitVec.ofInt 68 (g.val.toNat + f v.val * f w.val),
          if g.tag = .secret ∨ v.tag = .secret ∨ w.tag = .secret then .secret else .int⟩ s2)
  (∀ (c : Fin 4) (dst src : Fin 8), long (.kBmov c dst src) c 0x30 (fun n s t =>
    ∃ d a w s1, wordAddr s c.val dst n = .ok d ∧ wordAddr s c.val src n = .ok a ∧ kLoad c.val a 4 s = .ok (w, s1) ∧
      kStore c.val d 4 w s1 = .ok t)) ∧
  (∀ (c : Fin 4) (dst : Fin 8), long (.kBzero c dst) c 0x31 (fun n s t =>
    ∃ d, wordAddr s c.val dst n = .ok d ∧ kStore c.val d 4 ⟨0, .int⟩ s = .ok t)) ∧
  crc .kBcrc 0xEDB88320 ∧ crc .kBcrcc 0x82F63B78 ∧ mac .kBmac (fun x => x.toNat) ∧ mac .kBmacs (fun x => x.toInt) ∧
  (∀ (s : State) (c : Fin 4) (dst : Fin 8) (stop : Option (BitVec 24)) (d0 : BitVec 32), mayIssue s c.val 1 = true →
    (bankNow s c.val).getD 0 = ⟨d0, .int⟩ → 2 ^ 24 ≤ d0.toNat → answers (.kBzero c dst stop) s (fun t =>
      t = dropAnswers c.val (excEntry c.val ⟨7, 0, some ((bankNow s c.val).getA dst.val).val.toNat⟩ (pcOf s c.val)
        (modCore c.val (fun k => { k with step := false }) s))))

/-- Exception entry, lockup, undefined instructions, interrupts and wakes. Entry, with the shadow bank free and the entry
check passed, writes CAUSE, ADDR_FAULT and ENTRY_RING, takes the shadow bank in ring 0 with its flags clear, puts the
return address in shadow A6 tagged CODE, goes to VECBASE, ends the reservation and keeps the interrupted bank. A
failed entry check locks the core up with ENTRY_STACK, and a synchronous exception in the shadow bank locks it up with
0x80 added to its code; lockup counts one CORE_LOCKUP event towards each other core. An undefined encoding whose words
are fetched enters with cause 0x04 and its own address, or locks up. INTERRUPT_TAKE, on a live core with IE 1 that
neither waits, stalls nor drains, makes the lowest enabled pending source active and enters with cause 0x01 and the
source's number. CORE_WAKE restarts a waiting core, which takes the source where IE is 1 and the shadow bank free.
(18_rings_exceptions.md, 19_interrupts_mpu.md) -/
def Obligations.KeeperExceptionsEnter : Prop :=
  let entered (s t : State) (c code info : Nat) (addr : Option Nat) (ret : BitVec 32) : Prop :=
    let k := getCore t c
    t = setCore c k s ∧ k.cause = code + 256 * info + (if addr = none then 0 else 65536) ∧ k.addrFault = addr.getD 0 ∧
    k.entryRing = (getCore s c).main.ring ∧ k.sb = true ∧ k.main = (getCore s c).main ∧ k.pc = (getCore s c).vecbase.val ∧
    k.shadow.getA 6 = ⟨ret, .code⟩ ∧ k.shadow.ring = 0 ∧ k.shadow.ie = false ∧ k.shadow.fs = false ∧
    (∀ i, i < 8 → i ≠ 6 → k.shadow.getA i = (getCore s c).shadow.getA i) ∧ k.shadow.d = (getCore s c).shadow.d ∧
    k.resv = none ∧ k.q = (getCore s c).q ∧ k.gates = (getCore s c).gates ∧ k.sstk = (getCore s c).sstk ∧
    k.waiting = (getCore s c).waiting
  let locked (s t : State) (c cause : Nat) : Prop :=
    (coreUnit t c).st = .faulted ∧ (coreUnit t c).cause = cause ∧
    (∀ e, e < 4 → e ≠ c → mget 0 (getInt t e).crossing 2 = mget 0 (getInt s e).crossing 2 + 1) ∧
    (∀ e, e < 4 → e ≠ c → getCore t e = getCore s e) ∧ t.keeper.shared = s.keeper.shared
  let idle (s : State) (c : Nat) : State := dropAnswers c (modCore c (fun k => { k with step := false }) s)
  let taken (s t : State) (c n : Nat) : Prop :=
    entered (modInt c (fun i => { i with active := setBit i.active n }) s) t c 1 n none (pcOf s c)
  (∀ (s : State) (c : Fin 4) (e : Exc) (ret : BitVec 32), (getCore s c.val).sb = false → entryOk s c.val = true →
    entered s (excEntry c.val e ret s) c.val e.code e.info e.addr ret) ∧
  (∀ (s : State) (c : Fin 4) (e : Exc) (ret : BitVec 32), (coreUnit s c.val).st = .on →
    (getCore s c.val).sb = false → entryOk s c.val = false → locked s (excEntry c.val e ret s) c.val 0xC0) ∧
  (∀ (s : State) (c : Fin 4) (e : Exc) (ret : BitVec 32), (coreUnit s c.val).st = .on →
    (getCore s c.val).sb = true → locked s (excEntry c.val e ret s) c.val (0x80 + e.code)) ∧
  (∀ (s : State) (c : Fin 4) (m : Fin 5), mayIssue s c.val (m.val + 1) = true →
    answers (.undefinedInstruction c m) s (fun t =>
      if (getCore s c.val).sb = true then locked s t c.val 0x84
      else if entryOk s c.val = true then entered (idle s c.val) t c.val 4 0 none (pcOf s c.val)
      else locked s t c.val 0xC0)) ∧
  (∀ (s : State) (c : Fin 4) (n : Nat), coreLive s c.val = true → (getCore s c.val).waiting = false →
    rngStalled s c.val = false → rngAnswered s c.val = false → (getMpu s c.val).draining = false →
    (getCore s c.val).sb = false → (getCore s c.val).main.ie = true → nextSrc s c.val = some n → entryOk s c.val = true →
    answers (.interruptTake c) s (fun t => taken s t c.val n)) ∧
  (∀ (s : State) (c : Fin 4) (n : Nat), coreLive s c.val = true → (getCore s c.val).waiting = true →
    nextSrc s c.val = some n → entryOk s c.val = true → answers (.coreWake c) s (fun t =>
      let u := modCore c.val (fun k => { k with waiting := false }) s
      if (getCore s c.val).sb = true ∨ (getCore s c.val).main.ie = false then t = u else taken u t c.val n)) ∧
  (∀ (s : State) (c : Nat), (nextSrc s c).all (fun n => decide (n < 128) && nbit (getInt s c).en n && pendingSrc s c n &&
    (List.range n).all fun m => !(nbit (getInt s c).en m && pendingSrc s c m)) = true) ∧
  (∀ (s : State) (c : Nat), nextSrc s c = none →
    ((List.range 128).all fun m => !(nbit (getInt s c).en m && pendingSrc s c m)) = true)

/-- Mailboxes, the DRAM window's base and ALL_LOCKED. With the keeper clock running: a word that an ON core sends from
ring 0 or 1 stands with its tag in the one slot of the target that belongs to the sender, unless the target is the
sender or that slot is FULL, which sets the sender's TX_DROP bit and loses the word, or the target waits in ROM for
its start word and the word is CODE, which becomes its PC; rings 2 and 3 raise the privilege fault. A read by an ON
core returns the slot's word and empties it, or gives 0 tagged ERR. MGC_DRAM_BASE, the core's stores drained first,
takes a base from 4 to the part's last, and sets REFUSED on any other. With every core OFF or FAULTED, core 0 is
enabled and reset and ALL_LOCKED is set. (16_nolac_model.md) -/
def Obligations.MailboxesDeliverWords : Prop :=
  let slot (c m : Nat) : Nat := (c + 7 - m) % 4
  (∀ (s : State) (c m : Fin 4) (v : BitVec 32) (g : Fin 8), kprRuns s = true → (coreUnit s c.val).st = .on →
    ringOf s c.val < 2 → answers (.mailboxSend c m v g) s (fun t =>
      let w : KWord := ⟨v, (tagOf g.val).getD .int⟩
      if m = c ∨ mget none (getCore s m.val).slots (slot c.val m.val) ≠ none then
        t = modCore c.val (fun x => { x with txDrop := setBit x.txDrop m.val }) s
      else if romTake m.val w s = none then
        t = setCore m.val { getCore s m.val with slots := (getCore t m.val).slots } s ∧
        (∀ i, i < 4 → mget none (getCore t m.val).slots i =
          if i = slot c.val m.val then some w else mget none (getCore s m.val).slots i)
      else w.tag = .code ∧ t = modCore m.val (fun x => { x with pc := v }) s)) ∧
  (∀ (s : State) (c m : Fin 4) (v : BitVec 32) (g : Fin 8), kprRuns s = true → (coreUnit s c.val).st = .on →
    2 ≤ ringOf s c.val →
    answers (.mailboxSend c m v g) s (fun t => t = excEntry c.val ⟨5, 0, none⟩ (pcOf s c.val) s)) ∧
  (∀ (s : State) (c : Fin 4) (k : Fin 3) (d : Fin 16), kprRuns s = true → (coreUnit s c.val).st = .on →
    answers (.mailboxReceive c k d) s (fun t => t = setCore c.val (getCore t c.val) s ∧
      (getCore t c.val).bank.getD d.val = (mget none (getCore s c.val).slots k.val).getD ⟨0, .err⟩ ∧
      (∀ i, i < 16 → i ≠ d.val → (getCore t c.val).bank.getD i = (bankNow s c.val).getD i) ∧
      (∀ i, i < 4 → mget none (getCore t c.val).slots i =
        if i = k.val then none else mget none (getCore s c.val).slots i))) ∧
  (∀ (s : State) (n : Fin 4) (v : BitVec 32), kprRuns s = true → answers (.mgcDramBaseWrite n v) s (fun t =>
    let b := v.toNat % 16
    let u := drainAll n.val s
    let k := getCore u n.val
    t = setCore n.val (if 4 ≤ b ∧ b ≤ (if s.part = .g0810 then 7 else 15)
      then { k with dramBase := b, baseRefused := k.baseRefused && !nbit v.toNat 4 } else { k with baseRefused := true }) u)) ∧
  (∀ (s : State), kprRuns s = true →
    ((List.range 4).all fun c => (coreUnit s c).st == .off || (coreUnit s c).st == .faulted) = true →
    answers .allLocked s (fun t => t.keeper.allLocked = true ∧ (coreUnit t 0).st = .starting ∧ (coreUnit t 0).en = true ∧
      (∀ c, 0 < c → c < 4 → coreUnit t c = coreUnit s c) ∧ t.keeper.shared = s.keeper.shared ∧ t.ops = s.ops ∧
      t.moor = s.moor))

/-- EOI of a source. With the keeper clock running, EOI (a write of source s to INT_EOI) makes s inactive, subtracts 1
from a counted source's count, after which it is pending again while the count is non-zero, and clears the tick latch
of source 16 or the software latch of a source from 64; a level source of a unit that the part has is pending again
while its input is high. An EOI for a source that is not active changes nothing but EOI_ERR, which it sets. All of
this is in the state that the command answers, so it has taken effect before any later command. No other source
changes, and nothing outside the core's interrupt controller. (R474) -/
def Obligations.EndOfInterruptEndsSource : Prop :=
  (∀ (s : State) (c : Fin 4) (n : Fin 128), kprRuns s = true → nbit (getInt s c.val).active n.val = false →
    answers (.eoi c n) s (fun t => t = setInt c.val { getInt s c.val with eoiErr := true } s)) ∧
  (∀ (s : State) (c : Fin 4) (n : Fin 128), kprRuns s = true → nbit (getInt s c.val).active n.val = true →
    answers (.eoi c n) s (fun t =>
      let i := getInt s c.val
      let j := getInt t c.val
      t = setInt c.val j s ∧ j.en = i.en ∧ j.missed = i.missed ∧ j.eoiErr = i.eoiErr ∧ j.crossing = i.crossing ∧
      (∀ m, m < 128 → nbit j.active m = (nbit i.active m && m != n.val)) ∧
      (∀ m, m < 16 → (mget {} j.counts m).ovf = (mget {} i.counts m).ovf) ∧
      (∀ m, m < 16 → (mget {} j.counts m).count = (mget {} i.counts m).count - (if m = n.val then 1 else 0)) ∧
      j.tickLatch = (i.tickLatch && n.val != 16) ∧
      (∀ m, m < 64 → nbit j.soft m = (nbit i.soft m && n.val != 64 + m)) ∧
      (n.val < 16 → pendingSrc t c.val n.val = ((mget {} j.counts n.val).count != 0)) ∧
      (16 ≤ n.val → absentSrc s.part n.val = false → pendingSrc t c.val n.val = levelIn t c.val n.val) ∧
      (16 ≤ n.val → n.val ≠ 16 → n.val < 64 → levelIn t c.val n.val = levelIn s c.val n.val)))

/-- Counted events, INT_CLR, INT_SWI, the MPU's enable, its regions and the write buffer. With the keeper clock running. A
counted event that is crossing adds 1 to its source's count at that core, or sets OVF at 255; with none crossing
nothing changes. INT_CLR of a counted source clears its count and OVF and makes it inactive, of a software source
clears its latch and makes it inactive, and of any other changes nothing. INT_SWI sets the latch of a software source
at the target core, and below 64 changes nothing. A write of EN 0 to an enabled unit starts a drain, whose completion
leaves no buffered store and the unit off; EN 1 turns the unit on unless it drains. A region word is written while the
unit is off, with its reserved bits dropped; a write while it is on, or of ATTR with ORDER 3 or CACHE 3, only sets
WR_REFUSED. WRITE_BUFFER_DRAIN takes the oldest buffered store: one that its region permits reaches memory, and a
refused one is discarded and counted and sends one IMPRECISE_WRITE event to its core, the first since the count was 0
giving its address and ring. (19_interrupts_mpu.md) -/
def Obligations.InterruptsAndRegions : Prop :=
  (∀ (s : State) (c : Fin 4) (n : Fin 16), kprRuns s = true → answers (.countedEvent c n) s (fun t =>
    let i := getInt s c.val
    let j := getInt t c.val
    let x := mget {} i.counts n.val
    if mget 0 i.crossing n.val = 0 then t = s
    else t = setInt c.val { i with crossing := j.crossing, counts := j.counts } s ∧
      (∀ m, m < 16 → mget 0 j.crossing m = mget 0 i.crossing m - (if m = n.val then 1 else 0)) ∧
      (∀ m, m < 16 → m ≠ n.val → mget {} j.counts m = mget {} i.counts m) ∧
      mget {} j.counts n.val = if x.count = 255 then { x with ovf := true } else { x with count := x.count + 1 })) ∧
  (∀ (s : State) (c : Fin 4) (n : Fin 128), kprRuns s = true → answers (.intClr c n) s (fun t =>
    let i := getInt s c.val
    let j := getInt t c.val
    if 16 ≤ n.val ∧ n.val < 64 then t = s
    else t = setInt c.val { i with active := j.active, counts := j.counts, soft := j.soft } s ∧
      (∀ m, m < 128 → nbit j.active m = (nbit i.active m && m != n.val)) ∧
      (∀ m, m < 16 → mget {} j.counts m = if m = n.val then {} else mget {} i.counts m) ∧
      (∀ m, m < 64 → nbit j.soft m = (nbit i.soft m && n.val != 64 + m)))) ∧
  (∀ (s : State) (c : Fin 4) (n : Fin 128), kprRuns s = true → answers (.intSwi c n) s (fun t =>
    let i := getInt s c.val
    let j := getInt t c.val
    if n.val < 64 then t = s
    else t = setInt c.val { i with soft := j.soft } s ∧
      (∀ m, m < 64 → nbit j.soft m = (nbit i.soft m || n.val == 64 + m)))) ∧
  (∀ (s : State) (c : Fin 4), kprRuns s = true → answers (.mpuDisable c) s (fun t =>
    let m := getMpu s c.val
    t = setMpu c.val { m with draining := m.draining || m.en } s)) ∧
  (∀ (s : State) (c : Fin 4), kprRuns s = true → answers (.mpuEnable c) s (fun t =>
    let m := getMpu s c.val
    t = setMpu c.val { m with en := m.en || !m.draining } s)) ∧
  (∀ (s : State) (c : Fin 4), kprRuns s = true → (getMpu s c.val).draining = true →
    answers (.mpuDrainComplete c) s (fun t => (getMpu t c.val).en = false ∧ (getMpu t c.val).draining = false ∧
      (getMpu t c.val).buf = [] ∧ (getMpu t c.val).regions = (getMpu s c.val).regions ∧ t.units = s.units ∧
      t.ops = s.ops ∧ t.moor = s.moor ∧ t.keys = s.keys ∧ t.flash = s.flash)) ∧
  (∀ (s : State) (c : Fin 4) (r : Fin 16) (w : Fin 3) (v : BitVec 32), kprRuns s = true →
    answers (.mpuRegionWrite c r w v) s (fun t =>
      let m := getMpu s c.val
      let n := getMpu t c.val
      let x := mget {} m.regions r.val
      if m.en = true ∨ (w = 2 ∧ (v.toNat / 2 ^ 14 % 4 = 3 ∨ v.toNat / 2 ^ 12 % 4 = 3)) then
        t = setMpu c.val { m with wrRefused := true } s
      else t = setMpu c.val { m with regions := n.regions } s ∧
        (∀ i, i < 16 → i ≠ r.val → mget {} n.regions i = mget {} m.regions i) ∧
        mget {} n.regions r.val = (if w = 0 then { x with base := v.toNat / 256 * 256 }
          else if w = 1 then { x with limit := v.toNat / 256 * 256 }
          else { x with attr := v.toNat % 128 + v.toNat / 256 % 256 * 256 }))) ∧
  (∀ (s : State) (c : Fin 4) (b : BufStore) (rest : List BufStore), kprRuns s = true → (getMpu s c.val).buf = b :: rest →
    answers (.writeBufferDrain c) s (fun t =>
      let m := getMpu s c.val
      if (m.deciding b.addr).any (fun n => permits (m.region n).attr b.ring .write) = true then
        t = memStore c.val b.addr b.size ⟨BitVec.ofNat 32 b.value, (tagOf b.tag).getD .int⟩
          (setMpu c.val { m with buf := rest } s)
      else
        getMpu t c.val = { m with
          buf := rest, impCount := min 65535 (m.impCount + 1)
          impAddr := if m.impCount = 0 then b.addr else m.impAddr
          impRing := if m.impCount = 0 then b.ring else m.impRing } ∧
        t.keeper = s.keeper ∧ t.units = s.units ∧ t.ops = s.ops ∧
        mget 0 (getInt t c.val).crossing 8 = mget 0 (getInt s c.val).crossing 8 + 1))

/-- LOG_READ, LOG_EXPORT_ACK, the partial flush and the chain check. With the keeper clock running. LOG_READ with a good
body ends with BAD_PARAMETER and DETAIL 1 while the output buffer is below 144 + 64 × MAX bytes; otherwise it waits
while a draw waits for the source, and else returns a 48-byte header, which begins with the first and next sequence
numbers and the count, the first MAX of the retained and staged entries from FROM_SEQ on, of MIN_SEV or more, within
the caller's scope, and 96 bytes of signature. LOG_EXPORT_ACK refuses a value at or above NEXT_SEQ with DETAIL 3, and
otherwise moves ACK_NEXT to UP_TO_SEQ + 1 unless that is below it, whatever the logbook's room. The partial flush
takes a group of fewer than 8 staged entries out of staging once its oldest has waited 1,024 ticks, and before that
does nothing. The chain check changes nothing while the chain holds, and otherwise sets CHAIN_BREAK and, with room in
staging, logs a class 7 code 4 entry of severity 3. (20_logbook_recorders.md) -/
def Obligations.LogCommandsServe : Prop :=
  (∀ (s : State) (d : Fin 256) (c : AdminCmd), cmdReady s d.val 0x88 0 c → aTarget c.desc = 0 → c.pb.length = 16 →
    leAt c.pb 11 5 = 0 → byteAt c.pb 10 ≤ 3 → 1 ≤ leAt c.pb 8 2 → leAt c.pb 8 2 ≤ 4096 →
    answers (.logRead d) s (fun t =>
      let m := leAt c.pb 8 2
      let o := ((servingOf t d.val).map AdminCmd.output).getD []
      let l := ((s.log.prog ++ s.log.staged).filter (fun e =>
        decide (leAt c.pb 0 8 ≤ e.seq) && decide (byteAt c.pb 10 ≤ e.sev) && logScope s d.val e)).take m
      let b := (l.map logBytes).flatten
      if dOutLen c.desc < 144 + 64 * m then onlyService s t ∧ cmdShort t d.val c (144 + 64 * m)
      else if drawWaits s = true then t = s
      else cmdEnds t d.val c stOK 0 o ∧ o.length = 144 + b.length ∧ slice o 48 b.length = b ∧
        slice o 0 20 = le 8 (logFirst s) ++ le 8 s.log.nextSeq ++ le 4 l.length ∧
        t.rng = (useDrbg 48 s).rng ∧ t.flash = s.flash ∧ t.ops = s.ops ∧ t.units = s.units ∧
        t.recorders = s.recorders)) ∧
  (∀ (s : State) (d : Fin 256) (c : AdminCmd), cmdReady s d.val 0x89 0 c → aTarget c.desc = 0 → c.pb.length = 8 →
    answers (.logExportAck d) s (fun t =>
      let u := leAt c.pb 0 8
      if s.log.nextSeq ≤ u then onlyService s t ∧ cmdEnds t d.val c stBadParameter 3 []
      else cmdEnds t d.val c stOK 0 [] ∧ t.log.ackNext = max s.log.ackNext (u + 1) ∧ t.log.retain = s.log.retain ∧
        (s.log.retain = false → t.log.prog = s.log.prog) ∧
        t.flash = s.flash ∧ t.ops = s.ops ∧ t.units = s.units)) ∧
  (∀ (s : State) (e : LogEntry) (r : List LogEntry), kprRuns s = true → s.log.staged = e :: r → r.length < 7 →
    canProgram s = true → answers .logPartialFlush s (fun t =>
      if e.stagedAt + 1024 ≤ s.tick then t.log.staged = [] ∧ t.log.nextSeq = s.log.nextSeq ∧ t.log.lastMac = s.log.lastMac
      else t = s)) ∧
  (∀ (s : State), kprRuns s = true → answers .logChainCheck s (fun t =>
    if chainOk s 0 s.log.nextSeq = true then t = s
    else t.log.chainBreak = true ∧ (s.log.staged.length < 256 → t.log.staged.take s.log.staged.length = s.log.staged ∧
      t.log.staged.length = s.log.staged.length + 1 ∧ ∃ e, t.log.staged.getLast? = some e ∧
      e.cls = 7 ∧ e.code = 4 ∧ e.sev = 3 ∧ e.seq = s.log.nextSeq)))

/-- The recorders' intervals, reads, clears, freezes and window. With the keeper clock running. An interval of a cluster
keeps every recorder within its 256 slots, changes no other cluster's recorders, and leaves a tile's histograms empty
when the tile's recorder is in SERVICE mode. EVR_READ with a good body ends with DETAIL 1 while the output buffer is
below 16 + 64 × MAX bytes, waits while another recorder is frozen, and otherwise returns a 16-byte header and the
oldest MAX entries, storing and dropping none. EVR_CLEAR with a good body is refused with POLICY_DENIED and counted
while the logbook cannot record; otherwise the named recorder is empty, the others are unchanged, one entry is logged,
and a freeze of that recorder ends. A write of EVR_SEL is discarded while FREEZE is 1 and otherwise selects;
EVR_FREEZE sets or ends a freeze, and its bit 1 clears TIMEOUT; a freeze that times out ends with TIMEOUT set. A read
of EVR_WINDOW gives a word of the entry in the slot that the index names, 0 where the slot is empty, and after word 15
the index advances modulo 256 while AUTO is 1. (20_logbook_recorders.md) -/
def Obligations.RecordersMeasureAndFreeze : Prop :=
  (∀ (s : State) (r : Fin 10) (m : List (Fin 5 × Fin 6 × List Int)), kprRuns s = true →
    answers (.recorderInterval r m) s (fun t =>
      (∀ i, i < 60 → i / 6 ≠ r.val → getRec t i = getRec s i) ∧
      (∀ i, i < 60 → (getRec s i).slots.length ≤ 256 → (getRec t i).slots.length ≤ 256) ∧
      (∀ n, n < 5 → tilePresent s.part r.val n = true → recMode s r.val n = false → ∀ x ∈ tileMetrics r.val n,
        mget {} (getRec t (recKey r.val n)).hists x = {}) ∧
      t.units = s.units ∧ t.ops = s.ops ∧ t.log = s.log ∧ t.keeper = s.keeper ∧ t.flash = s.flash)) ∧
  (∀ (s : State) (d : Fin 256) (c : AdminCmd), cmdReady s d.val 0x8A 0 c → evBodyOk s c = true →
    answers (.evrRead d) s (fun t =>
      let m := leAt c.pb 2 2
      let r := getRec s (evKey c)
      let l := (r.slots.map Prod.snd).take m
      if dOutLen c.desc < 16 + 64 * m then onlyService s t ∧ cmdShort t d.val c (16 + 64 * m)
      else if s.recorders.freeze = true ∧ selKey s ≠ evKey c then t = s
      else t = { s with engine := t.engine, recorders := t.recorders } ∧ t.recorders.recs = s.recorders.recs ∧
        t.recorders.dropNew = s.recorders.dropNew ∧ cmdEnds t d.val c stOK 0 (le 2 l.length ++ le 2 r.drop ++
          le 2 r.frozenCnt ++ le 1 (b2n (recMode s (evCluster c) (evTile c))) ++ zeros 9 ++ (l.map recBytes).flatten))) ∧
  (∀ (s : State) (d : Fin 256) (c : AdminCmd), cmdReady s d.val 0x8A 1 c → evBodyOk s c = true →
    answers (.evrClear d) s (fun t =>
      if (logRefusal s).isSome = true then cmdEnds t d.val c stPolicyDenied 0 [] ∧ t.recorders = s.recorders ∧
        t.log = { s.log with refused := min 65535 (s.log.refused + 1) }
      else cmdEnds t d.val c stOK 0 [] ∧ getRec t (evKey c) = {} ∧
        (∀ i, i < 60 → i ≠ evKey c → getRec t i = getRec s i) ∧
        t.log.nextSeq = s.log.nextSeq + 1 ∧
        t.recorders.freeze = (s.recorders.freeze && !decide (selKey s = evKey c)))) ∧
  (∀ (s : State) (v : BitVec 32), kprRuns s = true → answers (.evrSelWrite v) s (fun t =>
    t = if s.recorders.freeze = true then s else { s with recorders := { s.recorders with
      selCluster := v.toNat % 16, selTile := v.toNat / 16 % 16 } })) ∧
  (∀ (s : State) (v : BitVec 32), kprRuns s = true → answers (.evrFreezeWrite v) s (fun t =>
    t = { s with recorders := { s.recorders with
      freeze := decide (v.toNat % 2 = 1), timeout := s.recorders.timeout && !decide (v.toNat / 2 % 2 = 1) } })) ∧
  (∀ (s : State), kprRuns s = true → answers .evrFreezeTimeout s (fun t => t = { s with recorders := { s.recorders with
    freeze := false, timeout := s.recorders.timeout || s.recorders.freeze } })) ∧
  (∀ (s : State) (w : Fin 16), kprRuns s = true → answers (.evrWindowRead w) s (fun t =>
    let e := (getRec s (selKey s)).slots.find? (fun x => x.1 == s.recorders.cursor)
    t = { s with
      outs := s.outs ++ [.readReply ((e.map (fun x => leAt (recBytes x.2) (4 * w.val) 4)).getD 0)]
      recorders := { s.recorders with
        cursor := if w.val = 15 ∧ s.recorders.auto = true then (s.recorders.cursor + 1) % 256 else s.recorders.cursor } }))

/-- Detection, the two decisions and the responses of the watch. A detection replaces the conditions that hold by those of
the sources monitored (fuse whole, and in the backup-only state named by R518) and sets its own source's sticky latch
if that is monitored. The first decision reads the latches named that are set and await no decision, and names the
response of each alarm found. The second decision on one source: where both circuits find the alarm, the source alarms
with its response; where one does, MISMATCHES advances and DECISION alarms unless its fuse is blown, and the stronger
of the responses counts; where neither does, nothing alarms. The alarm is counted, latched in WCH_LATCHED and sent to
every core. In FACTORY the response is NOTE. One no stronger than what is in force changes neither lifecycle, units,
operations nor backup domain. Otherwise RESTRICT sets its latch; LOCK also sets its own, makes the state LOCKED,
empties the key image, drops a pending approval and closes the sessions of all domains but one whose LOAD is
committing; ZEROISE does so with ZEROISED, loses the KEK and the memory keys and empties the mooring region. During a
stop only the latches and the KEK change. In the backup-only state an alarm zeroes the battery SRAM, and a source not
monitored there keeps its latch. (21_watch_backup.md, 01_architecture.md) -/
def Obligations.WatchDecidesAlarms : Prop :=
  let who (s : State) (f : BitVec 19) (i : Nat) (n : Option Nat) : Option Nat :=
    if n.isSome && nbit f.toNat i then some i
    else if n.isSome != nbit f.toNat i && !nbit s.watch.fused 16 then some 16 else none
  let resp (s : State) (f : BitVec 19) (i : Nat) (n : Option Nat) : Nat :=
    if s.lifecycle = .factory then 0
    else if n.isSome && nbit f.toNat i then watchResp s i
    else if n.isSome != nbit f.toNat i then
      max (n.getD (watchResp s i)) (if nbit s.watch.fused 16 then 0 else watchResp s 16)
    else 0
  (∀ (s : State) (i : Option (Fin 19)) (h : BitVec 19), answers (.watchDetect i h) s (fun t =>
    t = { s with watch := { s.watch with active := t.watch.active, sticky := t.watch.sticky } } ∧
    (∀ m, m < 32 → nbit t.watch.active m = (decide (m < 19) && nbit h.toNat m && monitored s m)) ∧
    (∀ m, m < 32 → nbit t.watch.sticky m =
      (nbit s.watch.sticky m || (decide (i.map Fin.val = some m) && monitored s m))))) ∧
  (∀ (s : State) (w f : BitVec 19), answers (.watchFirstDecision w f) s (fun t =>
    t = { s with watch := { s.watch with first := t.watch.first } } ∧
    t.watch.first.filter (fun x => 19 ≤ x.source) = s.watch.first.filter (fun x => 19 ≤ x.source) ∧
    (∀ m, m < 19 → t.watch.first.filter (fun x => x.source == m) = s.watch.first.filter (fun x => x.source == m) ++
      (if nbit w.toNat m = true ∧ nbit s.watch.sticky m = true ∧ s.watch.first.any (fun x => x.source == m) = false then
        [⟨m, if nbit f.toNat m then some (watchResp s m) else none⟩] else [])))) ∧
  (∀ (s : State) (w f : BitVec 19) (i : Nat) (n : Option Nat), i < 19 → nbit w.toNat i = true →
    (s.watch.first.filter fun x => nbit w.toNat x.source) = [⟨i, n⟩] → s.power.phase ≠ .backupOnly →
    answers (.watchSecondDecision w f) s (fun t =>
      t.watch.first = s.watch.first.filter (fun x => !nbit w.toNat x.source) ∧
      (∀ m, m < 32 → nbit t.watch.sticky m = (nbit s.watch.sticky m && m != i)) ∧
      t.watch.mismatches = min 65535 (s.watch.mismatches + b2n (n.isSome != nbit f.toNat i)) ∧
      (∀ m, m < 19 → mget 0 t.watch.alarms m =
        if who s f i n = some m then min 65535 (mget 0 s.watch.alarms m + 1) else mget 0 s.watch.alarms m) ∧
      (∀ m, m < 32 → nbit t.watch.latched m = (nbit s.watch.latched m || decide (who s f i n = some m))) ∧
      (if (who s f i n).isSome = true then pended 0 s t else True) ∧
      (if resp s f i n = 3 then t.watch.ceremony = none else True))) ∧
  (∀ (s : State) (w f : BitVec 19) (i : Nat) (n : Option Nat), i < 19 → nbit w.toNat i = true →
    (s.watch.first.filter fun x => nbit w.toNat x.source) = [⟨i, n⟩] → s.power.phase ≠ .backupOnly →
    answers (.watchSecondDecision w f) s (fun t =>
      let r := resp s f i n
      if r ≤ inForce s then t.lifecycle = s.lifecycle ∧ t.units = s.units ∧ t.ops = s.ops ∧ t.backup = s.backup ∧
        t.watch.lock = s.watch.lock ∧ t.watch.restrict = s.watch.restrict
      else if s.power.phase = .stopping then t.lifecycle = s.lifecycle ∧ t.units = s.units ∧ t.ops = s.ops ∧
        t.watch.restrict = true ∧ t.watch.lock = (s.watch.lock || decide (2 ≤ r)) ∧
        t.backup.kek = (if r = 3 then [] else s.backup.kek) ∧
        t.backup.kekPresent = (decide (r ≠ 3) && s.backup.kekPresent)
      else if r = 1 then t.watch.restrict = true ∧ t.lifecycle = s.lifecycle ∧ t.watch.lock = s.watch.lock ∧
        t.backup = s.backup
      else t.watch.restrict = true ∧ t.watch.lock = true ∧ t.keys.approval = none ∧ t.keys.building = false ∧
        (t.keys.slots.all fun e => !e.2.imaged) = true ∧
        (∀ d, d < 256 → (servingOf s d).any (loadCommits s) = true ∨ (getDom t d).session = none) ∧
        if r = 2 then t.lifecycle = .locked ∧ t.backup = s.backup
        else t.lifecycle = .zeroised ∧ t.backup.kek = [] ∧ t.backup.kekPresent = false ∧ t.moor.memKeys = false ∧
          t.moor.slots = [])) ∧
  (∀ (s : State) (w f : BitVec 19) (i : Nat) (n : Option Nat), i < 19 → nbit w.toNat i = true →
    (s.watch.first.filter fun x => nbit w.toNat x.source) = [⟨i, n⟩] → s.power.phase = .backupOnly →
    answers (.watchSecondDecision w f) s (fun t => t.log = s.log ∧ t.lifecycle = s.lifecycle ∧
      if watchBackup i = false then t.backup = s.backup ∧ t.watch.sticky = s.watch.sticky
      else t.backup = if (who s f i n).isSome = true then { s.backup with
          kek := []
          kekPresent := false
          canaryOk := false
          locks := []
          zeroisedBk := true
          bkSource := (who s f i n).getD 0 } else s.backup))

/-- WCH_CFG, WCH_FUSE_BLOW, WATCH_SET, FUSE_BLOW, WATCH_CLEAR and TIME_SET. With the keeper clock running. A write of
RESPONSE below the source's floor is discarded, and any other sets that source's response alone. A fuse blows when its
number is written twice running with the same value and not late; any other second write disarms, and a late one arms
anew. For a command that passes its own checks, with room in staging: WATCH_SET sets the response, and below the
default only with a completed approval, which it uses up, and without one it is refused with POLICY_DENIED; FUSE_BLOW
needs one always and blows that fuse alone, and the source's latch and pending decision end; WATCH_CLEAR is refused
while a source with response RESTRICT still alarms and otherwise clears the RESTRICT latch alone. TIME_SET with a
valid time, while the logbook takes changes, hands the value to the RTC's next edge. Each change by a command is one
entry. (21_watch_backup.md, 05_domains.md) -/
def Obligations.WatchIsConfigured : Prop :=
  let same (s t : State) : Prop := t.lifecycle = s.lifecycle ∧ t.units = s.units ∧ t.ops = s.ops ∧ t.moor = s.moor
  let set (s t : State) (i r : Nat) : Prop :=
    t.watch = { s.watch with resp := t.watch.resp } ∧
    (∀ m, m < 19 → m ≠ i → watchResp t m = watchResp s m) ∧ (i < s.watch.resp.length → watchResp t i = r)
  let blown (s t : State) (i : Nat) : Prop :=
    t.watch = { s.watch with
      fused := t.watch.fused
      sticky := t.watch.sticky
      active := t.watch.active
      fuseArm := t.watch.fuseArm
      first := s.watch.first.filter fun x => x.source != i } ∧
    (∀ m, m < 32 → nbit t.watch.fused m = (nbit s.watch.fused m || m == i)) ∧
    (∀ m, m < 32 → nbit t.watch.sticky m = (nbit s.watch.sticky m && m != i)) ∧
    (∀ m, m < 32 → nbit t.watch.active m = (nbit s.watch.active m && m != i))
  (∀ (s : State) (i : Fin 19) (v : BitVec 32), kprRuns s = true → answers (.wchCfgWrite i v) s (fun t =>
    if v.toNat % 4 < watchFloor i.val then t = s
    else t = { s with watch := t.watch, flash := t.flash } ∧ set s t i.val (v.toNat % 4))) ∧
  (∀ (s : State) (v : BitVec 32) (late : Bool), kprRuns s = true → answers (.wchFuseBlowWrite v late) s (fun t =>
    if s.watch.fuseArm = none ∨ late = true then t = { s with watch := { s.watch with fuseArm := some v.toNat } }
    else t = { s with watch := t.watch } ∧ t.watch.fuseArm = none ∧
      if s.watch.fuseArm = some v.toNat ∧ v.toNat % 32 < 19 then blown s t (v.toNat % 32)
      else t.watch = { s.watch with fuseArm := none })) ∧
  (∀ (s : State) (d : Fin 256) (c : AdminCmd), cmdReady s d.val 0x8F 0x10 c → watchRefusal s c = none →
    s.log.staged.length < 256 → answers (.watchSet d) s (fun t =>
      let low := decide (byteAt c.pb 1 < watchDefault (byteAt c.pb 0))
      if low = true ∧ approved s c = false then onlyService s t ∧ cmdEnds t d.val c stPolicyDenied 0 []
      else cmdEnds t d.val c stOK 0 [] ∧ set s t (byteAt c.pb 0) (byteAt c.pb 1) ∧
        t.keys.approval = (if low then none else s.keys.approval) ∧ t.log.nextSeq = s.log.nextSeq + 1 ∧ same s t)) ∧
  (∀ (s : State) (d : Fin 256) (c : AdminCmd), cmdReady s d.val 0x8F 0x11 c → watchRefusal s c = none →
    s.log.staged.length < 256 → answers (.fuseBlow d) s (fun t =>
      if approved s c = false then onlyService s t ∧ cmdEnds t d.val c stPolicyDenied 0 []
      else cmdEnds t d.val c stOK 0 [] ∧ blown s t (byteAt c.pb 0) ∧ t.watch.fuseArm = s.watch.fuseArm ∧
        t.keys.approval = none ∧ t.log.nextSeq = s.log.nextSeq + 1 ∧ same s t)) ∧
  (∀ (s : State) (d : Fin 256) (c : AdminCmd), cmdReady s d.val 0x8F 0x12 c → watchRefusal s c = none →
    s.log.staged.length < 256 → answers (.watchClear d) s (fun t =>
      if stillAlarms s 1 1 = true then onlyService s t ∧ cmdEnds t d.val c stPolicyDenied 0 []
      else cmdEnds t d.val c stOK 0 [] ∧ t.watch = { s.watch with restrict := false } ∧
        t.log.nextSeq = s.log.nextSeq + 1 ∧ same s t)) ∧
  (∀ (s : State) (d : Fin 256) (c : AdminCmd), cmdReady s d.val 0x8E 0 c → aTarget c.desc = 0 → c.pb.length = 8 →
    leAt c.pb 0 8 < 2 ^ 56 → nbit (leAt c.pb 0 8) 40 = false → logRefusal s = none → answers (.timeSet d) s (fun t =>
      cmdEnds t d.val c stOK 0 [] ∧ t.backup = { s.backup with rtcSet := some (leAt c.pb 0 8) } ∧
      t.log.nextSeq = s.log.nextSeq + 1 ∧ same s t))

/-- UNLOCK_BEGIN, a custodian's presentation and the end of a ceremony. With the keeper clock running. UNLOCK_BEGIN is
refused with POLICY_DENIED unless LOCKED or ZEROISED; with room for its 32 bytes and a logbook that takes it, it waits
while a draw waits for the source and otherwise opens a ceremony with no approvals and returns its identifier. A
presentation, its form good and the logbook open to it, writes 4 bytes, the approvals counted and m: POLICY_DENIED
with no ceremony or approval open, BAD_PARAMETER with DETAIL 3 without a credential (also after the wait for one
expires), AUTH_FAIL with DETAIL 1 where it does not verify, the fifth of which ends the ceremony, and where it does,
one more approval, or POLICY_DENIED for a custodian counted before; it waits while a draw waits. At UNLOCK_M approvals
the ceremony completes unless a source with LOCK or ZEROISE still alarms: it ends, the latches clear, the key image is
built, and the state returns to what it was, or to COMMISSIONED with an empty key store from ZEROISED. A presentation
against an approval counts there in the same way. An expiry ends the ceremony. (21_watch_backup.md, 14_key_store.md) -/
def Obligations.CustodiansUnlock : Prop :=
  let bytes (n m : Nat) : Bytes := le 1 n ++ le 1 m ++ zeros 2
  let still (s t : State) : Prop := t.lifecycle = s.lifecycle ∧ t.watch.lock = s.watch.lock ∧ t.units = s.units ∧ t.ops = s.ops
  (∀ (s : State) (d : Fin 256) (c : AdminCmd), cmdReady s d.val 0x8C 0 c → aTarget c.desc = 0 → devLocked s = false →
    answers (.unlockBegin d) s (fun t => onlyService s t ∧ cmdEnds t d.val c stPolicyDenied 0 [])) ∧
  (∀ (s : State) (d : Fin 256) (c : AdminCmd), cmdReady s d.val 0x8C 0 c → aTarget c.desc = 0 → devLocked s = true →
    32 ≤ dOutLen c.desc → unlockRefusal s = none → answers (.unlockBegin d) s (fun t =>
      let id := ((servingOf t d.val).map AdminCmd.output).getD []
      if drawWaits s = true then t = s
      else id.length = 32 ∧ cmdEnds t d.val c stOK 0 id ∧
        t.watch = { s.watch with ceremony := some { id := id } } ∧ still s t)) ∧
  (∀ (s : State) (d : Fin 256) (c : AdminCmd) (g : Option Bytes), cmdReady s d.val 0x8D 0 c → presentRefusal s c = none →
    4 ≤ dOutLen c.desc → openCeremony s = none → answers (.unlockCustodian d g) s (fun t =>
      cmdEnds t d.val c stPolicyDenied 0 (bytes 0 s.owner.custody.unlockM) ∧ t.watch = s.watch ∧ still s t)) ∧
  (∀ (s : State) (d : Fin 256) (c : AdminCmd) (x : Ceremony), cmdReady s d.val 0x8D 0 c → presentRefusal s c = none →
    4 ≤ dOutLen c.desc → openCeremony s = some x → answers (.unlockCustodian d none) s (fun t =>
      cmdEnds t d.val c stBadParameter 3 (bytes x.who.length s.owner.custody.unlockM) ∧ t.watch = s.watch ∧ still s t)) ∧
  (∀ (s : State) (d : Fin 256) (c : AdminCmd) (x : Ceremony) (g : Bytes), cmdReady s d.val 0x8D 0 c →
    presentRefusal s c = none → 4 ≤ dOutLen c.desc → openCeremony s = some x →
    answers (.unlockCustodian d (some g)) s (fun t =>
      let m := s.owner.custody.unlockM
      let again := x.who.contains (byteAt c.pb 1)
      let y := if again then x else { x with who := x.who ++ [byteAt c.pb 1] }
      if drawWaits s = true then t = s
      else if presentOk s c g (drbgBytes s 16) = false then
        cmdEnds t d.val c stAuthFail 1 (bytes x.who.length m) ∧ still s t ∧
        t.watch = { s.watch with ceremony := if 4 ≤ x.fails then none else some { x with fails := x.fails + 1 } }
      else if y.who.length < m ∨ stillAlarms s 2 3 = true then
        cmdEnds t d.val c (if again ∨ m ≤ y.who.length then stPolicyDenied else stOK) 0 (bytes y.who.length m) ∧
        t.watch = { s.watch with ceremony := some y } ∧ still s t
      else cmdEnds t d.val c stOK 0 (bytes y.who.length m) ∧ t.keys.building = true ∧
        t.watch = { s.watch with ceremony := none, lock := false, restrict := false, latched := 0 } ∧
        if s.lifecycle = .zeroised then t.lifecycle = .commissioned ∧ t.keys.slots = [] ∧ t.backup.kekPresent = true ∧
          t.backup.zeroisedBk = false
        else t.lifecycle = s.priorLifecycle ∧ t.keys.slots = s.keys.slots ∧ t.backup = s.backup)) ∧
  (∀ (s : State) (d : Fin 256) (c : AdminCmd) (g : Option Bytes), cmdReady s d.val 0x8D 1 c → presentRefusal s c = none →
    4 ≤ dOutLen c.desc → devLocked s = true ∨ s.keys.approval = none →
    answers (.unlockCustodianApproval d g) s (fun t =>
      cmdEnds t d.val c stPolicyDenied 0 (bytes 0 0) ∧ t.keys = s.keys ∧ t.watch = s.watch ∧ still s t)) ∧
  (∀ (s : State) (d : Fin 256) (c : AdminCmd) (a : Approval), cmdReady s d.val 0x8D 1 c → presentRefusal s c = none →
    4 ≤ dOutLen c.desc → devLocked s = false → s.keys.approval = some a →
    answers (.unlockCustodianApproval d none) s (fun t =>
      cmdEnds t d.val c stBadParameter 3 (bytes a.who.length a.m) ∧ t.keys = s.keys ∧ t.watch = s.watch ∧ still s t)) ∧
  (∀ (s : State) (d : Fin 256) (c : AdminCmd) (a : Approval) (g : Bytes), cmdReady s d.val 0x8D 1 c →
    presentRefusal s c = none → 4 ≤ dOutLen c.desc → devLocked s = false → s.keys.approval = some a →
    answers (.unlockCustodianApproval d (some g)) s (fun t =>
      let again := a.who.contains (byteAt c.pb 1)
      let b := if again then a else { a with who := a.who ++ [byteAt c.pb 1] }
      if drawWaits s = true then t = s
      else t.watch = s.watch ∧ still s t ∧
        if presentOk s c g (drbgBytes s 16) = false then
          cmdEnds t d.val c stAuthFail 1 (bytes a.who.length a.m) ∧ t.keys = s.keys
        else cmdEnds t d.val c (if again then stPolicyDenied else stOK) 0 (bytes b.who.length a.m) ∧
          t.keys = { s.keys with approval := some b })) ∧
  (∀ (s : State) (d : Fin 256) (c : AdminCmd) (b : Bool), cmdReady s d.val 0x8D (b2n b) c → presentRefusal s c = none →
    4 ≤ dOutLen c.desc → answers (.credentialWaitTimeout d) s (fun t =>
      t.watch = s.watch ∧ t.keys = s.keys ∧ still s t ∧
      cmdEnds t d.val c (if (openCount s (b2n b)).isSome then stBadParameter else stPolicyDenied)
        (if (openCount s (b2n b)).isSome then 3 else 0) (countBytes s (b2n b)))) ∧
  (∀ (s : State) (x : Ceremony), kprRuns s = true → s.watch.ceremony = some x → answers .ceremonyExpiry s (fun t =>
    t.watch = { s.watch with ceremony := none } ∧ still s t ∧ t.backup = s.backup ∧
    (s.log.staged.length < 256 → t.log.nextSeq = s.log.nextSeq + 1)))

/-- Publications, daily means, HEALTH_READ and BATTERY_SET. With the keeper clock running. A publication, from boot step 9
on, sets NEW and BAT_LOW by VBAT below 2,400 mV, holds as many days of data as means are stored, and adds a sample to
the day's sums. In each prediction EXPIRED carries 0 in DAYS, LOW and HIGH, UNKNOWN and STABLE carry 65,535, and
TRENDING has LOW ≤ DAYS ≤ HIGH; below 7 means it is UNKNOWN or EXPIRED, but for FLASH in stage 4, which is always
TRENDING or EXPIRED; VBAT is UNKNOWN until a capacity is set. The overall prediction has the least DAYS and the
highest STATE of the sources but VBAT, and one source's DAYS and METRIC. An EXPIRED source or stage 4 gives the module
advice REPLACE, a low battery the cell's, and SMB_ALERT_N is asserted where an advice rises. The daily mean puts the
mean of the day's samples before the last 364, dated only while the RTC is valid, and a settings record is on its way
where the flash takes it. HEALTH_READ gives 160 bytes laid out as the spec says, or DETAIL 1 in a shorter buffer, and
changes nothing. BATTERY_SET sets the capacity, the charge used to 0, and clears the VBAT history alone; it is one
entry. (22_health_ageing.md) -/
def Obligations.HealthIsPublished : Prop :=
  (∀ (s : State) (dr : List (BitVec 16)) (q : BitVec 32) (v : BitVec 13) (l : Fin 4) (e : BitVec 16), kprRuns s = true →
    passed s 9 = true → answers (.healthPublish dr q v l e) s (fun t =>
      let p := t.health.pub
      let stage := flashStage s
      t.health.new = true ∧ p.daysOfData = s.health.days.length ∧ t.health.days = s.health.days ∧
      t.backup = { s.backup with vbatMv := v.toNat, batLow := decide (v.toNat < 2400) } ∧
      s.health.used + q.toNat * 1000000 ≤ t.health.used ∧ t.health.sum.n = s.health.sum.n + 1 ∧
      (∀ n, n < 5 →
        let x := predOf p n
        x.state ≤ 3 ∧ (x.state = 3 → x.days = 0 ∧ x.low = 0 ∧ x.high = 0) ∧
        (x.state = 0 ∨ x.state = 2 → x.days = 65535 ∧ x.low = 65535 ∧ x.high = 65535) ∧
        (x.state = 1 → x.low ≤ x.days ∧ x.days ≤ x.high) ∧
        (s.health.days.length < 7 → (n = 1 ∧ stage = 4) ∨ x.state = 0 ∨ x.state = 3) ∧
        (n = 1 ∧ stage = 4 → x.state = 1 ∨ x.state = 3) ∧ (n = 2 ∧ s.health.capacity = none → x.state = 0)) ∧
      (∀ n ∈ moduleSources, (predOf p 5).days ≤ (predOf p n).days ∧ (predOf p n).state ≤ (predOf p 5).state) ∧
      moduleSources.any (fun n => decide ((predOf p 5).days = (predOf p n).days ∧
        (predOf p 5).metric = (predOf p n).metric)) = true ∧
      moduleSources.any (fun n => decide ((predOf p 5).state = (predOf p n).state)) = true ∧
      (moduleSources.any (fun n => (predOf p n).state == 3) = true ∨ 4 ≤ stage → p.module = 2) ∧
      (v.toNat < 2400 → p.cell = 2) ∧ p.module < 3 ∧ p.cell < 3 ∧
      t.health.smbAlert = (s.health.smbAlert || decide (s.health.pub.module < p.module) ||
        decide (s.health.pub.cell < p.cell)) ∧
      t.units = s.units ∧ t.ops = s.ops ∧ t.domains = s.domains ∧ t.keys = s.keys)) ∧
  (∀ (s : State), kprRuns s = true → passed s 9 = true → 0 < s.health.sum.n → answers .healthDailyMean s (fun t =>
    t = { s with health := t.health, flash := t.flash } ∧ t.health.days.drop 1 = s.health.days.take 364 ∧
    t.health.age = s.health.age + 1 ∧ t.health.sum = {} ∧ t.health.pub = s.health.pub ∧
    (∃ m, t.health.days.head? = some m ∧ m.silicon = s.health.sum.silicon / s.health.sum.n ∧
      m.flash = s.health.sum.flash / s.health.sum.n ∧ m.dram = s.health.sum.dram / s.health.sum.n ∧
      m.regulator = s.health.sum.regulator / s.health.sum.n ∧ m.date.isSome = s.backup.rtcValid) ∧
    if canProgram s = true then t.health.stored = t.health.days ∧ t.flash.jobs.length = s.flash.jobs.length + 1
    else t.health.stored = s.health.stored ∧ t.flash = s.flash)) ∧
  (∀ (s : State) (d : Fin 256) (c : AdminCmd), cmdReady s d.val 0x8B 0 c → aTarget c.desc = 0 → c.input = [] →
    answers (.healthRead d) s (fun t =>
      let out := ((servingOf t d.val).map AdminCmd.output).getD []
      onlyService s t ∧
      if dOutLen c.desc < 160 then cmdShort t d.val c 160
      else cmdEnds t d.val c stOK 0 out ∧ out.length = 160 ∧
        leAt out 0 8 = s.health.pub.computed % 2 ^ 64 ∧ leAt out 8 2 = s.health.pub.daysOfData % 65536 ∧
        byteAt out 10 = (s.health.pub.module + 4 * s.health.pub.cell) % 256 ∧ slice out 11 5 = zeros 5 ∧
        (∀ n, n < 6 → slice out (16 + 24 * n) 24 = predBytes s.health.pub n))) ∧
  (∀ (s : State) (d : Fin 256) (c : AdminCmd), cmdReady s d.val 0x8F 0x20 c → c.pb.length = 8 →
    deviceWide s c (allZero (c.pb.drop 2) && decide (20 ≤ leAt c.pb 0 2) && decide (leAt c.pb 0 2 ≤ 2000)) = none →
    logRefusal s = none → answers (.batterySet d) s (fun t => cmdEnds t d.val c stOK 0 [] ∧
      t.health.capacity = some (leAt c.pb 0 2) ∧ t.health.used = 0 ∧
      t.health.days = s.health.days.map (fun x => { x with vbat := none }) ∧ t.health.pub = s.health.pub ∧
      t.log.nextSeq = s.log.nextSeq + 1 ∧ t.backup = s.backup ∧ t.units = s.units ∧ t.ops = s.ops))

/-- The SMBus target. While the device has power and the keeper clock runs, commands 0x10, 0x11 to 0x16, 0x20, 0x21 and
0x22 each answer one block: the count, the data that the spec gives that command, and the Packet Error Code over
address, command, address, count and data. No value of the target changes. Another command is not acknowledged. An
Alert Response read answers the address and releases SMB_ALERT_N where it is asserted, and else nothing. A bus time-
out changes no value. (22_health_ageing.md, 25_boot_debug.md) -/
def Obligations.SmbusAnswers : Prop :=
  let block (s t : State) (cmd : Nat) (b : Bytes) : Prop :=
    let m := le 1 b.length ++ b
    t = { s with outs := s.outs ++ [.smbus (m ++ [pec (0xB4 :: (le 1 cmd ++ 0xB5 :: m))])] }
  let sent (t : State) (n : Nat) : Bytes := match t.outs.getLast? with | some (.smbus b) => slice b 1 n | _ => []
  (∀ (s : State), kprRuns s = true → powered s = true → answers .smbusHealthSummary s (fun t =>
    let b := sent t 16
    block s t 0x10 b ∧ b.length = 16 ∧ leAt b 0 8 = s.health.pub.computed % 2 ^ 64 ∧
    leAt b 8 2 = s.health.pub.daysOfData % 65536 ∧
    byteAt b 10 = (s.health.pub.module + 4 * s.health.pub.cell) % 256 ∧ b.drop 11 = zeros 5)) ∧
  (∀ (s : State) (n : Fin 6), kprRuns s = true → powered s = true → answers (.smbusPrediction n) s (fun t =>
    let b := sent t 24
    let x := predOf s.health.pub n.val
    block s t (0x11 + n.val) b ∧ b.length = 24 ∧ byteAt b 0 = n.val ∧ byteAt b 1 = x.state % 256 ∧
    leAt b 2 2 = x.metric % 65536 ∧ leAt b 4 2 = x.days % 65536 ∧ leAt b 6 2 = x.low % 65536 ∧
    leAt b 8 2 = x.high % 65536 ∧ slice b 10 6 = zeros 6 ∧ leAt b 16 8 = x.place % 2 ^ 64)) ∧
  (∀ (s : State), kprRuns s = true → powered s = true → answers .smbusPower s (fun t =>
    let b := sent t 8
    block s t 0x20 b ∧ b.length = 8 ∧ (leAt b 0 2 : Int) = s.power.tj16 % 65536 ∧
    leAt b 2 2 = s.power.hotCluster % 65536 ∧ leAt b 4 2 = s.power.vinMv.toNat % 65536 ∧ leAt b 6 2 = 0)) ∧
  (∀ (s : State), kprRuns s = true → powered s = true → answers .smbusState s (fun t => block s t 0x21
    [BitVec.ofNat 8 (devState s), BitVec.ofNat 8 (lifecycleCode s.lifecycle), BitVec.ofNat 8 (inForce s), 0])) ∧
  (∀ (s : State), kprRuns s = true → powered s = true → answers .smbusField s (fun t => block s t 0x22
    [if contactlessPresent s.part = true ∧ s.rf.field = true then 1 else 0, 0])) ∧
  (∀ (s : State), kprRuns s = true → powered s = true → answers .smbusUnknownCommand s (fun t =>
    t = { s with outs := s.outs ++ [.smbus []] })) ∧
  (∀ (s : State), answers .smbusTimeout s (fun t => t = s)) ∧
  (∀ (s : State), kprRuns s = true → powered s = true → answers .smbusAlertResponse s (fun t =>
    t = if s.health.smbAlert = true then { s with
      health := { s.health with smbAlert := false }
      outs := s.outs ++ [.smbus [0xB4], .pin .smbAlertN true] } else s))

/-- CRD_CMD, CRD_CFG, insertion, removal, a short, the longest wait and the clock stop. With the keeper clock running.
ACTIVATE, TRANSFER and DEACTIVATE only set CMD_REFUSED while the unit is not ON or BUSY is 1, and ABORT while it is
not ON or an activation runs. ACTIVATE ends with NO_CARD when none is present, with ACTIVATION_FAILED and SHORT within
100 ms of a short, and otherwise starts at the lowest-voltage class allowed. TRANSFER ends with NO_CARD when no card
is ACTIVE, with NOT_SENT and PROTOCOL for a length outside 4 to 512, and otherwise sends the first block: all of the
command, which commits it, or IFSC bytes of it with M set. DEACTIVATE clears the session and both buffers. What ends a
transfer gives OUTCOME_UNKNOWN after its commit, NOT_SENT before, and ACTIVATION_FAILED for an activation, with the
reason of an abort, a removal, a short or the longest wait; a removal clears the session and sets REMOVED, a short
also counts. An insertion sets PRESENT and INSERTED. A CRD_CFG out of range is discarded. The clock stops where the
ATR's indicator allows it. Nothing outside the interface, what it sends, and for a short the recorders, changes.
(23_card_interface.md) -/
def Obligations.CardCommandsRun : Prop :=
  let only (s t : State) : Prop := t = { s with card := t.card, outs := t.outs }
  let free (s : State) : Bool := unitOn s .card && !s.card.result.busy
  let refused (s : State) : State := { s with card := { s.card with result := { s.card.result with refused := true } } }
  let ended (s t : State) (reason : Nat) : Prop := t.card.result.busy = false ∧ t.card.result.done = true ∧
    t.card.result.reason = reason ∧ t.card.result.rxLen = 0 ∧ t.card.rx = [] ∧ t.card.phase = .idle ∧
    t.card.result.outcome = if s.card.phase = .transfer then (if s.card.ctx.committed then 3 else 2) else 5
  let off (t : State) : Prop := t.card.session = {} ∧ t.card.tx = [] ∧ t.card.rx = [] ∧ t.card.phase = .idle
  (∀ (s : State), kprRuns s = true → answers .cardActivate s (fun t =>
    let r := t.card.result
    if free s = false then t = refused s
    else only s t ∧ t.outs = s.outs ∧
      if s.card.present = false then r.outcome = 4 ∧ r.done = true ∧ r.busy = false
      else if recentShort s = true then r.outcome = 5 ∧ r.reason = 2 ∧ r.done = true ∧ r.busy = false
      else r.busy = true ∧ t.card.phase = .attempt ∧ t.card.session.active = false ∧ t.card.session.clkMhz = 4 ∧
        t.card.inUse = s.card.cfg ∧ t.card.session.cls =
          (if nbit s.card.cfg.classes 2 then 3 else if nbit s.card.cfg.classes 1 then 2
           else if nbit s.card.cfg.classes 0 then 1 else 0))) ∧
  (∀ (s : State) (n : Fin 2048), kprRuns s = true → answers (.cardTransfer n) s (fun t =>
    let r := t.card.result
    let apdu := (bufBytes s.card.tx 128).take n.val
    let b := min s.card.session.ifsc n.val
    if free s = false then t = refused s
    else only s t ∧
      if s.card.session.active = false then r.outcome = 4 ∧ r.done = true ∧ r.busy = false ∧ t.outs = s.outs
      else if n.val < 4 ∨ 512 < n.val then r.outcome = 2 ∧ r.reason = 3 ∧ r.done = true ∧ r.busy = false ∧ t.outs = s.outs
      else r.busy = true ∧ t.card.phase = .transfer ∧ t.card.ctx.committed = decide (b = n.val) ∧
        t.card.inUse.maxWait = s.card.cfg.maxWait ∧ t.card.session = { s.card.session with clkStopped := false } ∧
        t.outs = s.outs ++ [.card (withEdc s.card.session.crc (0 ::
          (le 1 (64 * b2n s.card.ctx.ns + (if b < n.val then 32 else 0)) ++ le 1 b ++ apdu.take b)))])) ∧
  (∀ (s : State), kprRuns s = true → answers .cardDeactivate s (fun t => if free s = false then t = refused s
    else only s t ∧ off t ∧ t.card.result = s.card.result ∧ t.card.present = s.card.present ∧ t.outs = s.outs)) ∧
  (∀ (s : State), kprRuns s = true → answers .cardAbort s (fun t =>
    if unitOn s .card = false then t = refused s
    else if s.card.phase = .transfer then only s t ∧ ended s t 5 ∧ t.card.session = s.card.session ∧ t.outs = s.outs
    else if s.card.result.busy = true then t = refused s else t = s)) ∧
  (∀ (s : State), kprRuns s = true → powered s = true → s.card.present = true → answers .cardRemoval s (fun t =>
    only s t ∧ t.outs = s.outs ∧ off t ∧ t.card.present = false ∧
    (∀ m, m < 8 → nbit t.card.events m = (nbit s.card.events m || m == 1)) ∧
    (if s.card.result.busy = true then ended s t 1 else t.card.result = s.card.result))) ∧
  (∀ (s : State), kprRuns s = true → powered s = true → answers .cardShort s (fun t =>
    t = { s with card := t.card, recorders := t.recorders, free := t.free } ∧ off t ∧
    t.card.shortCount = min 65535 (s.card.shortCount + 1) ∧ t.card.shortAt = some s.tick ∧
    (∀ m, m < 8 → nbit t.card.events m = (nbit s.card.events m || m == 2)) ∧
    (if s.card.result.busy = true then ended s t 2 else t.card.result = s.card.result))) ∧
  (∀ (s : State), kprRuns s = true → s.card.phase = .transfer → answers .cardMaxWait s (fun t =>
    only s t ∧ ended s t 6 ∧ off t ∧ t.card.present = s.card.present ∧ t.outs = s.outs)) ∧
  (∀ (s : State), kprRuns s = true → powered s = true → s.card.present = false → answers .cardInsertion s (fun t =>
    t = { s with card := { s.card with present := true, events := t.card.events } } ∧
    (∀ m, m < 8 → nbit t.card.events m = (nbit s.card.events m || m == 0)))) ∧
  (∀ (s : State), kprRuns s = true → s.card.session.active = true → s.card.phase = .idle →
    answers .cardClockStop s (fun t =>
      t = if s.card.atr.clkStop = 0 then s else { s with card := { s.card with session := { s.card.session with
        clkStopped := true, clkHigh := decide (s.card.atr.clkStop = 2) } } })) ∧
  (∀ (s : State) (v : BitVec 32), kprRuns s = true → answers (.crdCfgWrite v) s (fun t =>
    let n := v.toNat
    let x : CardCfg := ⟨n % 8, decide (n / 8 % 2 = 1), n / 16 % 32, n / 512 % 256, n / 131072⟩
    t = if 1 ≤ x.classes ∧ 1 ≤ x.maxClk ∧ x.maxClk ≤ 20 ∧ 1 ≤ x.ifsd ∧ x.ifsd ≤ 254 ∧ 1 ≤ x.maxWait
      then { s with card := { s.card with cfg := x } } else s))

/-- The ATR, PPS and S(IFS) of an activation, and the blocks of a transfer. With the keeper clock running. No ATR, or a
faulty one, leads to the next allowed class of higher voltage after a wait, and with none left to MUTE. A good ATR
whose indicator excludes the class leads to the lowest indicated class allowed or ends with CLASS; one without T=1
ends with NO_T1; one with a TA2 that names T=1 and known parameters settles them, and with another TA2 the activation
fails; without TA2 the PPS request is sent. Its echo settles the parameters; the activation then ends OK with the card
ACTIVE when IFSD is 32, or S(IFS request) is sent, whose response ends it so. A PPS that failed is tried once more
without PPS1, then ends with PPS. An invalid block or an exceeded wait is met with an R-block, up to three times, then
S(RESYNCH request), up to three times, then PROTOCOL; its response begins the work again once, before its commit. In a
transfer, the I-block expected adds its data: the last ends it OK, one with M draws an R-block, and beyond 512 bytes
it ends with LONG_RESPONSE; an R-block acknowledges a chained block, which draws the next, or has the last block sent
again; S(WTX request), S(IFS request) and S(ABORT request) draw their responses, the last ending it with CARD_ABORT.
Any other block is invalid. (23_card_interface.md) -/
def Obligations.CardExchangesRun : Prop :=
  let only (s t : State) : Prop := t = { s with card := t.card, outs := t.outs }
  let sent (s t : State) (b : Bytes) : Prop := t.outs = s.outs ++ [.card (withEdc s.card.session.crc b)]
  let done (t : State) (outcome reason : Nat) : Prop := t.card.result.outcome = outcome ∧ t.card.result.reason = reason ∧
    t.card.result.done = true ∧ t.card.result.busy = false ∧ t.card.phase = .idle
  let retry (s t : State) (cls reason : Nat) : Prop := only s t ∧ t.outs = s.outs ∧
    if cls = 0 then done t 5 reason ∧ t.card.session = {}
    else t.card.phase = .retryWait ∧ t.card.session = { cls := cls } ∧ t.card.result = s.card.result
  let mute (s t : State) : Prop := retry s t (nextClass s.card.inUse.classes s.card.session.cls) 8
  let settled (s t : State) (a : Atr) (fi di : Nat) : Prop := only s t ∧
    let x := { s.card.session with
      fi := fi, di := di, clkMhz := clockOf s.card.inUse.maxClk fi, crc := a.crc, ifsc := a.ifsc }
    if s.card.inUse.ifsd = 32 then done t 1 0 ∧ t.card.session = { x with active := true } ∧ t.outs = s.outs
    else t.card.phase = .ifs ∧ t.card.session = x ∧
      t.outs = s.outs ++ [.card (withEdc a.crc ([0, 0xC1, 1] ++ le 1 s.card.inUse.ifsd))]
  let ppsBad (s t : State) : Prop := only s t ∧ t.outs = s.outs ∧
    if s.card.noPps1 = true then done t 5 10 ∧ t.card.session = {}
    else t.card.phase = .attempt ∧ t.card.noPps1 = true ∧ t.card.session.cls = s.card.session.cls
  let bad (s t : State) (err : Nat) : Prop := only s t ∧
    if s.card.ctx.resyncing = false ∧ s.card.ctx.rTries < 3 then
      sent s t (0 :: (le 1 (128 + 16 * b2n s.card.ctx.nr + err) ++ [0])) ∧ t.card.ctx.rTries = s.card.ctx.rTries + 1 ∧
      t.card.session = s.card.session
    else if s.card.ctx.sTries < 3 then sent s t [0, 0xC0, 0] ∧ t.card.ctx.resyncing = true ∧
      t.card.ctx.sTries = s.card.ctx.sTries + 1 ∧ t.card.session = s.card.session
    else done t (cardOutcome s.card) 3 ∧ t.card.session = {} ∧ t.outs = s.outs
  let restart (s t : State) : Prop := only s t ∧
    let c := s.card.ctx
    let n := min s.card.atr.ifsc c.request.length
    if c.committed = true ∨ c.resynced = true then
      done t (cardOutcome s.card) 3 ∧ t.card.session = {} ∧ t.outs = s.outs
    else t.card.session = { s.card.session with ifsc := s.card.atr.ifsc } ∧ t.card.phase = s.card.phase ∧
      t.card.ctx.resynced = true ∧ t.card.ctx.request = c.request ∧ t.card.ctx.off = 0 ∧
      sent s t (if s.card.phase = .ifs then [0, 0xC1, 1] ++ le 1 s.card.inUse.ifsd
        else 0 :: (le 1 (if n < c.request.length then 32 else 0) ++ le 1 n ++ c.request.take n))
  (∀ (s : State), kprRuns s = true → s.card.phase = .attempt → answers .cardMuteTimeout s (fun t => mute s t)) ∧
  (∀ (s : State) (b : List (BitVec 8)) (ok : Bool), kprRuns s = true → s.card.phase = .attempt →
    ok = false ∨ parseAtr b = none → answers (.cardAtrReceived b ok) s (fun t => mute s t)) ∧
  (∀ (s : State) (b : List (BitVec 8)) (a : Atr), kprRuns s = true → s.card.phase = .attempt → parseAtr b = some a →
    answers (.cardAtrReceived b true) s (fun t => t.card.atr = a ∧
      let z := nextClass (s.card.inUse.classes &&& a.classes.getD 0) 4
      let v := a.ta1.getD 0x11
      if a.classes.any (fun m => !nbit m (s.card.session.cls - 1)) = true then
        if z = 0 then done t 5 11 ∧ t.card.session = {} ∧ t.outs = s.outs
        else t.card.phase = .retryWait ∧ t.card.session = { cls := z } ∧ t.outs = s.outs
      else if a.offers.contains 1 = false then done t 5 9 ∧ t.card.session = {} ∧ t.outs = s.outs
      else if a.specific.isSome = true then
        if a.specific.getD 0 % 32 = 1 ∧ fdOk v = true then settled s t a (v / 16) (v % 16)
        else t.card.result.outcome = 5 ∧ t.card.result.done = true ∧ t.card.result.busy = false ∧ t.card.phase = .idle ∧
          t.card.session = {} ∧ t.outs = s.outs
      else t.card.phase = .pps ∧ t.card.session = s.card.session ∧ t.outs = s.outs ++ [.card t.card.ppsSent] ∧
        t.card.ppsSent = if a.ta1.any (fun x => fdOk x && !s.card.noPps1) = true then
          [0xFF, 0x11, BitVec.ofNat 8 v, 0xEE ^^^ BitVec.ofNat 8 v] else [0xFF, 0x01, 0xFE])) ∧
  (∀ (s : State), kprRuns s = true → s.card.phase = .retryWait → answers .cardClassRetry s (fun t => only s t ∧
    t.card.phase = .attempt ∧ t.card.session.cls = s.card.session.cls ∧ t.card.result = s.card.result)) ∧
  (∀ (s : State) (b : List (BitVec 8)), kprRuns s = true → s.card.phase = .pps → answers (.cardPpsResponse b) s (fun t =>
    if b ≠ s.card.ppsSent then ppsBad s t
    else if b.length = 4 then settled s t s.card.atr (byteAt b 2 / 16) (byteAt b 2 % 16)
    else settled s t s.card.atr 1 1)) ∧
  (∀ (s : State), kprRuns s = true → s.card.phase = .pps → answers .cardPpsTimeout s (fun t => ppsBad s t)) ∧
  (∀ (s : State) (b : List (BitVec 8)) (ok : Bool), kprRuns s = true → s.card.phase = .ifs → cardBlock s b ok = none →
    answers (.cardIfsResponse b ok) s (fun t => bad s t 1)) ∧
  (∀ (s : State) (b : List (BitVec 8)) (ok : Bool) (x : Bytes), kprRuns s = true → s.card.phase = .ifs →
    cardBlock s b ok = some x → answers (.cardIfsResponse b ok) s (fun t =>
      if s.card.ctx.resyncing = true then if x = [0, 0xE0, 0] then restart s t else bad s t 2
      else if x = [0, 0xE1, 1] ++ le 1 s.card.inUse.ifsd then only s t ∧ done t 1 0 ∧
        t.card.session = { s.card.session with active := true } ∧ t.outs = s.outs
      else if byteAt x 1 / 64 = 2 ∧ byteAt x 2 = 0 then only s t ∧ sent s t ([0, 0xC1, 1] ++ le 1 s.card.inUse.ifsd)
      else bad s t 2)) ∧
  (∀ (s : State), kprRuns s = true → s.card.phase = .transfer ∨ s.card.phase = .ifs →
    answers .cardWaitTimeout s (fun t => bad s t 2)) ∧
  (∀ (s : State) (b : List (BitVec 8)) (ok : Bool), kprRuns s = true → s.card.phase = .transfer → cardBlock s b ok = none →
    answers (.cardBlockReceived b ok) s (fun t => bad s t 1)) ∧
  (∀ (s : State) (b : List (BitVec 8)) (ok : Bool) (x : Bytes), kprRuns s = true → s.card.phase = .transfer →
    cardBlock s b ok = some x → answers (.cardBlockReceived b ok) s (fun t =>
      let p := byteAt x 1
      let inf := x.drop 3
      let c := s.card.ctx
      let part := decide (0 < c.cur ∧ c.off + c.cur < c.request.length)
      let n := min s.card.session.ifsc (c.request.length - (c.off + c.cur))
      let more := decide (c.off + c.cur + n < c.request.length)
      if c.resyncing = true then if x = [0, 0xE0, 0] then restart s t else bad s t 2
      else if p < 128 ∧ p % 32 = 0 ∧ part = false ∧ nbit p 6 = c.nr then only s t ∧ t.card.session = s.card.session ∧
        if 512 < (c.resp ++ inf).length then sent s t [0, 0xC2, 0] ∧ t.card.result.reason = 7 ∧ t.card.phase = .idle
        else if nbit p 5 = true then sent s t (0 :: (le 1 (128 + 16 * b2n (!c.nr)) ++ [0])) ∧ t.card.phase = .transfer ∧
          t.card.ctx.resp = c.resp ++ inf ∧ t.card.ctx.nr = !c.nr
        else t.outs = s.outs ∧ done t 1 0 ∧ t.card.rx = c.resp ++ inf ∧ t.card.result.rxLen = t.card.rx.length
      else if 128 ≤ p ∧ p < 192 ∧ inf = [] ∧ nbit p 5 = false ∧ p % 16 ≤ 2 then
        if 0 < c.cur ∧ nbit p 4 ≠ c.ns then
          if c.off + c.cur < c.request.length ∧ p % 16 = 0 then only s t ∧ t.card.ctx.ns = !c.ns ∧
            t.card.ctx.off = c.off + c.cur ∧ t.card.ctx.committed = (c.committed || !more) ∧
            sent s t (0 :: (le 1 (64 * b2n (!c.ns) + 32 * b2n more) ++ le 1 n ++ (c.request.drop (c.off + c.cur)).take n))
          else bad s t 2
        else only s t ∧ sent s t c.last ∧ t.card.phase = .transfer
      else if p = 0xC3 ∧ inf.length = 1 then only s t ∧ sent s t ([0, 0xE3, 1] ++ inf) ∧ t.card.phase = .transfer ∧
        t.card.result = { s.card.result with wtx := min 255 (s.card.result.wtx + 1) } ∧
        t.card.ctx.wtxMult = byteAt inf 0
      else if p = 0xC1 ∧ inf.length = 1 ∧ 1 ≤ byteAt inf 0 ∧ byteAt inf 0 ≤ 254 then
        only s t ∧ sent s t ([0, 0xE1, 1] ++ inf) ∧ t.card.session = { s.card.session with ifsc := byteAt inf 0 }
      else if p = 0xC2 ∧ inf = [] then
        only s t ∧ sent s t [0, 0xE2, 0] ∧ done t (if c.committed then 3 else 2) 4
      else bad s t 2))

/-- RFX_CMD, RFX_CFG, pings, calibration and foreign fields. On a part with the contactless front end, and for all but a
foreign field and HOLDOFF with the keeper clock running. While the unit is ON and BUSY is 0: ACTIVATE and TRANSFER end
with FIELD_PRESENT and reason FIELD while a foreign field is present or went less than 500 ms ago; ACTIVATE otherwise
fails with ANTENNA where the aerial is known bad, and else polls Type A first, or Type B where only that is allowed;
TRANSFER without a badge ends with NO_CARD, with a length outside 4 to 512 with NOT_SENT and PROTOCOL, and otherwise
sends the first block; DEACTIVATE sends S(DESELECT) to an ACTIVE badge and clears the session and the buffers;
CALIBRATE stores the reference. A command at another time only sets CMD_REFUSED. ABORT ends a transfer with HOST_ABORT
and the outcome of its phase, and is refused during an activation. A ping that is due and finds an aerial fault sets
ANT_FAULT and ANT_BAD, and otherwise clears ANT_BAD and, against a reference, sets DETECT for a change above the
threshold; one that hears a foreign carrier acts as the field's start. A foreign field ends the reader's work with
FIELD_PRESENT, sets FIELD and asserts FIELD_DET, and with power sets FIELD_ON and HOLDOFF; its end releases FIELD_DET
and with power sets FIELD_OFF; HOLDOFF expires when no field is present. A RFX_CFG out of range is discarded. Only the
front end, its oscillator and its outputs change. (24_contactless.md) -/
def Obligations.ReaderCommandsRun : Prop :=
  let only (s t : State) : Prop := t = { s with
    rf := t.rf
    outs := t.outs
    clocks := { s.clocks with xtal27m := t.clocks.xtal27m, rfOsc := t.clocks.rfOsc } }
  let free (s : State) : Bool := unitOn s .rf && !s.rf.result.busy
  let refused (s t : State) : Prop := only s t ∧ t.outs = s.outs ∧
    t.rf = { s.rf with result := { s.rf.result with refused := true } }
  let ended (t : State) (outcome reason : Nat) : Prop := t.rf.result.outcome = outcome ∧ t.rf.result.reason = reason ∧
    t.rf.result.done = true ∧ t.rf.result.busy = false ∧ t.rf.result.rxLen = 0
  let off (t : State) : Prop := t.rf.session = {} ∧ t.rf.tx = [] ∧ t.rf.rx = [] ∧ t.rf.phase = .idle ∧ t.rf.drive = false
  let ev (s t : State) (n : Nat) : Prop := ∀ m, m < 8 → nbit t.rf.events m = (nbit s.rf.events m || m == n)
  let foreign (s t : State) : Prop := only s t ∧ off t ∧ t.rf.field = true ∧
    (if powered s = true then t.rf.holdoff = true ∧ ev s t 1 else t.rf.events = s.rf.events) ∧
    (if s.rf.result.busy = true then ended t 6 12 else t.rf.result = s.rf.result) ∧
    t.outs = s.outs ++ [.pin .fieldDet false]
  (∀ (s : State), contactlessPresent s.part = true → kprRuns s = true → answers .rfActivate s (fun t =>
    if free s = false then refused s t
    else only s t ∧
      if s.rf.field = true ∨ s.rf.holdoff = true then off t ∧ ended t 6 12 ∧ t.outs = s.outs
      else if s.rf.antBad = true then off t ∧ ended t 5 13 ∧ t.outs = s.outs
      else t.rf.result.busy = true ∧ t.rf.drive = true ∧ t.rf.session = {} ∧ t.clocks.rfOsc = true ∧
        if nbit s.rf.cfg.types 0 = true then t.rf.phase = .reqa ∧ t.outs = s.outs ++ [.rf [0x26]]
        else t.rf.phase = .reqb 0 false ∧ t.outs = s.outs ++ [.rf [0x05, 0, 0]])) ∧
  (∀ (s : State) (n : Fin 2048), contactlessPresent s.part = true → kprRuns s = true →
    answers (.rfTransfer n) s (fun t =>
      let b := min (s.rf.session.fsc - 3) n.val
      if free s = false then refused s t
      else only s t ∧
        if s.rf.field = true ∨ s.rf.holdoff = true then off t ∧ ended t 6 12 ∧ t.outs = s.outs
        else if s.rf.session.active = false then ended t 4 0 ∧ t.outs = s.outs
        else if n.val < 4 ∨ 512 < n.val then off t ∧ ended t 2 3 ∧ t.outs = s.outs
        else t.rf.result.busy = true ∧ t.rf.phase = .transfer ∧ t.rf.ctx.committed = decide (b = n.val) ∧
          t.rf.start = s.tick ∧ t.outs = s.outs ++ [.rf (le 1 (2 + (if b < n.val then 16 else 0) + b2n s.rf.ctx.ns) ++
            ((bufBytes s.rf.tx 128).take n.val).take b)])) ∧
  (∀ (s : State), contactlessPresent s.part = true → kprRuns s = true → answers .rfDeactivate s (fun t =>
    if free s = false then refused s t
    else only s t ∧ off t ∧ t.rf.result = s.rf.result ∧
      t.outs = s.outs ++ (if s.rf.session.active then [.rf [0xC2]] else []))) ∧
  (∀ (s : State) (a p : BitVec 16), contactlessPresent s.part = true → kprRuns s = true →
    answers (.calibrate a p) s (fun t =>
      if free s = false then refused s t
      else t.rf = { s.rf with ref := some (a.toNat, p.toNat) } ∧ t.outs = s.outs ∧ only s { t with flash := s.flash })) ∧
  (∀ (s : State), contactlessPresent s.part = true → kprRuns s = true → answers .rfAbort s (fun t =>
    if unitOn s .rf = false then refused s t
    else if s.rf.phase = .transfer then
      only s t ∧ off t ∧ ended t (if s.rf.ctx.committed then 3 else 2) 5 ∧ t.outs = s.outs
    else if s.rf.result.busy = true then refused s t else t = s)) ∧
  (∀ (s : State) (a p : BitVec 16) (lim : Bool), kprRuns s = true → pingDue s = true →
    answers (.rfPing false a p lim) s (fun t =>
      let r := s.rf.ref.getD (0, 0)
      let far (v x : Nat) : Bool := decide (s.rf.cfg.detectThr * x < 1000 * (max v x - min v x))
      only s t ∧ t.outs = s.outs ∧ t.rf = { s.rf with antBad := t.rf.antBad, events := t.rf.events } ∧
      if lim = true ∨ (s.rf.ref.isSome = true ∧ (10 * a.toNat < 3 * r.1 ∨ 3 * r.1 < a.toNat)) then
        t.rf.antBad = true ∧ ev s t 3
      else t.rf.antBad = false ∧
        if s.rf.ref.isSome = true ∧ (far a.toNat r.1 = true ∨ far p.toNat r.2 = true) then ev s t 0
        else t.rf.events = s.rf.events)) ∧
  (∀ (s : State) (a p : BitVec 16) (lim : Bool), kprRuns s = true → pingDue s = true →
    answers (.rfPing true a p lim) s (fun t => foreign s t)) ∧
  (∀ (s : State), contactlessPresent s.part = true → s.rf.field = false →
    answers .foreignFieldOn s (fun t => foreign s t)) ∧
  (∀ (s : State), contactlessPresent s.part = true → s.rf.field = true → answers .foreignFieldOff s (fun t => only s t ∧
    t.rf.field = false ∧ (if powered s = true then t.rf.holdoff = true ∧ ev s t 2 else t.rf.events = s.rf.events) ∧
    t.rf.result = s.rf.result ∧ t.rf.session = s.rf.session ∧ t.outs = s.outs ++ [.pin .fieldDet true])) ∧
  (∀ (s : State), answers .holdoffExpiry s (fun t =>
    only s t ∧ t.outs = s.outs ∧ t.rf = { s.rf with holdoff := s.rf.holdoff && s.rf.field })) ∧
  (∀ (s : State) (v : BitVec 32), contactlessPresent s.part = true → kprRuns s = true →
    answers (.rfxCfgWrite v) s (fun t =>
      let n := v.toNat
      let x : RfCfg := ⟨n % 4, n / 4 % 4, n / 16 % 2048, n / 32768 % 256, decide (n / 8388608 % 2 = 1), n / 16777216⟩
      if 1 ≤ x.types ∧ 100 ≤ x.pingInt ∧ x.pingInt ≤ 2000 ∧ 1 ≤ x.detectThr ∧ 1 ≤ x.maxWait then
        only s t ∧ t.outs = s.outs ∧ t.rf = { s.rf with cfg := x } else t = s))

/-- The frames of a reader's activation and transfer. With the keeper clock running. Polling for Type A goes on to
anticollision when a badge answers, and to Type B, where allowed, or MUTE when none does; Type B polls one slot, then
on a faulty answer sixteen, then MUTE. A complete answer of a level, its check byte right, is selected; a collision
adds the bits before it and one more. A SAK with cascade goes on to the next level, one with ISO/IEC 14443-4 draws
RATS, and any other fails the activation. ATS and ATQB set frame size and rates, and lead to PPS where a rate above
106 kbit/s is chosen, or to ATTRIB. An answered PPS or ATTRIB ends the activation OK with the badge ACTIVE; an answer
of the wrong form ends it with PROTOCOL. An invalid frame, or none within the waiting time, draws two retransmissions
or R(NAK) blocks and then ends the work with PROTOCOL or LOST and the field off; the outcome follows the commit. In a
transfer the I-block expected adds its data: the last ends it OK, one with chaining draws an R(ACK), beyond 512 bytes
it ends with LONG_RESPONSE; an R(ACK) of a chained block draws the next, one with the other number the same block
again; an S(WTX) draws its answer with the multiplier. (24_contactless.md) -/
def Obligations.ReaderFramesRun : Prop :=
  let only (s t : State) : Prop := t = { s with
    rf := t.rf
    outs := t.outs
    free := t.free
    clocks := { s.clocks with xtal27m := t.clocks.xtal27m, rfOsc := t.clocks.rfOsc } }
  let sent (s t : State) (p : RfPhase) (b : Bytes) : Prop := only s t ∧ t.rf.phase = p ∧ t.outs = s.outs ++ [.rf b]
  let ended (t : State) (outcome reason : Nat) : Prop := t.rf.result.outcome = outcome ∧ t.rf.result.reason = reason ∧
    t.rf.result.done = true ∧ t.rf.result.busy = false ∧ t.rf.phase = .idle
  let failed (s t : State) (reason : Nat) : Prop := only s t ∧ t.outs = s.outs ∧ t.rf.session = {} ∧ t.rf.drive = false ∧
    ended t (if s.rf.phase = .transfer then (if s.rf.ctx.committed then 3 else 2) else 5) reason
  let spent (s t : State) (reason : Nat) : Prop :=
    let x := s.rf.ctx
    if 2 ≤ x.rTries then failed s t reason
    else t.rf.ctx.rTries = x.rTries + 1 ∧ t.rf.session = s.rf.session ∧
      sent s t s.rf.phase (if s.rf.phase = .transfer ∧ (0 < x.cur ∨ byteAt x.last 0 = 0xF2) then
        [0xB2 + BitVec.ofNat 8 (b2n x.ns)] else x.last)
  let active (s t : State) : Prop := only s t ∧ ended t 1 0 ∧ t.outs = s.outs ∧
    t.rf.session = { s.rf.session with active := true, uidLen := s.rf.uid.length }
  let slot (s t : State) (n : Nat) (a : Bool) : Prop :=
    if a = true ∧ n < 15 then sent s t (.reqb (n + 1) true) (le 1 (16 * (n + 1) + 5)) else failed s t 8
  let waits (p : RfPhase) : Bool := match p with | .idle => false | .reqa => false | .reqb _ _ => false | _ => true
  (∀ (s : State), kprRuns s = true → s.rf.phase = .reqa → answers .rfFwtTimeout s (fun t =>
    if nbit s.rf.cfg.types 1 = true then sent s t (.reqb 0 false) [5, 0, 0] else failed s t 8)) ∧
  (∀ (s : State) (n : Nat) (a : Bool), kprRuns s = true → s.rf.phase = .reqb n a →
    answers .rfFwtTimeout s (fun t => slot s t n a)) ∧
  (∀ (s : State), kprRuns s = true → waits s.rf.phase = true → answers .rfFwtTimeout s (fun t => spent s t 1)) ∧
  (∀ (s : State) (b : List (BitVec 8)) (c : Option (Fin 40)) (n : Nat) (a : Bool), kprRuns s = true →
    s.rf.phase = .reqb n a → answers (.rfBlockReceived b false c) s (fun t =>
      if a = true then slot s t n a else sent s t (.reqb 0 true) [5, 0, 4])) ∧
  (∀ (s : State) (b : List (BitVec 8)), kprRuns s = true → waits s.rf.phase = true →
    answers (.rfBlockReceived b false none) s (fun t => spent s t 3)) ∧
  (∀ (s : State) (b : List (BitVec 8)) (ok : Bool) (c : Option (Fin 40)), kprRuns s = true → s.rf.phase = .reqa →
    answers (.rfBlockReceived b ok c) s (fun t => sent s t (.anticoll 0) [0x93, 0x20])) ∧
  (∀ (s : State) (b : List (BitVec 8)) (l : Nat), kprRuns s = true → s.rf.phase = .anticoll l →
    answers (.rfBlockReceived b true none) s (fun t =>
      if b.length ≠ 5 ∨ xorAll b ≠ 0 then failed s t 3
      else sent s t (.select l) ([if l = 0 then 0x93 else if l = 1 then 0x95 else 0x97, 0x70] ++ b) ∧
        t.rf.uid = s.rf.uid ++ (if byteAt b 0 = 0x88 then (b.drop 1).take 3 else b.take 4))) ∧
  (∀ (s : State) (b : List (BitVec 8)) (ok : Bool) (m : Fin 40) (l : Nat), kprRuns s = true → s.rf.phase = .anticoll l →
    answers (.rfBlockReceived b ok (some m)) s (fun t =>
      let n := max m.val s.rf.known.length
      if 32 ≤ n then failed s t 3
      else sent s t (.anticoll l) (antiFrame l t.rf.known) ∧ t.rf.known.take ((bitsOf b).take n).length = (bitsOf b).take n ∧
        t.rf.known.length = ((bitsOf b).take n).length + 1)) ∧
  (∀ (s : State) (b : List (BitVec 8)) (c : Option (Fin 40)) (l : Nat), kprRuns s = true → s.rf.phase = .select l →
    answers (.rfBlockReceived b true c) s (fun t =>
      if b.length ≠ 1 then failed s t 3
      else if nbit (byteAt b 0) 2 = true then
        if l < 2 then sent s t (.anticoll (l + 1)) [if l = 0 then 0x95 else 0x97, 0x20] else failed s t 3
      else if nbit (byteAt b 0) 5 = true then sent s t .rats [0xE0, 0x80]
      else failed s t t.rf.result.reason)) ∧
  (∀ (s : State) (b : List (BitVec 8)) (c : Option (Fin 40)), kprRuns s = true → s.rf.phase = .rats →
    answers (.rfBlockReceived b true c) s (fun t =>
      let t0 := if 2 ≤ byteAt b 0 then byteAt b 1 else 2
      let r := ratesOf (if nbit t0 4 then byteAt b 2 else 0) s.rf.cfg.maxRate
      if byteAt b 0 = 0 ∨ byteAt b 0 ≠ b.length then failed s t 3
      else t.rf.session.typeB = false ∧ t.rf.session.fsc = fscOf (t0 % 16) ∧
        (t.rf.session.rateTx, t.rf.session.rateRx) = r ∧
        if r = (0, 0) then only s t ∧ ended t 1 0 ∧ t.outs = s.outs ∧ t.rf.session.active = true
        else sent s t .pps ([0xD0, 0x11] ++ le 1 (4 * r.2 + r.1)))) ∧
  (∀ (s : State) (b : List (BitVec 8)) (c : Option (Fin 40)), kprRuns s = true → s.rf.phase = .pps →
    answers (.rfBlockReceived b true c) s (fun t => if b = [0xD0] then active s t else failed s t 3)) ∧
  (∀ (s : State) (b : List (BitVec 8)) (c : Option (Fin 40)), kprRuns s = true → s.rf.phase = .attrib →
    answers (.rfBlockReceived b true c) s (fun t => active s t)) ∧
  (∀ (s : State) (b : List (BitVec 8)) (c : Option (Fin 40)) (n : Nat) (a : Bool), kprRuns s = true →
    s.rf.phase = .reqb n a → answers (.rfBlockReceived b true c) s (fun t =>
      let r := ratesOf (byteAt b 9) s.rf.cfg.maxRate
      if b.length < 12 ∨ byteAt b 0 ≠ 0x50 then failed s t 3
      else if nbit (byteAt b 10) 0 = false then failed s t t.rf.result.reason
      else t.rf.uid = (b.drop 1).take 4 ∧ t.rf.session.typeB = true ∧
        t.rf.session.fsc = fscOf (byteAt b 10 / 16) ∧ (t.rf.session.rateTx, t.rf.session.rateRx) = r ∧
        sent s t .attrib ([0x1D] ++ (b.drop 1).take 4 ++ [0x00] ++ le 1 (8 + 16 * r.1 + 64 * r.2) ++ [0x01, 0x00]))) ∧
  (∀ (s : State) (b : List (BitVec 8)) (c : Option (Fin 40)), kprRuns s = true → s.rf.phase = .transfer →
    answers (.rfBlockReceived b true c) s (fun t =>
      let x := s.rf.ctx
      let p := byteAt b 0
      let inf := b.drop 1
      let part := decide (0 < x.cur ∧ x.off + x.cur < x.request.length)
      let o := if nbit p 0 = x.ns then x.off + x.cur else x.off
      let n := min (s.rf.session.fsc - 3) (x.request.length - o)
      let more := decide (o + n < x.request.length)
      let ns := if nbit p 0 = x.ns then !x.ns else x.ns
      let m := byteAt inf 0 % 64
      if b ≠ [] ∧ p / 32 = 0 ∧ p % 16 / 2 = 1 ∧ part = false ∧ nbit p 0 = x.ns then
        if 512 < (x.resp ++ inf).length then failed s t 7
        else if nbit p 4 = true then sent s t .transfer (le 1 (0xA2 + b2n (!x.ns))) ∧ t.rf.ctx.resp = x.resp ++ inf ∧
          t.rf.ctx.ns = !x.ns
        else only s t ∧ ended t 1 0 ∧ t.rf.rx = x.resp ++ inf ∧ t.rf.result.rxLen = t.rf.rx.length ∧
          t.rf.session = s.rf.session ∧ t.outs = s.outs
      else if p / 2 = 0x51 ∧ b.length = 1 ∧ 0 < x.cur ∧ (nbit p 0 = x.ns → part = true) then
        t.rf.ctx.ns = ns ∧ t.rf.ctx.off = o ∧ t.rf.ctx.committed = (x.committed || !more) ∧
        sent s t .transfer (le 1 (2 + 16 * b2n more + b2n ns) ++ (x.request.drop o).take n)
      else if p = 0xF2 ∧ inf.length = 1 ∧ 1 ≤ m ∧ m ≤ 59 then
        sent s t .transfer ([0xF2] ++ le 1 m) ∧ t.rf.ctx.wtxMult = m ∧
        t.rf.result = { s.rf.result with wtx := min 255 (s.rf.result.wtx + 1) }
      else spent s t 3))

/-- The Tabow commands. A Daymark that hears and is not quiet ends its selection at INVENTORY with Q of at most 8, opens a
round of 2^Q slots and answers in slot 0 where that is the slot it drew; each lone EOF opens the next slot, in which
it answers where that is its slot, until the round ends. SELECT of its handle answers IDENT and a fresh RAND; of
another it deselects. While it is selected: READ_PAGE gives the 256 bytes of a page, with bytes 16 to 23 of page 1
live, and BAD_PAGE above 63; WRITE_PAGE of 256 bytes answers WRITE_LOCKED while writes are locked or no password is
set, NOT_AUTH without AUTH, BAD_PAGE above 63, READ_ONLY below 16, and otherwise the write is queued; AUTH answers
WRITE_LOCKED while locked, OK for the password XOR RAND, and AUTH_FAIL otherwise, the eighth in a row locking writes;
QUIET answers and makes it ignore every command. When the field is lost, selection, quiet state, round and handle end,
and the reader's writes with them. Each answer carries the status first and a CRC last, and while the module is
powered it is counted and sets DM_ACCESS. (24_contactless.md) -/
def Obligations.DaymarkAnswers : Prop :=
  let said (s t : State) (status : BitVec 8) (b : Bytes) : Prop :=
    t.outs = s.outs ++ [.daymark (status :: b ++ crc16 (status :: b))] ∧
    t.rf = (if powered s then { s.rf with events := setBit s.rf.events 4 } else s.rf) ∧
    t.daymark.accesses = if powered s then (s.daymark.accesses + 1) % 65536 else s.daymark.accesses
  let mute (s t : State) : Prop := t.outs = s.outs ∧ t.rf = s.rf ∧ t.daymark.accesses = s.daymark.accesses
  let store (s t : State) : Prop := t.daymark.pages = s.daymark.pages ∧ t.daymark.password = s.daymark.password ∧
    t = { s with
      daymark := t.daymark
      rf := t.rf
      outs := t.outs
      free := t.free
      clocks := { s.clocks with xtal27m := t.clocks.xtal27m, rfOsc := t.clocks.rfOsc } }
  let gone (t : State) : Prop := t.daymark.selected = false ∧ t.daymark.auth = false
  let slot (s t : State) (n : Nat) : Prop :=
    if t.daymark.handle.isSome = true ∧ t.daymark.slot = n then said s t 0 (le 2 (t.daymark.handle.getD 0)) else mute s t
  (∀ (s : State) (q : BitVec 8), dayHears s = true → s.daymark.quiet = false → q.toNat ≤ 8 →
    answers (.inventory q) s (fun t => store s t ∧ gone t ∧ slot s t 0 ∧ t.daymark.round = some (q.toNat, 0) ∧
      t.daymark.slot < 2 ^ q.toNat ∧ t.daymark.handle.any (fun h => decide (h < 65536)) = true)) ∧
  (∀ (s : State) (r : Nat × Nat), dayHears s = true → s.daymark.quiet = false → s.daymark.round = some r →
    answers .daymarkSlotAdvance s (fun t => store s t ∧ t.daymark.handle = s.daymark.handle ∧
      t.daymark.selected = s.daymark.selected ∧
      if r.2 + 1 < 2 ^ r.1 then t.daymark.round = some (r.1, r.2 + 1) ∧ slot s t (r.2 + 1)
      else t.daymark.round = none ∧ mute s t)) ∧
  (∀ (s : State) (h : BitVec 16), dayHears s = true → s.daymark.quiet = false → answers (.select h) s (fun t =>
    store s t ∧
    if s.daymark.handle = some h.toNat then t.daymark.selected = true ∧ t.daymark.auth = s.daymark.auth ∧
      t.daymark.rand.length = 8 ∧ said s t 0 (slice Config.serial 0 8 ++ t.daymark.rand)
    else gone t ∧ mute s t)) ∧
  (∀ (s : State) (p : BitVec 8) (vb : Bool), daySelected s = true → answers (.readPage p vb) s (fun t => store s t ∧
    t.daymark.selected = true ∧
    let b := match t.outs.getLast? with | some (.daymark f) => slice f 1 256 | _ => []
    if 63 < p.toNat then said s t 1 []
    else said s t 0 b ∧ b.length = 256 ∧
      if p = 1 then b.take 16 = (pageBytes s 1).take 16 ∧ b.drop 24 = (pageBytes s 1).drop 24 ∧
        slice b 16 8 = if vb = false ∧ powered s = false then List.replicate 8 0xFF else
          [BitVec.ofNat 8 (b2n s.watch.lock + 2 * b2n s.watch.restrict + 4 * b2n s.backup.zeroisedBk +
            8 * b2n s.backup.batLow), BitVec.ofNat 8 s.backup.bkSource, 0, 0, 0, 0, 0, 0]
      else b = pageBytes s p.toNat)) ∧
  (∀ (s : State) (p : BitVec 8) (b : List (BitVec 8)), daySelected s = true → b.length = 256 →
    answers (.writePage p b) s (fun t => store s t ∧
      let stop := if s.daymark.locked = true ∨ s.daymark.password = [] then 4 else if s.daymark.auth = false then 2
        else if 63 < p.toNat then 1 else if p.toNat < 16 then 5 else 0
      if stop ≠ 0 then said s t (BitVec.ofNat 8 stop) [] ∧ t.daymark.writes = s.daymark.writes
      else mute s t ∧ t.daymark.writes = s.daymark.writes ++ [⟨p.toNat, b, .reader⟩])) ∧
  (∀ (s : State) (x : BitVec 64), daySelected s = true → answers (.auth x) s (fun t => store s t ∧
    if s.daymark.locked = true ∨ s.daymark.password = [] then said s t 4 [] ∧ t.daymark.fails = s.daymark.fails
    else if le 8 x.toNat = List.zipWith (· ^^^ ·) s.daymark.password s.daymark.rand then
      said s t 0 [] ∧ t.daymark.auth = true ∧ t.daymark.fails = 0
    else said s t 3 [] ∧ t.daymark.auth = s.daymark.auth ∧ t.daymark.fails = s.daymark.fails + 1 ∧
      t.daymark.locked = decide (7 ≤ s.daymark.fails))) ∧
  (∀ (s : State), daySelected s = true → answers .quiet s (fun t => store s t ∧ gone t ∧ t.daymark.quiet = true ∧
    said s t 0 [])) ∧
  (∀ (s : State) (e : Bool), contactlessPresent s.part = true → answers (.daymarkFieldLoss e) s (fun t =>
    t = { s with daymark := t.daymark, free := t.free } ∧ gone t ∧ t.daymark.accesses = s.daymark.accesses ∧
    t.daymark.quiet = false ∧ t.daymark.handle = none ∧ t.daymark.round = none ∧
    t.daymark.fails = s.daymark.fails ∧ t.daymark.locked = s.daymark.locked ∧
    t.daymark.writes = s.daymark.writes.filter (fun w => decide (w.source ≠ .reader))))

/-- Page writes, the check at power, and the password. A page write that verifies gives its page the new content and no
other page another; one that does not leaves every page as it read. It is answered with OK or PROGRAM_FAIL to a
reader, or ends a page command with DONE, and FAIL where it did not verify. The check at power leaves what every page
reads as, and no page with two committed copies that both hold. With the keeper clock running, on a powered part with
Daymark, a page command of firmware, while none runs, queues the buffer's 256 bytes, or copies what the page reads as
into the buffer. DAYMARK_PASSWORD with a body that is not zero sets the password and DAYMARK_UNLOCK clears the lock
and the failures, each with one entry, while the logbook takes changes. (24_contactless.md, 05_domains.md) -/
def Obligations.DaymarkPagesAreWritten : Prop :=
  (∀ (s : State) (ok : Bool) (w : PageWrite) (r : List PageWrite), s.daymark.writes = w :: r →
    answers (.daymarkPageWriteDone ok) s (fun t => t.daymark.writes = r ∧
      (∀ p, p < 64 → pageBytes t p = if ok = true ∧ p = w.page then slice w.data 0 256 else pageBytes s p) ∧
      t.daymark.password = s.daymark.password ∧ t.daymark.buf = s.daymark.buf ∧
      let f : Bytes := [if ok then 0 else 6]
      t.outs = s.outs ++ (if w.source = .reader then [.daymark (f ++ crc16 f)] else []) ∧
      t.daymark.pageDone = (s.daymark.pageDone || decide (w.source = .regs)) ∧
      t.daymark.pageFail = (s.daymark.pageFail || (decide (w.source = .regs) && !ok)))) ∧
  (∀ (s : State), contactlessPresent s.part = true → answers .daymarkPowerUp s (fun t =>
    t = { s with daymark := t.daymark } ∧ (∀ p, p < 64 → pageBytes t p = pageBytes s p) ∧
    (∀ p, p < 64 → ((dayPage t p).c0.ok && (dayPage t p).c1.ok) = false))) ∧
  (∀ (s : State) (p : Fin 64), kprRuns s = true → contactlessPresent s.part = true → powered s = true →
    pageBusy s = false → answers (.firmwarePageWrite p) s (fun t => pageBusy t = true ∧
      t = { s with daymark := { s.daymark with
        writes := s.daymark.writes ++ [⟨p.val, bufBytes s.daymark.buf 64, .regs⟩] } })) ∧
  (∀ (s : State) (p : Fin 64), kprRuns s = true → contactlessPresent s.part = true → powered s = true →
    pageBusy s = false → answers (.firmwarePageRead p) s (fun t => t.daymark.pageDone = true ∧
      bufBytes t.daymark.buf 64 = pageBytes s p.val ∧
      t = { s with daymark := { s.daymark with buf := t.daymark.buf, pageDone := true } })) ∧
  (∀ (s : State) (d : Fin 256) (c : AdminCmd), cmdReady s d.val 0x8F 0x30 c → c.pb.length = 8 →
    dayRefusal s c (!allZero c.pb) = none → logRefusal s = none → answers (.daymarkPassword d) s (fun t =>
      cmdEnds t d.val c stOK 0 [] ∧ t.daymark = { s.daymark with password := c.pb } ∧
      t.log.nextSeq = s.log.nextSeq + 1 ∧ t.rf = s.rf ∧ t.units = s.units ∧ t.ops = s.ops)) ∧
  (∀ (s : State) (d : Fin 256) (c : AdminCmd), cmdReady s d.val 0x8F 0x31 c → dayRefusal s c true = none →
    logRefusal s = none → answers (.daymarkUnlock d) s (fun t =>
      cmdEnds t d.val c stOK 0 [] ∧ t.daymark = { s.daymark with locked := false, fails := 0 } ∧
      t.log.nextSeq = s.log.nextSeq + 1 ∧ t.rf = s.rf ∧ t.units = s.units ∧ t.ops = s.ops))

/-- The test access port: what is permitted runs, attaches and resets; what is not acts as BYPASS. While the logic die is
powered: BYPASS passes data through one bit that captures 0; IDCODE reads 0x1640_A2B7; a permitted SAMPLE_PRELOAD
preloads the boundary register; a permitted instruction of a master not yet attached, with a logbook that can record,
attaches first, which pends source 14. DEBUG_RESET and EXTEST reset the logic die to boot step 3, add DEBUG to the
reset cause and keep lifecycle, backup domain and firmware; during a cold start only the cause is recorded. TAP_RESET
ends the certificate, and detaches an attached master, pending source 14; CERT_LOAD takes a certificate exactly when
it is judged and good. With the keeper clock running: DEBUG_HALT sets HALT and DEBUG_STEP gives each halted core named
one instruction, where core 0's regions permit the write, and else is dropped; DBG_ACCESS to one shared word reads it
with its tag, a SECRET word as 0 tagged ERR, and stores an INT word over an INT word, and drops a store over any other
tag, all where core 0's regions permit it; a D register of a halted core is read and written likewise, and of a core
not halted is dropped. An instruction without its permission, or whose attach the logbook refuses, changes nothing but
DROPS, the bypass bit and EXTEST. (25_boot_debug.md, 03_clocks_resets.md, 21_watch_backup.md) -/
def Obligations.DebugIsPermitted : Prop :=
  let may (bit : Nat) (s : State) : Bool :=
    nbit (debugPerms s) bit && (s.tap.attached || decide (recordBlock s = 0))
  let entered (s : State) : State := if s.tap.attached then s else attach s
  let bypassed (s t : State) : Prop := t = { s with tap := { s.tap with
    drops := min 65535 (s.tap.drops + 1), bypass := false, extest := false } }
  let dropped (s t : State) : Prop := t = { entered s with tap := { (entered s).tap with
    drops := min 65535 ((entered s).tap.drops + 1), extest := false } }
  let reset (s t : State) : Prop := t.clocks.resetCause = setBit s.clocks.resetCause 2 ∧ t.lifecycle = s.lifecycle ∧
    t.backup.kek = s.backup.kek ∧ t.backup.rtcSec = s.backup.rtcSec ∧ t.flash.fw = s.flash.fw ∧ t.tap.attached = true ∧
    if coldStart s = true then t.power.phase = s.power.phase else t.power.phase = .booting 3 ∧ t.ops = [] ∧ t.moor.slots = []
  let shown (w : KWord) : Nat := if w.tag = .secret then 5 * 2 ^ 32 else w.val.toNat + w.tag.num * 2 ^ 32
  (∀ (s : State) (tdi : List Bool), powered s = true → answers (.bypass tdi) s (fun t =>
    t = { s with outs := t.outs, tap := { s.tap with bypass := tdi.getLastD false, extest := false } } ∧
    t.outs = s.outs ++ [.tap (bitsNat tdi.length fun i => i != 0 && tdi.getD (i - 1) false)])) ∧
  (∀ (s : State), powered s = true → answers .idcode s (fun t =>
    t = { s with outs := s.outs ++ [.tap 0x1640A2B7], tap := { s.tap with extest := false } })) ∧
  (∀ (s : State) (pre : Nat), powered s = true → answers (.samplePreload pre) s (fun t =>
    if nbit (debugPerms s) 0 = true then t.tap = { s.tap with boundary := pre, extest := false } ∧
      t = { s with tap := t.tap, outs := t.outs, free := t.free }
    else bypassed s t)) ∧
  (∀ (s : State), powered s = true → answers .debugReset s (fun t =>
    if may 2 s = true then reset s t else bypassed s t)) ∧
  (∀ (s : State) (v : Nat), powered s = true → answers (.extest v) s (fun t =>
    if may 0 s = true then reset s t ∧ t.tap.boundary = v ∧ t.tap.extest = true else bypassed s t)) ∧
  (∀ (s : State), powered s = true → answers .tapReset s (fun t => t.tap.attached = false ∧ t.tap.cert = none ∧
    if s.tap.attached = true then pended 14 s t else t = { s with tap := t.tap })) ∧
  (∀ (s : State) (cert : Bytes), powered s = true → answers (.certLoad cert) s (fun t =>
    let c : DebugCert := ⟨leAt cert 12 4, byteAt cert 16, byteAt cert 17⟩
    t = { s with tap := { s.tap with
      extest := false, cert := if judgesCert s = true ∧ certOk s cert c = true then some c else s.tap.cert } })) ∧
  (∀ (s : State) (h : Fin 16), kprRuns s = true → powered s = true → answers (.debugHalt h) s (fun t =>
    if may 1 s = false then bypassed s t
    else if dbgMpuOk s 0x40150008 1 .write = true then
      t.tap = { (entered s).tap with halt := h.val, extest := false } ∧ t.moor = s.moor ∧ t.ops = (entered s).ops ∧
      (if s.tap.attached = false then pended 14 s t else True)
    else dropped s t)) ∧
  (∀ (s : State) (w : Fin 16), kprRuns s = true → powered s = true → s.tap.halt < 16 →
    answers (.debugStep w) s (fun t =>
      if may 1 s = false then bypassed s t
      else if dbgMpuOk s 0x40150008 1 .write = true then t.tap.halt = s.tap.halt ∧
        (∀ n, n < 4 → (getCore t n).step = (haltedCore s n && ((getCore s n).step || nbit w.val n)))
      else dropped s t)) ∧
  (∀ (s : State) (a v : BitVec 32), kprRuns s = true → powered s = true → 0x10000000 ≤ a.toNat → a.toNat < 0x10400000 →
    a.toNat % 4 = 0 → answers (.dbgAccess (.mem a) (.write [v])) s (fun t =>
      let w := (a.toNat - 0x10000000) / 4
      if may 1 s = false then bypassed s t
      else if dbgMpuOk s a.toNat 1 .write = false ∨ (mget {} s.keeper.shared w).tag ≠ .int then dropped s t
      else t.keeper.shared = mset {} s.keeper.shared w ⟨v, .int⟩ ∧ t.tap.drops = s.tap.drops)) ∧
  (∀ (s : State) (a : BitVec 32), kprRuns s = true → powered s = true → 0x10000000 ≤ a.toNat → a.toNat < 0x10400000 →
    a.toNat % 4 = 0 → answers (.dbgAccess (.mem a) (.read 0)) s (fun t =>
      let w := (a.toNat - 0x10000000) / 4
      if may 1 s = false then bypassed s t
      else if dbgMpuOk s a.toNat 1 .read = false then dropped s t
      else t = { entered s with
        outs := (entered s).outs ++ [.tap (shown (mget {} s.keeper.shared w))]
        tap := { (entered s).tap with extest := false } })) ∧
  (∀ (s : State) (c : Fin 4) (sh : Bool) (i : Fin 16), kprRuns s = true → powered s = true →
    answers (.dbgAccess (.core c (.d sh i)) (.read 0)) s (fun t =>
      if may 1 s = false then bypassed s t
      else if haltedCore s c.val = false then dropped s t
      else t = { entered s with
        outs := (entered s).outs ++ [.tap (shown (((getCore s c.val).bankAt sh).getD i.val))]
        tap := { (entered s).tap with extest := false } })) ∧
  (∀ (s : State) (c : Fin 4) (sh : Bool) (i : Fin 16) (v : BitVec 32), kprRuns s = true → powered s = true →
    answers (.dbgAccess (.core c (.d sh i)) (.write [v])) s (fun t =>
      if may 1 s = false then bypassed s t
      else if haltedCore s c.val = false ∨ (((getCore s c.val).bankAt sh).getD i.val).tag ≠ .int then dropped s t
      else t.tap.drops = s.tap.drops ∧ ((getCore t c.val).bankAt sh).getD i.val = ⟨v, .int⟩ ∧
        (getCore t c.val).bankAt (!sh) = (getCore s c.val).bankAt (!sh) ∧
        (∀ j, j < 16 → j ≠ i.val →
          ((getCore t c.val).bankAt sh).getD j = ((getCore s c.val).bankAt sh).getD j))) ∧
  (∀ (s : State) (tg : DbgTarget) (x : DbgXfer), kprRuns s = true → powered s = true → may 1 s = false →
    answers (.dbgAccess tg x) s (fun t => bypassed s t))

/-- ROOTS, CUSTODY, STRAP and COMPLETE. For a command that passes its own checks, while the logbook takes changes: ROOTS
stages the owner's keys, and where the root fuses are blown refuses keys that do not match them with BAD_PARAMETER and
DETAIL 3. CUSTODY in FACTORY stages UNLOCK_M and the entries; later it replaces the record's, keeping the password
table, and only with a completed approval, which it uses up, or else is refused with POLICY_DENIED. STRAP stages the
strap word. Each is one entry and changes nothing else that is staged. COMPLETE without staged ROOTS and CUSTODY is
refused with POLICY_DENIED; with them its first run logs it, makes the session's port the owner port, the staged
values the records, and leaves the command waiting to run again. A further run in FACTORY waits while a record is not
yet in flash; then it blows the root fuses with the keys' digest; then it waits while a commit is busy or a draw
waits; then it writes a new KEK of 32 bytes with its canary, makes the state COMMISSIONED and completes.
(25_boot_debug.md, 21_watch_backup.md, 05_domains.md) -/
def Obligations.CommissioningRuns : Prop :=
  let stays (s t : State) : Prop := t.lifecycle = s.lifecycle ∧ t.ownerPort = s.ownerPort ∧ t.backup = s.backup ∧
    t.units = s.units ∧ t.ops = s.ops ∧ t.strapNext = s.strapNext ∧ t.owner.rootFuse = s.owner.rootFuse
  let entry (c : AdminCmd) (i : Nat) : Custodian := {
    id := byteAt c.pb (8 + 80 * i), role := byteAt c.pb (9 + 80 * i), methods := byteAt c.pb (10 + 80 * i)
    unlock := byteAt c.pb (11 + 80 * i) == 1, key := slice c.pb (16 + 80 * i) 65 }
  (∀ (s : State) (d : Fin 256) (c : AdminCmd), cmdReady s d.val 0x8F 0x40 c → c.pb.length = 2056 →
    factoryOnly s c (allZero (c.pb.drop 2049)) = none → logRefusal s = none → answers (.roots d) s (fun t =>
      if s.owner.rootFuse ≠ [] ∧ rootDigest c.pb ≠ s.owner.rootFuse then
        onlyService s t ∧ cmdEnds t d.val c stBadParameter 3 []
      else cmdEnds t d.val c stOK 0 [] ∧ t.owner = { s.owner with staged := { s.owner.staged with roots := some c.pb } } ∧
        t.log.nextSeq = s.log.nextSeq + 1 ∧ stays s t)) ∧
  (∀ (s : State) (d : Fin 256) (c : AdminCmd), cmdReady s d.val 0x8F 0x41 c → custodyRefusal s c = none →
    logRefusal s = none → answers (.custody d) s (fun t =>
      let l := (List.range (byteAt c.pb 1)).map (entry c)
      if s.lifecycle = .factory then cmdEnds t d.val c stOK 0 [] ∧ stays s t ∧ t.log.nextSeq = s.log.nextSeq + 1 ∧
        t.owner = { s.owner with staged := { s.owner.staged with
          custody := some { unlockM := byteAt c.pb 0, list := l } } }
      else if approved s c = true then cmdEnds t d.val c stOK 0 [] ∧ stays s t ∧ t.log.nextSeq = s.log.nextSeq + 1 ∧
        t.keys.approval = none ∧
        t.owner = { s.owner with custody := { s.owner.custody with unlockM := byteAt c.pb 0, list := l } }
      else onlyService s t ∧ cmdEnds t d.val c stPolicyDenied 0 [])) ∧
  (∀ (s : State) (d : Fin 256) (c : AdminCmd), cmdReady s d.val 0x8F 0x42 c → c.pb.length = 8 →
    factoryOnly s c (allZero (c.pb.drop 4)) = none → logRefusal s = none → answers (.strap d) s (fun t =>
      cmdEnds t d.val c stOK 0 [] ∧ t.log.nextSeq = s.log.nextSeq + 1 ∧ stays s t ∧
      t.owner = { s.owner with staged := { s.owner.staged with strap := some (leAt c.pb 0 4 % 256) } })) ∧
  (∀ (s : State) (d : Fin 256) (c : AdminCmd), cmdReady s d.val 0x8F 0x43 c → c.staged = false →
    factoryOnly s c true = none → logRefusal s = none → answers (.complete d) s (fun t =>
      if s.owner.staged.roots.isSome = true ∧ s.owner.staged.custody.isSome = true then
        servingOf t d.val = some { c with staged := true } ∧ t.ownerPort = d.val / 64 ∧ t.owner.staged = {} ∧
        t.owner.roots = s.owner.staged.roots.getD [] ∧ t.owner.rootFuse = s.owner.rootFuse ∧
        t.owner.custody.list = (s.owner.staged.custody.map Custody.list).getD [] ∧
        t.owner.custody.unlockM = (s.owner.staged.custody.map Custody.unlockM).getD 0 ∧
        t.strapNext = s.owner.staged.strap.getD s.strapNext ∧ s.log.nextSeq < t.log.nextSeq ∧
        t.lifecycle = s.lifecycle ∧ t.backup = s.backup ∧ t.units = s.units ∧ t.ops = s.ops
      else onlyService s t ∧ cmdEnds t d.val c stPolicyDenied 0 [])) ∧
  (∀ (s : State) (d : Fin 256) (c : AdminCmd), cmdReady s d.val 0x8F 0x43 c → c.staged = true → s.lifecycle = .factory →
    answers (.complete d) s (fun t =>
      if recordWaits s 6 setOwner = true ∨ recordWaits s 4 0 = true then t = s
      else if s.owner.rootFuse ≠ rootDigest s.owner.roots then
        t = { s with owner := { s.owner with rootFuse := rootDigest s.owner.roots } }
      else if commitBusy s = true ∨ drawWaits s = true then t = s
      else cmdEnds t d.val c stOK 0 [] ∧ t.lifecycle = .commissioned ∧ t.owner = s.owner ∧
        t.backup.kek.length = 32 ∧ t.backup.kekPresent = true ∧ t.backup.canaryOk = true ∧ t.moor = s.moor ∧
        t.backup.rtcSec = s.backup.rtcSec ∧ t.backup.bootCount = s.backup.bootCount))

/-- FW_UPDATE and APPLET_LOAD. For a command whose form is good, with the keeper clock running: BEGIN, with IMAGE_SEQ
above the running image's and a logbook that takes changes, erases every page of the bank that does not run and no
other page, and opens the update. DATA without an update is refused with POLICY_DENIED; past the image's length or
onto a programmed page it ends with BAD_PARAMETER and DETAIL 3; in flash stage 5 with LOG_FULL and DETAIL 2; otherwise
it programs the input's pages at OFFSET and no other page. FINISH without an update is refused with POLICY_DENIED; it
ends with AUTH_FAIL where a signer's block fails, with BAD_PARAMETER and DETAIL 3 where another check does, and
otherwise, where the logbook takes changes, programs the ACTIVATE page alone with the image's number and ends the
update. ABORT ends the update and programs nothing. APPLET_LOAD, where the logbook takes changes, fills its slot with
the code, or ends with AUTH_FAIL where the owner's signature fails, and SUBOP 1 empties the slot; no other slot
changes. The bank that runs goes on running. (25_boot_debug.md) -/
def Obligations.FirmwareIsUpdated : Prop :=
  let stays (s t : State) : Prop := t.boot.bank = s.boot.bank ∧ t.lifecycle = s.lifecycle ∧ t.units = s.units ∧
    t.ops = s.ops ∧ t.keeper = s.keeper ∧ t.backup = s.backup
  let ends (s t : State) (d : Nat) (c : AdminCmd) (st dt : Nat) : Prop := onlyService s t ∧ cmdEnds t d c st dt []
  let put (s t : State) (d : Nat) (c : AdminCmd) (i : Nat) (b : Bytes) : Prop := cmdEnds t d c stOK 0 [] ∧ stays s t ∧
    t.flash = s.flash ∧ t.log.nextSeq = s.log.nextSeq + 1 ∧
    mget [] t.boot.applets i = if i = aTarget c.desc then b else mget [] s.boot.applets i
  (∀ (s : State) (d : Fin 256) (c : AdminCmd) (p : Nat), cmdReady s d.val 0x92 0 c → aTarget c.desc = 0 →
    c.pb.length = 8 → c.input = [] → leAt c.pb 0 4 % 512 = 0 → leAt c.pb 0 4 ≤ 16776192 → s.boot.seq < leAt c.pb 4 4 →
    logRefusal s = none → s.boot.bank < 2 → answers (.fwUpdateBegin d) s (fun t => cmdEnds t d.val c stOK 0 [] ∧
      stays s t ∧ t.boot.update = some ⟨1 - s.boot.bank, leAt c.pb 0 4, leAt c.pb 4 4⟩ ∧
      fwPage t.flash p = if p / 32768 = 1 - s.boot.bank then none else fwPage s.flash p)) ∧
  (∀ (s : State) (d : Fin 256) (c : AdminCmd), cmdReady s d.val 0x92 1 c → aTarget c.desc = 0 → c.pb.length = 8 →
    allZero (c.pb.drop 4) = true → leAt c.pb 0 4 % 512 = 0 → 512 ≤ c.input.length → c.input.length ≤ 65536 →
    c.input.length % 512 = 0 → s.boot.update = none →
    answers (.fwUpdateData d) s (fun t => ends s t d.val c stPolicyDenied 0)) ∧
  (∀ (s : State) (d : Fin 256) (c : AdminCmd) (u : FwUpdate) (p : Nat), cmdReady s d.val 0x92 1 c → aTarget c.desc = 0 →
    c.pb.length = 8 → allZero (c.pb.drop 4) = true → leAt c.pb 0 4 % 512 = 0 → 512 ≤ c.input.length →
    c.input.length ≤ 65536 → c.input.length % 512 = 0 → s.boot.update = some u →
    answers (.fwUpdateData d) s (fun t =>
      let off := leAt c.pb 0 4
      let n := c.input.length / 512
      let first := 32768 * u.bank + off / 512
      if u.len < off + c.input.length ∨ (List.range n).any (fun i => (fwPage s.flash (first + i)).isSome) = true then
        ends s t d.val c stBadParameter 3
      else if flashStage s = 5 then cmdEnds t d.val c stLogFull 2 [] ∧ stays s t ∧ t.flash = s.flash
      else cmdEnds t d.val c stOK 0 [] ∧ stays s t ∧ t.boot.update = some u ∧
        fwPage t.flash p = if first ≤ p ∧ p < first + n then some ((c.input.drop (512 * (p - first))).take 512)
          else fwPage s.flash p)) ∧
  (∀ (s : State) (d : Fin 256) (c : AdminCmd), cmdReady s d.val 0x92 2 c → aTarget c.desc = 0 → c.pb = [] → c.input = [] →
    s.boot.update = none → answers (.fwUpdateFinish d) s (fun t => ends s t d.val c stPolicyDenied 0)) ∧
  (∀ (s : State) (d : Fin 256) (c : AdminCmd) (u : FwUpdate) (p : Nat), cmdReady s d.val 0x92 2 c → aTarget c.desc = 0 →
    c.pb = [] → c.input = [] → s.boot.update = some u → logRefusal s = none → answers (.fwUpdateFinish d) s (fun t =>
      let cause := bankCause s u.bank
      let h := header s.flash u.bank
      if cause = 4 ∨ cause = 5 then ends s t d.val c stAuthFail 1
      else if cause ≠ 0 ∨ 64 < leAt h 12 2 ∨ leAt h 8 4 ≠ u.seq then ends s t d.val c stBadParameter 3
      else cmdEnds t d.val c stOK 0 [] ∧ stays s t ∧ t.boot.update = none ∧ t.log.nextSeq = s.log.nextSeq + 1 ∧
        fwPage t.flash p = if p = 32768 * u.bank + 32766 then
          some ([0x41, 0x43, 0x54, 0x56] ++ le 4 u.seq ++ zeros 504) else fwPage s.flash p)) ∧
  (∀ (s : State) (d : Fin 256) (c : AdminCmd), cmdReady s d.val 0x92 3 c → aTarget c.desc = 0 → c.pb = [] → c.input = [] →
    answers (.fwUpdateAbort d) s (fun t => cmdEnds t d.val c stOK 0 [] ∧
      t = { s with engine := t.engine, boot := { s.boot with update := none } })) ∧
  (∀ (s : State) (d : Fin 256) (c : AdminCmd) (i : Nat), cmdReady s d.val 0x90 0 c → aTarget c.desc ≤ 7 →
    c.pb.length = 8 → allZero (c.pb.drop 4) = true → leAt c.pb 0 4 % 4 = 0 → leAt c.pb 0 4 ≤ 65536 →
    c.input.length = leAt c.pb 0 4 + 5464 → logRefusal s = none → answers (.appletLoad d) s (fun t =>
      let code := c.input.take (leAt c.pb 0 4)
      if signerOk s.owner.rootFuse (c.input.drop (leAt c.pb 0 4))
          (primBytes (.hash 2) 48 [le 4 (aTarget c.desc) ++ code]) = true then put s t d.val c i code
      else ends s t d.val c stAuthFail 1)) ∧
  (∀ (s : State) (d : Fin 256) (c : AdminCmd) (i : Nat), cmdReady s d.val 0x90 1 c → aTarget c.desc ≤ 7 → c.input = [] →
    logRefusal s = none → answers (.appletEmpty d) s (fun t => put s t d.val c i []))

/-- Every step keeps the device's state legal. From every legal state, whatever commands wait, a step that goes on ends in
a legal state: the rollback floor stays within its 64 fuses, the state that a lock remembers stays COMMISSIONED or
OPERATIONAL, and a device that is not in FACTORY has 48 B of SHA-384 in its root fuses. (00_scope.md,
25_boot_debug.md) -/
def Obligations.EveryStepKeepsTheStateLegal : Prop :=
  ∀ s t : State, legal s → step s = .next t → legal t

/-- The state at reset is legal. State.reset, with the lifecycle FACTORY, nothing fused and the rollback floor at 0, is
legal. That the remembered state reads COMMISSIONED there is the model's choice (log entry 7), as no rule gives it a
reset value. (00_scope.md) -/
def Obligations.ResetIsLegal : Prop := legal .reset

/-- Only the table's events move the lifecycle. For every command and state: the lifecycle stays, or the command is
COMPLETE and it goes from FACTORY to COMMISSIONED, DATA_PLANE_ENABLE and it goes from COMMISSIONED to OPERATIONAL, an
alarm's second decision or the backup domain's judgement at a firmware start and it goes from COMMISSIONED or
OPERATIONAL to LOCKED or from any state but FACTORY to ZEROISED, or a custodian's presentation that completes the
ceremony and it goes from LOCKED to the remembered state or from ZEROISED to COMMISSIONED. The remembered state
changes only when the device leaves COMMISSIONED or OPERATIONAL for LOCKED or ZEROISED, and is then the state it left.
(00_scope.md, 21_watch_backup.md, 25_boot_debug.md) -/
def Obligations.LifecycleFollowsItsTable : Prop :=
  ∀ (c : Instr) (s t : State), exec c s = .next t →
    (t.lifecycle = s.lifecycle ∨ match c with
      | .complete _ => s.lifecycle = .factory ∧ t.lifecycle = .commissioned
      | .dataPlaneEnable _ => s.lifecycle = .commissioned ∧ t.lifecycle = .operational
      | .watchSecondDecision _ _ | .firmwareStart _ =>
        ((s.lifecycle = .commissioned ∨ s.lifecycle = .operational) ∧ t.lifecycle = .locked) ∨
        (s.lifecycle ≠ .factory ∧ t.lifecycle = .zeroised)
      | .unlockCustodian _ _ =>
        (s.lifecycle = .locked ∧ t.lifecycle = s.priorLifecycle) ∨
        (s.lifecycle = .zeroised ∧ t.lifecycle = .commissioned)
      | _ => False) ∧
    (t.priorLifecycle = s.priorLifecycle ∨
      (s.lifecycle = .commissioned ∨ s.lifecycle = .operational) ∧ t.priorLifecycle = s.lifecycle ∧
        (t.lifecycle = .locked ∨ t.lifecycle = .zeroised))

/-- A step takes one command, and no step clears a fuse. From every legal state a step that goes on leaves exactly the
rest of the queue and the same part; the rollback floor does not fall; and a device that has left FACTORY never
returns to it and keeps the root fuses as they were blown. (00_scope.md, 25_boot_debug.md) -/
def Obligations.StepsServeTheQueueAndFusesStay : Prop :=
  ∀ s t : State, legal s → step s = .next t →
    t.pending = s.pending.tail ∧ t.part = s.part ∧ s.boot.svnFloor ≤ t.boot.svnFloor ∧
    (s.lifecycle ≠ .factory → t.lifecycle ≠ .factory ∧ t.owner.rootFuse = s.owner.rootFuse)
end

