-- ==== Sys2Proof/Laws/Frame.lean ====
section
/-! SUPPORT. What the operations and meanings leave unchanged: the queue, the part, the lifecycle, the rollback floor and
the fused roots. -/

namespace Sys2Proof.Machine

/-- What only a few commands change: the waiting commands, the part, the lifecycle state and the one that a lock
remembers, the rollback floor and the fused roots. -/
def fixed (s : State) : List Instr × Part × Lifecycle × Lifecycle × Nat × Bytes :=
  (s.pending, s.part, s.lifecycle, s.priorLifecycle, s.boot.svnFloor, s.owner.rootFuse)
@[simp] theorem fixed_mk (part lifecycle priorLifecycle ownerPort policy units power pwrEvents backup watch tap
    owner boot snap clocks strap strapNext ports funcs domains domCfg queues engine ops opSeq moor lanes pipes
    legacy pairs curves curveRegs rng arb keys flash keeper ints mpus log recorders health card rf daymark tick
    free outs pending) : fixed (State.mk part lifecycle priorLifecycle ownerPort policy units power pwrEvents
    backup watch tap owner boot snap clocks strap strapNext ports funcs domains domCfg queues engine ops opSeq
    moor lanes pipes legacy pairs curves curveRegs rng arb keys flash keeper ints mpus log recorders health card
    rf daymark tick free outs pending) = (pending, part, lifecycle, priorLifecycle, boot.svnFloor,
    owner.rootFuse) := rfl
@[simp] theorem fixed_eta (s : State) : (s.pending, s.part, s.lifecycle, s.priorLifecycle, s.boot.svnFloor, s.owner.rootFuse) = fixed s := rfl
@[simp] theorem fixed_ite (c : Prop) [Decidable c] (a b : State) :
    fixed (if c then a else b) = if c then fixed a else fixed b := by split <;> rfl
@[simp] theorem fixed_foldl {α : Type} (f : State → α → State) (h : ∀ s a, fixed (f s a) = fixed s) (l : List α) (s : State) :
    fixed (l.foldl f s) = fixed s := by
  induction l generalizing s with
  | nil => rfl
  | cons a r ih => exact (ih _).trans (h s a)
theorem ok_bind {α β : Type} {r : Except Stop α} {k : α → Except Stop β} {x : β} (h : (r >>= k) = .ok x) : ∃ a, r = .ok a ∧ k a = .ok x := by
  cases r with
  | error e => cases h
  | ok a => exact ⟨a, rfl, h⟩
/-- If the outcome is a next state, `fixed` is as before. -/
def keeps (s : State) (o : Host.Outcome State Fault Refusal) : Prop := ∀ t, o = .next t → fixed t = fixed s
@[simp] theorem keeps_next (s t : State) :
    keeps s (.next t) ↔ fixed t = fixed s := ⟨fun h => h t rfl, fun h u e => by cases e; exact h⟩
@[simp] theorem fixed_appendRec (kind id n : Nat) (data : Bytes) (s : State) :
    fixed (appendRec kind id n data s) = fixed s := by
  simp [appendRec]
@[simp] theorem fixed_appendUndo (kind id n : Nat) (data : Bytes) (u : Undo) (s : State) :
    fixed (appendUndo kind id n data u s) = fixed s := by
  simp [appendUndo]
@[simp] theorem fixed_appendSetting (id : Nat) (s : State) : fixed (appendSetting id s) = fixed s := by
  simp [appendSetting]
@[simp] theorem fixed_appendJournal (intent reason : Nat) (retired : List Nat) (s : State) :
    fixed (appendJournal intent reason retired s) = fixed s := by
  simp [appendJournal]
@[simp] theorem fixed_whenRuns (g : State → Bool) (f : State → State) (s : State) (h : fixed (f s) = fixed s) :
    fixed (whenRuns g f s) = fixed s := by
  unfold whenRuns; split
  · exact h
  · rfl
@[simp] theorem fixed_setUnit (u : UnitId) (r : UnitRec) (s : State) : fixed (setUnit u r s) = fixed s := by
  simp [setUnit]
@[simp] theorem fixed_useFree (s : State) : fixed (useFree s) = fixed s := by
  simp [useFree]
@[simp] theorem fixed_useDrbg (n : Nat) (s : State) : fixed (useDrbg n s) = fixed s := by
  simp [useDrbg]
@[simp] theorem fixed_emit (o : Out) (s : State) : fixed (emit o s) = fixed s := by
  simp [emit]
@[simp] theorem fixed_emitAll (l : List Out) (s : State) : fixed (emitAll l s) = fixed s := by
  simp [emitAll]
@[simp] theorem fixed_setInt (c : Nat) (i : IntCtl) (s : State) : fixed (setInt c i s) = fixed s := by
  simp [setInt]
@[simp] theorem fixed_modInt (c : Nat) (f : IntCtl → IntCtl) (s : State) : fixed (modInt c f s) = fixed s := by
  simp [modInt]
@[simp] theorem fixed_raiseAt (c src : Nat) (s : State) : fixed (raiseAt c src s) = fixed s := by
  simp [raiseAt]
@[simp] theorem fixed_raise (src : Nat) (s : State) : fixed (raise src s) = fixed s := by
  simp [raise]
@[simp] theorem fixed_raiseOthers (me src : Nat) (s : State) : fixed (raiseOthers me src s) = fixed s := by
  simp [raiseOthers]
@[simp] theorem fixed_raiseTimes (n src : Nat) (s : State) : fixed (raiseTimes n src s) = fixed s := by
  induction n generalizing s with
  | zero => rfl
  | succ n ih => simp [raiseTimes, ih]
@[simp] theorem fixed_countRefused (s : State) : fixed (countRefused s) = fixed s := by
  simp [countRefused]
@[simp] theorem fixed_noteRecording (s : State) : fixed (noteRecording s) = fixed s := by
  simp [noteRecording]
@[simp] theorem fixed_stageEntry (e : LogEntry) (s : State) : fixed (stageEntry e s) = fixed s := by
  simp [stageEntry]
@[simp] theorem fixed_logExempt (e : LogEntry) (s : State) : fixed (logExempt e s) = fixed s := by
  simp [logExempt]
@[simp] theorem fixed_logFw (e : LogEntry) (s : State) : fixed (logFw e s) = fixed s := by
  simp [logFw]
@[simp] theorem fixed_programNow (n : Nat) (s : State) : fixed (programNow n s) = fixed s := by
  simp [programNow]
@[simp] theorem fixed_programPage (n : Nat) (s : State) : fixed (programPage n s) = fixed s := by
  simp [programPage]
@[simp] theorem fixed_programGroups (n : Nat) (s : State) : fixed (programGroups n s) = fixed s := by
  induction n generalizing s with
  | zero => rfl
  | succ n ih => simp [programGroups, ih]
@[simp] theorem fixed_setRec (k : Nat) (r : Recorder) (s : State) : fixed (setRec k r s) = fixed s := by
  simp [setRec]
@[simp] theorem fixed_offerAll (k kind sev code place : Nat) (datas : List Bytes) (s : State) :
    fixed (offerAll k kind sev code place datas s) = fixed s := by
  unfold offerAll
  dsimp only
  (repeat' split) <;> simp
@[simp] theorem fixed_offerTo (k kind sev code place : Nat) (data : Bytes) (s : State) :
    fixed (offerTo k kind sev code place data s) = fixed s := by
  simp [offerTo]
@[simp] theorem fixed_recData (cluster tile sev code place : Nat) (data : Bytes) (s : State) :
    fixed (recData cluster tile sev code place data s) = fixed s := by
  simp [recData]
@[simp] theorem fixed_recPlace (cluster tile sev code place : Nat) (s : State) :
    fixed (recPlace cluster tile sev code place s) = fixed s := by
  simp [recPlace]
@[simp] theorem fixed_recTile (cluster tile sev code : Nat) (s : State) :
    fixed (recTile cluster tile sev code s) = fixed s := by
  simp [recTile]
@[simp] theorem fixed_recCluster (cluster sev code : Nat) (s : State) :
    fixed (recCluster cluster sev code s) = fixed s := by
  simp [recCluster]
@[simp] theorem fixed_recordPlace (level cluster tile sev code place : Nat) (s : State) :
    fixed (recordPlace level cluster tile sev code place s) = fixed s := by
  simp [recordPlace]
@[simp] theorem fixed_recordFault (cluster tile sev code : Nat) (s : State) :
    fixed (recordFault cluster tile sev code s) = fixed s := by
  simp [recordFault]
@[simp] theorem fixed_noteFreeze (s : State) : fixed (noteFreeze s) = fixed s := by
  simp [noteFreeze]
@[simp] theorem fixed_recordDram (level sev code : Nat) (s : State) : fixed (recordDram level sev code s) = fixed s := by
  simp [recordDram]
@[simp] theorem fixed_snapTile (cluster tile sev code : Nat) (words : List Nat) (s : State) :
    fixed (snapTile cluster tile sev code words s) = fixed s := by
  simp [snapTile]
@[simp] theorem fixed_moveUnit (u : UnitId) (r : UnitRec) (sev : Nat) (s : State) :
    fixed (moveUnit u r sev s) = fixed s := by
  simp [moveUnit]
@[simp] theorem fixed_setPort (n : Nat) (p : Port) (s : State) : fixed (setPort n p s) = fixed s := by
  simp [setPort]
@[simp] theorem fixed_modPort (n : Nat) (f : Port → Port) (s : State) : fixed (modPort n f s) = fixed s := by
  simp [modPort]
@[simp] theorem fixed_setFunc (d : Nat) (f : Func) (s : State) : fixed (setFunc d f s) = fixed s := by
  simp [setFunc]
@[simp] theorem fixed_modFunc (d : Nat) (f : Func → Func) (s : State) : fixed (modFunc d f s) = fixed s := by
  simp [modFunc]
@[simp] theorem fixed_setDom (d : Nat) (x : Domain) (s : State) : fixed (setDom d x s) = fixed s := by
  simp [setDom]
@[simp] theorem fixed_modDom (d : Nat) (f : Domain → Domain) (s : State) : fixed (modDom d f s) = fixed s := by
  simp [modDom]
@[simp] theorem fixed_setQueue (d q : Nat) (x : Queue) (s : State) : fixed (setQueue d q x s) = fixed s := by
  simp [setQueue]
@[simp] theorem fixed_modQueue (d q : Nat) (f : Queue → Queue) (s : State) : fixed (modQueue d q f s) = fixed s := by
  simp [modQueue]
@[simp] theorem fixed_sendMsix (d v : Nat) (s : State) : fixed (sendMsix d v s) = fixed s := by
  simp [sendMsix]
@[simp] theorem fixed_raiseIrq (d q : Nat) (s : State) : fixed (raiseIrq d q s) = fixed s := by
  simp [raiseIrq]
@[simp] theorem fixed_writeEntry (d q idx tagField status detail opcode engine outLen auxLen : Nat) (result : Bytes) (flags : Nat) (s : State) :
    fixed (writeEntry d q idx tagField status detail opcode engine outLen auxLen result flags s) = fixed s := by
  simp [writeEntry]
@[simp] theorem fixed_countEnding (d status : Nat) (s : State) : fixed (countEnding d status s) = fixed s := by
  simp [countEnding]
@[simp] theorem fixed_rejectDesc (d q idx status detail opcode : Nat) (s : State) :
    fixed (rejectDesc d q idx status detail opcode s) = fixed s := by
  simp [rejectDesc]
@[simp] theorem fixed_putOp (o : Op) (s : State) : fixed (putOp o s) = fixed s := by
  simp [putOp]
@[simp] theorem fixed_dropOp (tag : Nat) (s : State) : fixed (dropOp tag s) = fixed s := by
  simp [dropOp]
@[simp] theorem fixed_setMoor (i : Nat) (m : Mooring) (s : State) : fixed (setMoor i m s) = fixed s := by
  simp [setMoor]
@[simp] theorem fixed_modMoor (i : Nat) (f : Mooring → Mooring) (s : State) : fixed (modMoor i f s) = fixed s := by
  simp [modMoor]
@[simp] theorem fixed_countMoors (o : Op) (status : Nat) (s : State) : fixed (countMoors o status s) = fixed s := by
  simp [countMoors]
@[simp] theorem fixed_writeOpEntry (o : Op) (s : State) : fixed (writeOpEntry o s) = fixed s := by
  simp [writeOpEntry]
@[simp] theorem fixed_releaseHeld (n : Nat) (s : State) : fixed (releaseHeld n s) = fixed s := by
  induction n generalizing s with
  | zero => rfl
  | succ n ih => unfold releaseHeld; split <;> simp [ih]
@[simp] theorem fixed_finishOp (o : Op) (s : State) : fixed (finishOp o s) = fixed s := by
  simp [finishOp]
@[simp] theorem fixed_endOp (o : Op) (status detail : Nat) (s : State) : fixed (endOp o status detail s) = fixed s := by
  simp [endOp]
@[simp] theorem fixed_commitUnmoor (o : Op) (s : State) : fixed (commitUnmoor o s) = fixed s := by
  simp [commitUnmoor]
@[simp] theorem fixed_commitWaiting (o : Op) (s : State) : fixed (commitWaiting o s) = fixed s := by
  unfold commitWaiting
  split <;> simp
@[simp] theorem fixed_wipeMem (o : Op) (s : State) : fixed (wipeMem o s) = fixed s := by
  unfold wipeMem
  split <;> simp
@[simp] theorem fixed_zeroMem (o : Op) (s : State) : fixed (zeroMem o s) = fixed s := by
  unfold zeroMem
  split <;> simp
@[simp] theorem fixed_toScrub (o : Op) (status detail : Nat) (s : State) :
    fixed (toScrub o status detail s) = fixed s := by
  simp [toScrub]
@[simp] theorem fixed_abortOp (o : Op) (status detail : Nat) (s : State) :
    fixed (abortOp o status detail s) = fixed s := by
  unfold abortOp
  split <;> simp
@[simp] theorem fixed_abortWhere (p : Op → Bool) (status detail : Nat) (s : State) :
    fixed (abortWhere p status detail s) = fixed s := by
  unfold abortWhere
  refine fixed_foldl _ (fun t a => ?_) _ _
  (repeat' split) <;> simp
@[simp] theorem fixed_loseOp (o : Op) (s : State) : fixed (loseOp o s) = fixed s := by
  unfold loseOp
  split <;> simp
@[simp] theorem fixed_loseWhere (p : Op → Bool) (s : State) : fixed (loseWhere p s) = fixed s := by
  unfold loseWhere
  refine fixed_foldl _ (fun t a => ?_) _ _
  (repeat' split) <;> simp
@[simp] theorem fixed_setWays (i : Nat) (w : List CacheWay) (s : State) : fixed (setWays i w s) = fixed s := by
  simp [setWays]
@[simp] theorem fixed_touch (i : Nat) (dirty : Bool) (s : State) : fixed (touch i dirty s) = fixed s := by
  unfold touch
  split <;> simp
@[simp] theorem fixed_cacheInsert (i : Nat) (s : State) : fixed (cacheInsert i s) = fixed s := by
  simp [cacheInsert]
@[simp] theorem fixed_countAccess (i : Nat) (s : State) : fixed (countAccess i s) = fixed s := by
  simp [countAccess]
@[simp] theorem fixed_startFill (i : Nat) (s : State) : fixed (startFill i s) = fixed s := by
  simp [startFill]
@[simp] theorem fixed_countSetHold (s : State) : fixed (countSetHold s) = fixed s := by
  simp [countSetHold]
theorem fixed_takeFree {s t : State} {i : Nat} (h : takeFree s = some (i, t)) : fixed t = fixed s := by
  unfold takeFree at h
  dsimp only at h
  split at h
  · cases h; rfl
  · split at h <;> cases h; rfl
@[simp] theorem fixed_giveFree (i : Nat) (s : State) : fixed (giveFree i s) = fixed s := by
  simp [giveFree]
@[simp] theorem fixed_loseDram (s : State) : fixed (loseDram s) = fixed s := by
  simp [loseDram]
@[simp] theorem fixed_regionInit (s : State) : fixed (regionInit s) = fixed s := by
  simp [regionInit]
@[simp] theorem fixed_releaseSlot (i : Nat) (readBackOk : Bool) (s : State) :
    fixed (releaseSlot i readBackOk s) = fixed s := by
  simp [releaseSlot]
@[simp] theorem fixed_quarantine (i : Nat) (m : Mooring) (s : State) : fixed (quarantine i m s) = fixed s := by
  simp [quarantine]
@[simp] theorem fixed_poison (i : Nat) (lines : List LineRes) (s : State) : fixed (poison i lines s) = fixed s := by
  simp [poison]
@[simp] theorem fixed_stageTake (o : Op) (h side : Nat) (s : State) : fixed (stageTake o h side s).2 = fixed s := by
  unfold stageTake; (repeat' split) <;> simp
@[simp] theorem fixed_windowUpdate (o : Op) (s : State) : fixed (windowUpdate o s) = fixed s := by
  unfold windowUpdate
  split <;> simp
@[simp] theorem fixed_setKey (n : Nat) (k : KeySlot) (s : State) : fixed (setKey n k s) = fixed s := by
  simp [setKey]
@[simp] theorem fixed_dropKeyJobs (n : Nat) (s : State) : fixed (dropKeyJobs n s) = fixed s := by
  simp [dropKeyJobs]
@[simp] theorem fixed_eraseKey (n : Nat) (s : State) : fixed (eraseKey n s) = fixed s := by
  simp [eraseKey]
@[simp] theorem fixed_setCurve (i : Nat) (c : CurveSlot) (s : State) : fixed (setCurve i c s) = fixed s := by
  simp [setCurve]
@[simp] theorem fixed_aerUncorr (d : Nat) (s : State) : fixed (aerUncorr d s) = fixed s := by
  simp [aerUncorr]
@[simp] theorem fixed_noteRtt (n rtt : Nat) (s : State) : fixed (noteRtt n rtt s) = fixed s := by
  simp [noteRtt]
@[simp] theorem fixed_noteReadErr (d : Nat) (s : State) : fixed (noteReadErr d s) = fixed s := by
  simp [noteReadErr]
@[simp] theorem fixed_fetchOne (d q : Nat) (s : State) : fixed (fetchOne d q s) = fixed s := by
  simp [fetchOne]
@[simp] theorem fixed_issueFetches (n d q : Nat) (s : State) : fixed (issueFetches n d q s) = fixed s := by
  induction n generalizing s with
  | zero => rfl
  | succ n ih => simp [issueFetches, ih]
@[simp] theorem fixed_fetchAll (d q : Nat) (s : State) : fixed (fetchAll d q s) = fixed s := by
  simp [fetchAll]
@[simp] theorem fixed_settleQueue (d q n : Nat) (s : State) : fixed (settleQueue d q n s) = fixed s := by
  induction n generalizing s with
  | zero => rfl
  | succ n ih => unfold settleQueue; dsimp only; (repeat' split) <;> simp [ih]
@[simp] theorem fixed_settleAdmin (d n : Nat) (s : State) : fixed (settleAdmin d n s) = fixed s := by
  induction n generalizing s with
  | zero => rfl
  | succ n ih => unfold settleAdmin; dsimp only; (repeat' split) <;> simp [ih]
@[simp] theorem fixed_rollback (d q : Nat) (s : State) : fixed (rollback d q s) = fixed s := by
  simp [rollback]
@[simp] theorem fixed_faultQueue (d q cause : Nat) (s : State) : fixed (faultQueue d q cause s) = fixed s := by
  simp [faultQueue]
@[simp] theorem fixed_readDoorbell (d q : Nat) (c : DbCause) (s : State) : fixed (readDoorbell d q c s) = fixed s := by
  simp [readDoorbell]
@[simp] theorem fixed_checkDoorbell (d q : Nat) (rec : Bytes) (s : State) :
    fixed (checkDoorbell d q rec s) = fixed s := by
  simp [checkDoorbell]
@[simp] theorem fixed_readDoorbells (c : DbCause) (l : List (Nat × Nat)) (s : State) :
    fixed (readDoorbells c l s) = fixed s := by
  simp [readDoorbells]
@[simp] theorem fixed_logDiscard (d off old new : Nat) (s : State) : fixed (logDiscard d off old new s) = fixed s := by
  simp [logDiscard]
@[simp] theorem fixed_loggedWrite (d off old new : Nat) (stops : Bool) (f : State → State) (s : State)
    (h : ∀ t, fixed (f t) = fixed t) : fixed (loggedWrite d off old new stops f s) = fixed s := by
  unfold loggedWrite; split <;> simp [h]
@[simp] theorem fixed_makeReady (o : Op) (s : State) : fixed (makeReady o s) = fixed s := by
  simp [makeReady]
@[simp] theorem fixed_startReads (o : Op) (s : State) : fixed (startReads o s) = fixed s := by
  simp [startReads]
@[simp] theorem fixed_afterParams (o : Op) (s : State) : fixed (afterParams o s) = fixed s := by
  simp [afterParams]
@[simp] theorem fixed_proceed (o : Op) (s : State) : fixed (proceed o s) = fixed s := by
  simp [proceed]
@[simp] theorem fixed_toParams (o : Op) (s : State) : fixed (toParams o s) = fixed s := by
  simp [toParams]
@[simp] theorem fixed_afterStage (o : Op) (s : State) : fixed (afterStage o s) = fixed s := by
  unfold afterStage
  (repeat' split) <;> simp
@[simp] theorem fixed_awaitFill (k i : Nat) (o : Op) (s : State) : fixed (awaitFill k i o s) = fixed s := by
  simp [awaitFill]
@[simp] theorem fixed_runStage (l : List (Nat × Nat)) (k : Nat) (o : Op) (s : State) :
    fixed (runStage l k o s) = fixed s := by
  induction l generalizing k o s with
  | nil => simp [runStage]
  | cons x r ih => unfold runStage; dsimp only; (repeat' split) <;> simp [ih]
@[simp] theorem fixed_resumeStage (l : List (Nat × Nat)) (k : Nat) (o : Op) (s : State) :
    fixed (resumeStage l k o s) = fixed s := by
  cases l with
  | nil => simp [resumeStage]
  | cons x r => unfold resumeStage; dsimp only; (repeat' split) <;> simp
@[simp] theorem fixed_runConditions (o : Op) (s : State) : fixed (runConditions o s) = fixed s := by
  unfold runConditions
  (repeat' split) <;> simp
@[simp] theorem fixed_markPrior (o : Op) (s : State) : fixed (markPrior o s) = fixed s := by
  simp [markPrior]
@[simp] theorem fixed_imageNext (d : Bytes) (s : State) : fixed (imageNext d s) = fixed s := by
  simp [imageNext]
@[simp] theorem fixed_waitAtHead (d q : Nat) (f : Fetched) (rest : List Fetched) (s : State) :
    fixed (waitAtHead d q f rest s) = fixed s := by
  simp [waitAtHead]
@[simp] theorem fixed_retryFill (d q : Nat) (s : State) : fixed (retryFill d q s) = fixed s := by
  unfold retryFill
  (repeat' split) <;> simp
@[simp] theorem fixed_admitHead (d q : Nat) (s : State) : fixed (admitHead d q s) = fixed s := by
  unfold admitHead
  dsimp only
  (repeat' split) <;> simp
@[simp] theorem keeps_execDescriptorAdmission (d : Fin 256) (q : Fin 64) (s : State) :
    keeps s (execDescriptorAdmission d q s) := by
  simp [execDescriptorAdmission]
@[simp] theorem fixed_resumeWaiting (n i : Nat) (s : State) : fixed (resumeWaiting n i s) = fixed s := by
  induction n generalizing s with
  | zero => rfl
  | succ n ih => unfold resumeWaiting; (repeat' split) <;> simp [ih]
@[simp] theorem keeps_execMooringCacheFill (i : Fin 4194304) (lines : List LineRes) (s : State) :
    keeps s (execMooringCacheFill i lines s) := by
  unfold execMooringCacheFill
  split <;> simp
@[simp] theorem keeps_execParameterBlockResult (tag : Fin 4096) (pb : Bytes) (rtt : Nat) (s : State) :
    keeps s (execParameterBlockResult tag pb rtt s) := by
  unfold execParameterBlockResult
  dsimp only
  (repeat' split) <;> simp
@[simp] theorem fixed_setArbList (k : ArbKind) (l : List Nat) (s : State) : fixed (setArbList k l s) = fixed s := by
  unfold setArbList
  split <;> simp
@[simp] theorem fixed_setDeficit (k : ArbKind) (d : Nat) (v : Int) (s : State) :
    fixed (setDeficit k d v s) = fixed s := by
  simp [setDeficit]
theorem fixed_drrRun {k : ArbKind} {o : Nat → Option Op} {f : Nat → Bool} {s t : State} {d : Nat}
    (h : drrRun k o f s = some (d, t)) : fixed t = fixed s := by
  simp only [drrRun, Option.map_eq_some_iff] at h
  obtain ⟨r, _, h⟩ := h
  cases h; simp
@[simp] theorem fixed_drrCharge (k : ArbKind) (d charge : Nat) (more : Bool) (s : State) :
    fixed (drrCharge k d charge more s) = fixed s := by
  simp [drrCharge]
@[simp] theorem fixed_applyAllotment (s : State) : fixed (applyAllotment s) = fixed s := by
  unfold applyAllotment
  exact (fixed_foldl _ (fun t n => by simp) _ _).trans (fixed_foldl _ (fun t n => by simp) _ _)
@[simp] theorem fixed_setLane (n : Nat) (l : Lane) (s : State) : fixed (setLane n l s) = fixed s := by
  simp [setLane]
@[simp] theorem fixed_setMask (n : Nat) (g : MaskGen) (s : State) : fixed (setMask n g s) = fixed s := by
  simp [setMask]
@[simp] theorem fixed_refillSeed (n : Nat) (g : MaskGen) (s : State) : fixed (refillSeed n g s) = fixed s := by
  simp [refillSeed]
@[simp] theorem fixed_useSeed (n : Nat) (s : State) : fixed (useSeed n s) = fixed s := by
  simp [useSeed]
@[simp] theorem fixed_takeSeed (n : Nat) (s : State) : fixed (takeSeed n s).2 = fixed s := by
  unfold takeSeed; dsimp only; (repeat' split) <;> simp
@[simp] theorem fixed_fullReseed (n : Nat) (s : State) : fixed (fullReseed n s) = fixed s := by
  simp [fullReseed]
@[simp] theorem fixed_addBlocks (n k rounds : Nat) (s : State) : fixed (addBlocks n k rounds s) = fixed s := by
  simp [addBlocks]
@[simp] theorem fixed_runBlocks (n r f k : Nat) (s : State) : fixed (runBlocks n r f k s).2 = fixed s := by
  induction f generalizing k s with
  | zero => rfl
  | succ f ih => unfold runBlocks; (try dsimp only); (repeat' split) <;> simp [ih]
@[simp] theorem fixed_issueReads (o : Op) (s : State) : fixed (issueReads o s) = fixed s := by
  simp [issueReads]
@[simp] theorem fixed_tryStart (n : Nat) (s : State) (tag : Nat) : fixed (tryStart n s tag) = fixed s := by
  unfold tryStart
  split <;> simp
@[simp] theorem fixed_startPasses (n : Nat) (s : State) : fixed (startPasses n s) = fixed s := by
  simp [startPasses]
@[simp] theorem fixed_dispatchLane (o : Op) (n : Nat) (s : State) : fixed (dispatchLane o n s) = fixed s := by
  simp [dispatchLane]
@[simp] theorem fixed_selectLane (want : Op → Bool) (k : Op → Nat → State → State) (s : State)
    (h : ∀ o n t, fixed (k o n t) = fixed t) : fixed (selectLane want k s) = fixed s := by
  unfold selectLane
  split
  · rfl
  · rename_i hd
    (repeat' split) <;> simp [h, fixed_drrRun hd]
@[simp] theorem keeps_execLaneDispatch (s : State) : keeps s (execLaneDispatch s) := by
  simp [execLaneDispatch]
@[simp] theorem keeps_execLegacyUnitTranslation (s : State) : keeps s (execLegacyUnitTranslation s) := by
  simp [execLegacyUnitTranslation]
@[simp] theorem fixed_onRunning (op tag : Nat) (f : Op → State → State) (s : State)
    (h : ∀ o t, fixed (f o t) = fixed t) : fixed (onRunning op tag f s) = fixed s := by
  unfold onRunning; (repeat' split) <;> simp [h]
@[simp] theorem fixed_writeOut (o : Op) (b : Bytes) (s : State) : fixed (writeOut o b s) = fixed s := by
  simp [writeOut]
@[simp] theorem fixed_runPass (f : Op → State → State) (o : Op) (s : State) (h : ∀ o t, fixed (f o t) = fixed t) :
    fixed (runPass f o s) = fixed s := by
  unfold runPass
  dsimp only
  (repeat' split) <;> simp [h]
@[simp] theorem fixed_computedOut (o : Op) (b : Bytes) (match_ : Bool) (s : State) :
    fixed (computedOut o b match_ s) = fixed s := by
  simp [computedOut]
@[simp] theorem fixed_computedBuf (o : Op) (b : Bytes) (match_ : Bool) (s : State) :
    fixed (computedBuf o b match_ s) = fixed s := by
  simp [computedBuf]
@[simp] theorem keeps_execOpSeal (tag : Fin 4096) (s : State) : keeps s (execOpSeal tag s) := by
  simp [execOpSeal]
@[simp] theorem keeps_execOpOpen (tag : Fin 4096) (s : State) : keeps s (execOpOpen tag s) := by
  simp [execOpOpen]
@[simp] theorem keeps_execOpReseal (tag : Fin 4096) (s : State) : keeps s (execOpReseal tag s) := by
  simp [execOpReseal]
@[simp] theorem fixed_cipherRun (o : Op) (s : State) : fixed (cipherRun o s) = fixed s := by
  simp [cipherRun]
@[simp] theorem keeps_execOpCipher (tag : Fin 4096) (s : State) : keeps s (execOpCipher tag s) := by
  simp [execOpCipher]
@[simp] theorem fixed_pinFill (o : Op) (s : State) : fixed (pinFill o s).2 = fixed s := by
  unfold pinFill; dsimp only; split <;> simp
@[simp] theorem fixed_pinRun (o : Op) (s : State) : fixed (pinRun o s) = fixed s := by
  unfold pinRun; dsimp only; (repeat' split) <;> simp
@[simp] theorem keeps_execOpPinTranslate (tag : Fin 4096) (s : State) : keeps s (execOpPinTranslate tag s) := by
  simp [execOpPinTranslate]
@[simp] theorem fixed_laneDone (o : Op) (status detail : Nat) (s : State) :
    fixed (laneDone o status detail s) = fixed s := by
  simp [laneDone]
@[simp] theorem fixed_release (o : Op) (s : State) : fixed (release o s) = fixed s := by
  simp [release]
@[simp] theorem fixed_releaseEnd (o : Op) (s : State) : fixed (releaseEnd o s) = fixed s := by
  simp [releaseEnd]
@[simp] theorem fixed_secondPass (o : Op) (s : State) : fixed (secondPass o s) = fixed s := by
  simp [secondPass]
@[simp] theorem fixed_passEnd (o : Op) (s : State) : fixed (passEnd o s) = fixed s := by
  unfold passEnd
  split <;> simp
@[simp] theorem keeps_execLanePassComplete (tag : Fin 4096) (s : State) : keeps s (execLanePassComplete tag s) := by
  unfold execLanePassComplete
  (repeat' split) <;> simp
@[simp] theorem keeps_execLaneScrubComplete (tag : Fin 4096) (s : State) : keeps s (execLaneScrubComplete tag s) := by
  unfold execLaneScrubComplete
  (repeat' split) <;> simp
@[simp] theorem fixed_startMasked (n : Nat) (s : State) : fixed (startMasked n s) = fixed s := by
  simp [startMasked]
@[simp] theorem keeps_execLaneFullReseed (n : Fin 17) (s : State) : keeps s (execLaneFullReseed n s) := by
  simp [execLaneFullReseed]
@[simp] theorem fixed_faultLane (n cause : Nat) (s : State) : fixed (faultLane n cause s) = fixed s := by
  simp [faultLane]
@[simp] theorem fixed_faultLegacy (cause : Nat) (s : State) : fixed (faultLegacy cause s) = fixed s := by
  simp [faultLegacy]
@[simp] theorem keeps_execLaneSeedTimeout (n : Fin 17) (s : State) : keeps s (execLaneSeedTimeout n s) := by
  simp [execLaneSeedTimeout]
@[simp] theorem fixed_drawKey (o : Op) (k : Nat) (s : State) : fixed (drawKey o k s).2.2 = fixed s := by simp [drawKey]
@[simp] theorem fixed_opDone (o : Op) (status detail : Nat) (result : Bytes) (s : State) :
    fixed (opDone o status detail result s) = fixed s := by
  simp [opDone]
@[simp] theorem fixed_withKey (o : Op) (same : Bytes → Bool) (f : Bytes → Nat × Bytes → State → State) (s : State)
    (h : ∀ a b t, fixed (f a b t) = fixed t) : fixed (withKey o same f s) = fixed s := by
  unfold withKey; dsimp only; (repeat' split) <;> simp [h]
@[simp] theorem fixed_moorRun (o : Op) (s : State) : fixed (moorRun o s) = fixed s := by
  unfold moorRun
  refine fixed_withKey _ _ _ _ fun a b t => ?_
  split
  · simp
  · split
    · simp
    · rename_i h; simp [fixed_takeFree h]
@[simp] theorem fixed_rekeyRun (o : Op) (s : State) : fixed (rekeyRun o s) = fixed s := by
  simp [rekeyRun]
@[simp] theorem keeps_execOpMoor (tag : Fin 4096) (s : State) : keeps s (execOpMoor tag s) := by
  simp [execOpMoor]
@[simp] theorem keeps_execOpRekey (tag : Fin 4096) (s : State) : keeps s (execOpRekey tag s) := by
  simp [execOpRekey]
@[simp] theorem keeps_execOpUnmoor (tag : Fin 4096) (s : State) : keeps s (execOpUnmoor tag s) := by
  simp [execOpUnmoor]
@[simp] theorem keeps_execUnmoorRelease (i : Fin 4194304) (readBackOk : Bool) (s : State) :
    keeps s (execUnmoorRelease i readBackOk s) := by
  unfold execUnmoorRelease
  (repeat' split) <;> simp
@[simp] theorem keeps_execOpMoorQuery (tag : Fin 4096) (s : State) : keeps s (execOpMoorQuery tag s) := by
  simp [execOpMoorQuery]
@[simp] theorem fixed_sweep (d : Nat) (s : State) : fixed (sweep d s) = fixed s := by
  simp [sweep]
@[simp] theorem keeps_execMoorQuerySweep (tag : Fin 4096) (s : State) : keeps s (execMoorQuerySweep tag s) := by
  simp [execMoorQuerySweep]
@[simp] theorem fixed_fenceEnd (s : State) (o : Op) : fixed (fenceEnd s o) = fixed s := by
  unfold fenceEnd
  split <;> simp
@[simp] theorem keeps_execOpFence (tag : Fin 4096) (s : State) : keeps s (execOpFence tag s) := by
  simp [execOpFence]
@[simp] theorem keeps_execFenceComplete (tag : Fin 4096) (s : State) : keeps s (execFenceComplete tag s) := by
  unfold execFenceComplete
  split <;> simp
@[simp] theorem fixed_setPipe (n : Nat) (p : Pipe) (s : State) : fixed (setPipe n p s) = fixed s := by
  simp [setPipe]
@[simp] theorem fixed_runIfArrived (tag : Nat) (s : State) : fixed (runIfArrived tag s) = fixed s := by
  unfold runIfArrived
  split <;> simp
@[simp] theorem fixed_dispatchHash (s : State) : fixed (dispatchHash s) = fixed s := by
  unfold dispatchHash
  split
  · rfl
  · rename_i h
    split
    · rfl
    · dsimp only
      split <;> simp [fixed_drrRun h]
@[simp] theorem keeps_execHashDispatch (s : State) : keeps s (execHashDispatch s) := by
  simp [execHashDispatch]
@[simp] theorem keeps_execOpHash (tag : Fin 4096) (s : State) : keeps s (execOpHash tag s) := by
  simp [execOpHash]
@[simp] theorem keeps_execOpMac (tag : Fin 4096) (s : State) : keeps s (execOpMac tag s) := by
  simp [execOpMac]
@[simp] theorem keeps_execOpKdf (tag : Fin 4096) (s : State) : keeps s (execOpKdf tag s) := by
  simp [execOpKdf]
@[simp] theorem fixed_addPipeBlocks (n k : Nat) (s : State) : fixed (addPipeBlocks n k s) = fixed s := by
  simp [addPipeBlocks]
@[simp] theorem fixed_setPair (n : Nat) (p : Pair) (s : State) : fixed (setPair n p s) = fixed s := by
  simp [setPair]
@[simp] theorem fixed_refillPair (n : Nat) (s : State) : fixed (refillPair n s) = fixed s := by
  simp [refillPair]
@[simp] theorem fixed_startOnPair (o : Op) (n : Nat) (c : Option (Nat × Nat)) (s : State) :
    fixed (startOnPair o n c s) = fixed s := by
  simp [startOnPair]
@[simp] theorem fixed_tryStartPk (s : State) (tag : Nat) : fixed (tryStartPk s tag) = fixed s := by
  unfold tryStartPk
  (repeat' split) <;> simp
@[simp] theorem fixed_startPk (s : State) : fixed (startPk s) = fixed s := by
  simp [startPk]
@[simp] theorem fixed_dispatchPk (o : Op) (n e : Nat) (s : State) : fixed (dispatchPk o n e s) = fixed s := by
  simp [dispatchPk]
@[simp] theorem fixed_stepReserved (s : State) (tag : Nat) : fixed (stepReserved s tag) = fixed s := by
  unfold stepReserved
  dsimp only
  (repeat' split) <;> simp
@[simp] theorem fixed_stepAllReserved (s : State) : fixed (stepAllReserved s) = fixed s := by
  simp [stepAllReserved]
@[simp] theorem fixed_dispatchPks (s : State) : fixed (dispatchPks s) = fixed s := by
  unfold dispatchPks
  dsimp only
  split
  · simp
  · rename_i h
    (repeat' split) <;> simp [fixed_drrRun h]
@[simp] theorem keeps_execPkDispatch (s : State) : keeps s (execPkDispatch s) := by
  simp [execPkDispatch]
@[simp] theorem fixed_pkResult (o : Op) (out aux : Bytes) (good : Bool) (s : State) :
    fixed (pkResult o out aux good s) = fixed s := by
  simp [pkResult]
@[simp] theorem keeps_execOpPkSign (tag : Fin 4096) (s : State) : keeps s (execOpPkSign tag s) := by
  simp [execOpPkSign]
@[simp] theorem keeps_execOpPkVerify (tag : Fin 4096) (s : State) : keeps s (execOpPkVerify tag s) := by
  simp [execOpPkVerify]
@[simp] theorem keeps_execOpPkAgree (tag : Fin 4096) (s : State) : keeps s (execOpPkAgree tag s) := by
  simp [execOpPkAgree]
@[simp] theorem keeps_execOpKemEncaps (tag : Fin 4096) (s : State) : keeps s (execOpKemEncaps tag s) := by
  simp [execOpKemEncaps]
@[simp] theorem keeps_execOpKemDecaps (tag : Fin 4096) (s : State) : keeps s (execOpKemDecaps tag s) := by
  simp [execOpKemDecaps]
@[simp] theorem keeps_execOpRsaPrivate (tag : Fin 4096) (s : State) : keeps s (execOpRsaPrivate tag s) := by
  simp [execOpRsaPrivate]
@[simp] theorem keeps_execOpRsaPublic (tag : Fin 4096) (s : State) : keeps s (execOpRsaPublic tag s) := by
  simp [execOpRsaPublic]
@[simp] theorem keeps_execOpPkKeygen (tag : Fin 4096) (s : State) : keeps s (execOpPkKeygen tag s) := by
  simp [execOpPkKeygen]
@[simp] theorem fixed_faultPair (n cause : Nat) (s : State) : fixed (faultPair n cause s) = fixed s := by
  simp [faultPair]
@[simp] theorem fixed_writePk (o : Op) (s : State) : fixed (writePk o s) = fixed s := by
  simp [writePk]
@[simp] theorem fixed_pairDone (o : Op) (n : Nat) (s : State) : fixed (pairDone o n s) = fixed s := by
  unfold pairDone
  split <;> simp
@[simp] theorem keeps_execPkOperationComplete (tag : Fin 4096) (found : PkEnd) (s : State) :
    keeps s (execPkOperationComplete tag found s) := by
  unfold execPkOperationComplete
  (repeat' split) <;> simp
@[simp] theorem keeps_execPkRandTimeout (tag : Fin 4096) (s : State) : keeps s (execPkRandTimeout tag s) := by
  unfold execPkRandTimeout
  (repeat' split) <;> simp
@[simp] theorem fixed_scrubFault (n : Nat) (s : State) : fixed (scrubFault n s) = fixed s := by
  simp [scrubFault]
@[simp] theorem keeps_execPkScrubComplete (tag : Fin 4096) (zero : Bool) (s : State) :
    keeps s (execPkScrubComplete tag zero s) := by
  unfold execPkScrubComplete
  (repeat' split) <;> simp
@[simp] theorem keeps_execHashMessageComplete (tag : Fin 4096) (s : State) : keeps s (execHashMessageComplete tag s) := by
  unfold execHashMessageComplete
  (repeat' split) <;> simp
@[simp] theorem fixed_faultPipe (n cause : Nat) (s : State) : fixed (faultPipe n cause s) = fixed s := by
  simp [faultPipe]
@[simp] theorem fixed_dataArrived (o : Op) (s : State) : fixed (dataArrived o s) = fixed s := by
  unfold dataArrived
  split <;> simp
@[simp] theorem fixed_checkNonce (o : Op) (aux : Bytes) (next : Op → State → State) (s : State)
    (h : ∀ o t, fixed (next o t) = fixed t) : fixed (checkNonce o aux next s) = fixed s := by
  unfold checkNonce
  dsimp only
  split <;> simp [h]
@[simp] theorem fixed_takeInput (o : Op) (input aux : Bytes) (s : State) : fixed (takeInput o input aux s) = fixed s := by
  unfold takeInput; dsimp only; (repeat' split) <;> simp
@[simp] theorem keeps_execInputReadResult (tag : Fin 4096) (input aux : Bytes) (rtt : Nat) (s : State) :
    keeps s (execInputReadResult tag input aux rtt s) := by
  unfold execInputReadResult
  split <;> simp
@[simp] theorem keeps_execDmaReadError (tag : Fin 4096) (s : State) : keeps s (execDmaReadError tag s) := by
  unfold execDmaReadError
  split <;> simp
@[simp] theorem fixed_writeBeacon (n v : Nat) (s : State) : fixed (writeBeacon n v s) = fixed s := by
  simp [writeBeacon]
@[simp] theorem fixed_sweepPort (n : Nat) (s : State) : fixed (sweepPort n s) = fixed s := by
  simp [sweepPort]
@[simp] theorem fixed_readLine (n : Nat) (s : State) : fixed (readLine n s) = fixed s := by
  simp [readLine]
@[simp] theorem keeps_execPortBeaconWrite (n : Fin 4) (h : Half) (v : Nat) (s : State) :
    keeps s (execPortBeaconWrite n h v s) := by
  simp [execPortBeaconWrite]
@[simp] theorem fixed_writeSetup (d q : Nat) (f : QpSetup) (h : Half) (v : Nat) (s : State) :
    fixed (writeSetup d q f h v s) = fixed s := by
  simp [writeSetup]
@[simp] theorem keeps_execQpSetupWrite (d : Fin 256) (q : Fin 65) (f : QpSetup) (h : Half) (v : Nat) (s : State) :
    keeps s (execQpSetupWrite d q f h v s) := by
  simp [execQpSetupWrite]
@[simp] theorem fixed_writeConfig (d q v : Nat) (s : State) : fixed (writeConfig d q v s) = fixed s := by
  simp [writeConfig]
@[simp] theorem keeps_execQpConfigWrite (d : Fin 256) (q : Fin 65) (v : BitVec 32) (s : State) :
    keeps s (execQpConfigWrite d q v s) := by
  simp [execQpConfigWrite]
@[simp] theorem keeps_execQpDomBeaconWrite (d : Fin 256) (h : Half) (v : Nat) (s : State) :
    keeps s (execQpDomBeaconWrite d h v s) := by
  simp [execQpDomBeaconWrite]
@[simp] theorem keeps_execPortLineRead (n : Fin 4) (s : State) : keeps s (execPortLineRead n s) := by
  simp [execPortLineRead]
@[simp] theorem fixed_lineByte (n gen : Nat) (line : Bytes) (s : State) (f : Nat) :
    fixed (lineByte n gen line s f) = fixed s := by
  simp [lineByte]
@[simp] theorem keeps_execPortLineResult (n : Fin 4) (line : Bytes) (rtt : Nat) (s : State) :
    keeps s (execPortLineResult n line rtt s) := by
  unfold execPortLineResult
  rw [keeps_next]
  refine fixed_whenRuns _ _ _ ?_
  split <;> simp
@[simp] theorem fixed_blockByte (d gen : Nat) (blk : Bytes) (s : State) (q : Nat) :
    fixed (blockByte d gen blk s q) = fixed s := by
  simp [blockByte]
@[simp] theorem keeps_execDomainBlockResult (d : Fin 256) (blk : Bytes) (rtt : Nat) (s : State) :
    keeps s (execDomainBlockResult d blk rtt s) := by
  unfold execDomainBlockResult
  rw [keeps_next]
  refine fixed_whenRuns _ _ _ ?_
  split <;> simp
@[simp] theorem keeps_execDoorbellResult (d : Fin 256) (q : Fin 65) (rec : Bytes) (rtt : Nat) (s : State) :
    keeps s (execDoorbellResult d q rec rtt s) := by
  unfold execDoorbellResult
  rw [keeps_next]
  refine fixed_whenRuns _ _ _ ?_
  split <;> simp
@[simp] theorem keeps_execDoorbellRecheck (d : Fin 256) (q : Fin 65) (s : State) :
    keeps s (execDoorbellRecheck d q s) := by
  simp [execDoorbellRecheck]
@[simp] theorem keeps_execQueueSweep (n : Fin 4) (s : State) : keeps s (execQueueSweep n s) := by
  simp [execQueueSweep]
@[simp] theorem fixed_lineFailed (n : Nat) (s : State) : fixed (lineFailed n s) = fixed s := by
  unfold lineFailed
  dsimp only
  split <;> simp
@[simp] theorem fixed_blockFailed (d : Nat) (s : State) : fixed (blockFailed d s) = fixed s := by
  unfold blockFailed
  split <;> simp
@[simp] theorem fixed_doorbellFailed (d q : Nat) (s : State) : fixed (doorbellFailed d q s) = fixed s := by
  unfold doorbellFailed
  (repeat' split) <;> simp
@[simp] theorem keeps_execBeaconReadFailure (r : PollRead) (s : State) : keeps s (execBeaconReadFailure r s) := by
  unfold execBeaconReadFailure
  rw [keeps_next]
  refine fixed_whenRuns _ _ _ ?_
  split <;> simp
@[simp] theorem fixed_handOff (d : Nat) (l : List Fetched) (s : State) : fixed (handOff d l s) = fixed s := by
  simp [handOff]
@[simp] theorem fixed_failFetch (d q : Nat) (l : List Fetched) (s : State) : fixed (failFetch d q l s) = fixed s := by
  simp [failFetch]
@[simp] theorem fixed_takeFetch (d q : Nat) (l : List Fetched) (s : State) : fixed (takeFetch d q l s) = fixed s := by
  simp [takeFetch]
@[simp] theorem keeps_execDescriptorFetchResult (d : Fin 256) (q : Fin 65) (data : Option Bytes) (rtt : Nat) (s : State) :
    keeps s (execDescriptorFetchResult d q data rtt s) := by
  unfold execDescriptorFetchResult
  rw [keeps_next]
  refine fixed_whenRuns _ _ _ ?_
  split <;> simp
@[simp] theorem keeps_execCoalesceTimer (d : Fin 256) (q : Fin 64) (s : State) : keeps s (execCoalesceTimer d q s) := by
  simp [execCoalesceTimer]
@[simp] theorem fixed_sendUnmasked (d : Nat) (vs : List Nat) (s : State) : fixed (sendUnmasked d vs s) = fixed s := by
  simp [sendUnmasked]
@[simp] theorem keeps_execMsixUnmask (d : Fin 256) (v : Option (Fin 65)) (s : State) :
    keeps s (execMsixUnmask d v s) := by
  unfold execMsixUnmask
  rw [keeps_next]
  refine fixed_whenRuns _ _ _ ?_
  (repeat' split) <;> simp
@[simp] theorem fixed_queueMove (d q : Nat) (ev : UnitEvent) (s : State) : fixed (queueMove d q ev s) = fixed s := by
  unfold queueMove
  split <;> simp
@[simp] theorem fixed_queueStarting (d q : Nat) (before : UnitState) (s : State) :
    fixed (queueStarting d q before s) = fixed s := by
  simp [queueStarting]
@[simp] theorem fixed_queueEn (d q : Nat) (v : Bool) (s : State) : fixed (queueEn d q v s) = fixed s := by
  simp [queueEn]
@[simp] theorem fixed_containedStop (d : Nat) (s : State) (q : Nat) : fixed (containedStop d s q) = fixed s := by
  simp [containedStop]
@[simp] theorem fixed_containedStart (d : Nat) (s : State) (q : Nat) : fixed (containedStart d s q) = fixed s := by
  simp [containedStart]
@[simp] theorem fixed_queueInit (d q : Nat) (s : State) : fixed (queueInit d q s) = fixed s := by
  simp [queueInit]
@[simp] theorem fixed_queueDrained (d q : Nat) (s : State) : fixed (queueDrained d q s) = fixed s := by
  simp [queueDrained]
@[simp] theorem fixed_domMove (d : Nat) (ev : UnitEvent) (s : State) : fixed (domMove d ev s) = fixed s := by
  unfold domMove
  split <;> simp
@[simp] theorem fixed_domDrained (d : Nat) (s : State) : fixed (domDrained d s) = fixed s := by
  simp [domDrained]
@[simp] theorem fixed_domInit (d : Nat) (s : State) : fixed (domInit d s) = fixed s := by
  simp [domInit]
@[simp] theorem fixed_permitStop (d : Nat) (s : State) : fixed (permitStop d s) = fixed s := by
  simp [permitStop]
@[simp] theorem fixed_permitStops (s : State) : fixed (permitStops s) = fixed s := by
  simp [permitStops]
@[simp] theorem fixed_announce (s : State) : fixed (announce s) = fixed s := by
  simp [announce]
@[simp] theorem fixed_logSession (d code cred : Nat) (s : State) : fixed (logSession d code cred s) = fixed s := by
  simp [logSession]
@[simp] theorem fixed_endCeremony (s : State) : fixed (endCeremony s) = fixed s := by
  unfold endCeremony
  split <;> simp
@[simp] theorem fixed_ownerClosed (d : Nat) (s : State) : fixed (ownerClosed d s) = fixed s := by
  simp [ownerClosed]
@[simp] theorem fixed_dropSession (d : Nat) (s : State) : fixed (dropSession d s) = fixed s := by
  unfold dropSession
  split <;> simp
@[simp] theorem fixed_closeSession (d : Nat) (s : State) : fixed (closeSession d s) = fixed s := by
  simp [closeSession]
@[simp] theorem fixed_loseSession (d : Nat) (s : State) : fixed (loseSession d s) = fixed s := by
  simp [loseSession]
@[simp] theorem fixed_clearFunc (d : Nat) (s : State) : fixed (clearFunc d s) = fixed s := by
  simp [clearFunc]
@[simp] theorem fixed_loseDom (d : Nat) (s : State) : fixed (loseDom d s) = fixed s := by
  simp [loseDom]
@[simp] theorem fixed_portEvent (n b : Nat) (s : State) : fixed (portEvent n b s) = fixed s := by
  simp [portEvent]
@[simp] theorem fixed_losePort (n ev : Nat) (s : State) : fixed (losePort n ev s) = fixed s := by
  simp [losePort]
@[simp] theorem fixed_flrFunc (d : Nat) (s : State) : fixed (flrFunc d s) = fixed s := by
  simp [flrFunc]
@[simp] theorem keeps_execLinkTrainingComplete (n : Fin 4) (rate : Fin 7) (width : Fin 17) (flit : Bool) (s : State) :
    keeps s (execLinkTrainingComplete n rate width flit s) := by
  simp [execLinkTrainingComplete]
@[simp] theorem keeps_execL0pRequest (n : Fin 4) (width : Fin 17) (s : State) : keeps s (execL0pRequest n width s) := by
  simp [execL0pRequest]
@[simp] theorem keeps_execAspmL1Entry (n : Fin 4) (pollDue : Bool) (s : State) :
    keeps s (execAspmL1Entry n pollDue s) := by
  simp [execAspmL1Entry]
@[simp] theorem keeps_execL1Exit (n : Fin 4) (s : State) : keeps s (execL1Exit n s) := by
  simp [execL1Exit]
@[simp] theorem keeps_execPartnerRateChange (n : Fin 4) (rate : Fin 7) (s : State) :
    keeps s (execPartnerRateChange n rate s) := by
  simp [execPartnerRateChange]
@[simp] theorem keeps_execPerstRelease (n : Fin 4) (s : State) : keeps s (execPerstRelease n s) := by
  simp [execPerstRelease]
@[simp] theorem keeps_execPortRefclkStable (n : Fin 4) (s : State) : keeps s (execPortRefclkStable n s) := by
  simp [execPortRefclkStable]
@[simp] theorem fixed_writeStrap (v : Nat) (s : State) : fixed (writeStrap v s) = fixed s := by
  simp [writeStrap]
@[simp] theorem keeps_execHptStrapWrite (v : BitVec 32) (s : State) : keeps s (execHptStrapWrite v s) := by
  simp [execHptStrapWrite]
@[simp] theorem fixed_noteReset (bit k : Nat) (s : State) : fixed (noteReset bit k s) = fixed s := by
  simp [noteReset]
@[simp] theorem keeps_execPerstAssert (n : Fin 4) (s : State) : keeps s (execPerstAssert n s) := by
  simp [execPerstAssert]
@[simp] theorem keeps_execLinkDown (n : Fin 4) (s : State) : keeps s (execLinkDown n s) := by
  simp [execLinkDown]
@[simp] theorem keeps_execUncorrectableError (n : Fin 4) (s : State) : keeps s (execUncorrectableError n s) := by
  simp [execUncorrectableError]
@[simp] theorem keeps_execCorrectableError (d : Fin 256) (s : State) : keeps s (execCorrectableError d s) := by
  simp [execCorrectableError]
@[simp] theorem fixed_resetPortSetup (n : Nat) (s : State) : fixed (resetPortSetup n s) = fixed s := by
  simp [resetPortSetup]
@[simp] theorem keeps_execFunctionLevelReset (d : Fin 256) (s : State) : keeps s (execFunctionLevelReset d s) := by
  simp [execFunctionLevelReset]
@[simp] theorem fixed_keepVfs (n count : Nat) (s : State) : fixed (keepVfs n count s) = fixed s := by
  simp [keepVfs]
@[simp] theorem fixed_setVfs (n num : Nat) (en : Bool) (s : State) : fixed (setVfs n num en s) = fixed s := by
  simp [setVfs]
@[simp] theorem keeps_execVfEnableClear (n : Fin 4) (num : Option (Fin 64)) (s : State) :
    keeps s (execVfEnableClear n num s) := by
  unfold execVfEnableClear
  split <;> simp
@[simp] theorem fixed_modCfg (d : Nat) (g : FnCfg → FnCfg) (s : State) : fixed (modCfg d g s) = fixed s := by
  simp [modCfg]
@[simp] theorem fixed_applyCfg (n : Nat) (r : CfgReq) (s : State) : fixed (applyCfg n r s) = fixed s := by
  unfold applyCfg
  split <;> simp
@[simp] theorem keeps_execConfigRequest (n : Fin 4) (r : CfgReq) (s : State) : keeps s (execConfigRequest n r s) := by
  simp [execConfigRequest]
@[simp] theorem keeps_execHostBarAccessBad (d : Fin 256) (read : Bool) (s : State) :
    keeps s (execHostBarAccessBad d read s) := by
  simp [execHostBarAccessBad]
@[simp] theorem fixed_putCmd (c : AdminCmd) (s : State) : fixed (putCmd c s) = fixed s := by
  simp [putCmd]
@[simp] theorem fixed_dropCmd (d : Nat) (s : State) : fixed (dropCmd d s) = fixed s := by
  simp [dropCmd]
@[simp] theorem fixed_finishCmd (c : AdminCmd) (status detail : Nat) (out : Bytes) (s : State) :
    fixed (finishCmd c status detail out s) = fixed s := by
  simp [finishCmd]
@[simp] theorem fixed_finishShort (c : AdminCmd) (need : Nat) (s : State) : fixed (finishShort c need s) = fixed s := by
  simp [finishShort]
@[simp] theorem fixed_onCmd (d op sub : Nat) (f : AdminCmd → State → State) (s : State)
    (h : ∀ c t, fixed (f c t) = fixed t) : fixed (onCmd d op sub f s) = fixed s := by
  unfold onCmd; (repeat' split) <;> simp [h]
@[simp] theorem fixed_ifLogged (c : AdminCmd) (f : State → State) (s : State) (h : ∀ t, fixed (f t) = fixed t) :
    fixed (ifLogged c f s) = fixed s := by
  unfold ifLogged; split <;> simp [h]
@[simp] theorem fixed_logChange (c : AdminCmd) (field old new : Nat) (s : State) :
    fixed (logChange c field old new s) = fixed s := by
  simp [logChange]
@[simp] theorem fixed_logAdmin (c : AdminCmd) (cls code sev object old new : Nat) (s : State) :
    fixed (logAdmin c cls code sev object old new s) = fixed s := by
  simp [logAdmin]
@[simp] theorem fixed_admitCmd (c : AdminCmd) (pb : Bytes) (s : State) : fixed (admitCmd c pb s) = fixed s := by
  simp [admitCmd]
@[simp] theorem fixed_macFailed (c : AdminCmd) (x : Session) (s : State) : fixed (macFailed c x s) = fixed s := by
  simp [macFailed]
@[simp] theorem fixed_checkSession (c : AdminCmd) (pb data : Bytes) (s : State) :
    fixed (checkSession c pb data s) = fixed s := by
  unfold checkSession
  split <;> simp
@[simp] theorem fixed_serveCmd (c0 : AdminCmd) (data : Option Bytes) (s : State) :
    fixed (serveCmd c0 data s) = fixed s := by
  unfold serveCmd
  split <;> simp
@[simp] theorem keeps_execAdminDescriptorServe (d : Fin 256) (data : Option (Bytes × Nat)) (s : State) :
    keeps s (execAdminDescriptorServe d data s) := by
  unfold execAdminDescriptorServe
  rw [keeps_next]
  refine fixed_whenRuns _ _ _ ?_
  (repeat' split) <;> simp
@[simp] theorem fixed_deliver (c : AdminCmd) (s : State) : fixed (deliver c s) = fixed s := by
  unfold deliver
  (repeat' split) <;> simp
@[simp] theorem keeps_execAdminCompletionWrite (d : Fin 256) (s : State) : keeps s (execAdminCompletionWrite d s) := by
  unfold execAdminCompletionWrite
  rw [keeps_next]
  refine fixed_whenRuns _ _ _ ?_
  split <;> simp
@[simp] theorem fixed_setLock (d : Nat) (l : LockOut) (s : State) : fixed (setLock d l s) = fixed s := by
  simp [setLock]
@[simp] theorem fixed_makeRoom (d : Nat) (s : State) : fixed (makeRoom d s) = fixed s := by
  unfold makeRoom
  (repeat' split) <;> simp
@[simp] theorem fixed_countFailure (d cred : Nat) (s : State) : fixed (countFailure d cred s) = fixed s := by
  simp [countFailure]
@[simp] theorem keeps_execLockoutExpiry (d : Fin 256) (s : State) : keeps s (execLockoutExpiry d s) := by
  simp [execLockoutExpiry]
@[simp] theorem fixed_makeIdentity (s : State) : fixed (makeIdentity s) = fixed s := by
  simp [makeIdentity]
@[simp] theorem fixed_openPhase0 (c : AdminCmd) (s : State) : fixed (openPhase0 c s) = fixed s := by
  unfold openPhase0
  split <;> simp
@[simp] theorem keeps_execAdminOpenPhase0 (d : Fin 256) (s : State) : keeps s (execAdminOpenPhase0 d s) := by
  simp [execAdminOpenPhase0]
@[simp] theorem fixed_openPhase1 (c : AdminCmd) (s : State) : fixed (openPhase1 c s) = fixed s := by
  unfold openPhase1
  (repeat' split) <;> simp
@[simp] theorem keeps_execAdminOpenPhase1 (d : Fin 256) (s : State) : keeps s (execAdminOpenPhase1 d s) := by
  simp [execAdminOpenPhase1]
@[simp] theorem fixed_openIdentity (c : AdminCmd) (s : State) : fixed (openIdentity c s) = fixed s := by
  simp [openIdentity]
@[simp] theorem keeps_execAdminOpenIdentity (d : Fin 256) (s : State) : keeps s (execAdminOpenIdentity d s) := by
  simp [execAdminOpenIdentity]
@[simp] theorem keeps_execAdminClose (d : Fin 256) (s : State) : keeps s (execAdminClose d s) := by
  simp [execAdminClose]
@[simp] theorem keeps_execChallengeExpiry (d : Fin 256) (s : State) : keeps s (execChallengeExpiry d s) := by
  simp [execChallengeExpiry]
@[simp] theorem keeps_execSessionIdleTimeout (d : Fin 256) (s : State) : keeps s (execSessionIdleTimeout d s) := by
  unfold execSessionIdleTimeout
  rw [keeps_next]
  refine fixed_whenRuns _ _ _ ?_
  split <;> simp
@[simp] theorem fixed_commitNow (s : State) : fixed (commitNow s) = fixed s := by
  simp [commitNow]
@[simp] theorem fixed_dropPolicy (s : State) : fixed (dropPolicy s) = fixed s := by
  simp [dropPolicy]
@[simp] theorem fixed_writeInactive (b : Bank) (s : State) : fixed (writeInactive b s) = fixed s := by
  simp [writeInactive]
@[simp] theorem fixed_writeCommit (s : State) : fixed (writeCommit s) = fixed s := by
  simp [writeCommit]
@[simp] theorem fixed_commitWith (f : Bank → Bank) (s : State) : fixed (commitWith f s) = fixed s := by
  simp [commitWith]
@[simp] theorem keeps_execPolicyCommit (s : State) : keeps s (execPolicyCommit s) := by
  simp [execPolicyCommit]
@[simp] theorem fixed_setCfg (d : Nat) (x : DomCfg) (s : State) : fixed (setCfg d x s) = fixed s := by
  simp [setCfg]
@[simp] theorem fixed_announceIf (before : State) (s : State) : fixed (announceIf before s) = fixed s := by
  simp [announceIf]
theorem fixed_changeLifecycle (new : Lifecycle) (e : State → LogEntry) (s : State) :
    fixed (changeLifecycle new e s) = (s.pending, s.part, new, s.priorLifecycle, s.boot.svnFloor, s.owner.rootFuse) := by
  have h := fixed_logFw (e s) s
  simp only [fixed, Prod.mk.injEq] at h
  simp only [changeLifecycle, fixed_announceIf, fixed_appendSetting, fixed_mk, h]
@[simp] theorem fixed_spendApproval (s : State) : fixed (spendApproval s) = fixed s := by
  simp [spendApproval]
@[simp] theorem fixed_openApproval (c : AdminCmd) (m roles : Nat) (unlockSet : Bool) (s : State) :
    fixed (openApproval c m roles unlockSet s) = fixed s := by
  simp [openApproval]
@[simp] theorem keeps_execApprovalExpiry (s : State) : keeps s (execApprovalExpiry s) := by
  simp [execApprovalExpiry]
@[simp] theorem fixed_inSequence (c : AdminCmd) (waits : State → Bool) (stage : State → State)
    (rest : AdminCmd → State → State) (s : State) (h1 : ∀ t, fixed (stage t) = fixed t)
    (h2 : ∀ c t, fixed (rest c t) = fixed t) : fixed (inSequence c waits stage rest s) = fixed s := by
  unfold inSequence
  dsimp only
  split
  · split <;> simp [h2]
  · exact fixed_ifLogged _ _ _ fun t => by split <;> simp [h1, h2]
@[simp] theorem fixed_checked (c : AdminCmd) (a : Option (Nat × Nat)) (f : State → State) (s : State)
    (h : fixed (f s) = fixed s) : fixed (checked c a f s) = fixed s := by
  unfold checked; split <;> simp [h]


@[simp] theorem fixed_permissions (c : AdminCmd) (s : State) : fixed (permissions c s) = fixed s := by
  simp [permissions]
@[simp] theorem keeps_execPermissions (d : Fin 256) (s : State) : keeps s (execPermissions d s) := by
  simp [execPermissions]
@[simp] theorem fixed_retention (c : AdminCmd) (s : State) : fixed (retention c s) = fixed s := by
  simp [retention]
@[simp] theorem keeps_execRetention (d : Fin 256) (s : State) : keeps s (execRetention d s) := by
  simp [execRetention]
@[simp] theorem fixed_query (c : AdminCmd) (s : State) : fixed (query c s) = fixed s := by
  simp [query]
@[simp] theorem keeps_execQuery (d : Fin 256) (s : State) : keeps s (execQuery d s) := by
  simp [execQuery]
@[simp] theorem fixed_logShares (c : AdminCmd) (s : State) : fixed (logShares c s) = fixed s := by
  simp [logShares]
@[simp] theorem fixed_shareSet (c : AdminCmd) (s : State) : fixed (shareSet c s) = fixed s := by
  simp [shareSet]
@[simp] theorem keeps_execDomainShareSet (d : Fin 256) (s : State) : keeps s (execDomainShareSet d s) := by
  simp [execDomainShareSet]
@[simp] theorem fixed_releaseStart (c : AdminCmd) (s : State) : fixed (releaseStart c s) = fixed s := by
  simp [releaseStart]
@[simp] theorem keeps_execRelease (d : Fin 256) (s : State) : keeps s (execRelease d s) := by
  simp [execRelease]
@[simp] theorem fixed_releaseMoorings (t : Nat) (bad : List (Fin 4194304)) (s : State) :
    fixed (releaseMoorings t bad s) = fixed s := by
  simp [releaseMoorings]
@[simp] theorem fixed_releaseKeys (c : AdminCmd) (t : Nat) (s : State) : fixed (releaseKeys c t s) = fixed s := by
  simp [releaseKeys]
@[simp] theorem fixed_drawBlobKey (t : Nat) (s : State) : fixed (drawBlobKey t s) = fixed s := by
  simp [drawBlobKey]
@[simp] theorem fixed_releaseRest (t : Nat) (s : State) : fixed (releaseRest t s) = fixed s := by
  simp [releaseRest]
@[simp] theorem fixed_logSteps (c : AdminCmd) (s : State) : fixed (logSteps c s) = fixed s := by
  simp [logSteps]
@[simp] theorem fixed_releaseDone (bad : List (Fin 4194304)) (c : AdminCmd) (s : State) :
    fixed (releaseDone bad c s) = fixed s := by
  simp [releaseDone]
@[simp] theorem keeps_execReleaseComplete (d : Fin 256) (bad : List (Fin 4194304)) (s : State) :
    keeps s (execReleaseComplete d bad s) := by
  unfold execReleaseComplete
  rw [keeps_next]
  refine fixed_whenRuns _ _ _ ?_
  split <;> simp
@[simp] theorem fixed_setCore (c : Nat) (k : Core) (s : State) : fixed (setCore c k s) = fixed s := by
  unfold setCore
  split <;> simp
@[simp] theorem fixed_modCore (c : Nat) (f : Core → Core) (s : State) : fixed (modCore c f s) = fixed s := by
  simp [modCore]
@[simp] theorem fixed_fillMask (n : Nat) (s : State) : fixed (fillMask n s) = fixed s := by
  simp [fillMask]
@[simp] theorem fixed_feedLane (s : State) (n : Nat) : fixed (feedLane s n) = fixed s := by
  simp [feedLane]
@[simp] theorem fixed_feedPair (s : State) (n : Nat) : fixed (feedPair s n) = fixed s := by
  simp [feedPair]
@[simp] theorem fixed_feedLegacy (s : State) : fixed (feedLegacy s) = fixed s := by
  simp [feedLegacy]
@[simp] theorem fixed_feedBlobs (s : State) : fixed (feedBlobs s) = fixed s := by
  simp [feedBlobs]
@[simp] theorem fixed_endStall (x : RngStall) (w : KWord) (s : State) : fixed (endStall x w s) = fixed s := by
  unfold endStall
  split <;> simp
@[simp] theorem fixed_serveStalls (s : State) : fixed (serveStalls s) = fixed s := by
  simp [serveStalls]
@[simp] theorem fixed_feedAll (s : State) : fixed (feedAll s) = fixed s := by
  simp [feedAll]
@[simp] theorem fixed_scrubMask (n : Nat) (s : State) : fixed (scrubMask n s) = fixed s := by
  simp [scrubMask]
@[simp] theorem fixed_scrubPair (n : Nat) (s : State) : fixed (scrubPair n s) = fixed s := by
  simp [scrubPair]
@[simp] theorem fixed_scrubEngines (s : State) : fixed (scrubEngines s) = fixed s := by
  simp [scrubEngines]
@[simp] theorem fixed_isolate (n : Nat) (w : PairWindow) (s : State) : fixed (isolate n w s) = fixed s := by
  simp [isolate]
@[simp] theorem fixed_readmit (l : List PairWindow) (s : State) : fixed (readmit l s) = fixed s := by
  simp [readmit]
@[simp] theorem fixed_failStalls (s : State) : fixed (failStalls s) = fixed s := by
  simp [failStalls]
@[simp] theorem fixed_endFill (s : State) (o : Op) : fixed (endFill s o) = fixed s := by
  unfold endFill
  split <;> simp
@[simp] theorem fixed_failWaiters (s : State) : fixed (failWaiters s) = fixed s := by
  simp [failWaiters]
@[simp] theorem fixed_dropDrbg (s : State) : fixed (dropDrbg s) = fixed s := by
  simp [dropDrbg]
@[simp] theorem fixed_faultRng (cause : Nat) (s : State) : fixed (faultRng cause s) = fixed s := by
  simp [faultRng]
@[simp] theorem fixed_seedingOff (before s : State) : fixed (seedingOff before s) = fixed s := by
  simp [seedingOff]
@[simp] theorem fixed_judgePool (s : State) : fixed (judgePool s) = fixed s := by
  simp [judgePool]
@[simp] theorem keeps_execRngPairFail (n : Fin 64) (w : PairWindow) (inSeed : Bool) (s : State) :
    keeps s (execRngPairFail n w inSeed s) := by
  simp [execRngPairFail]
@[simp] theorem keeps_execRngRetest (windows : List PairWindow) (s : State) : keeps s (execRngRetest windows s) := by
  simp [execRngRetest]
@[simp] theorem keeps_execSeedReady (raw : List (BitVec 64)) (s : State) : keeps s (execSeedReady raw s) := by
  simp [execSeedReady]
@[simp] theorem keeps_execDrbgReseed (s : State) : keeps s (execDrbgReseed s) := by
  unfold execDrbgReseed
  rw [keeps_next]
  refine fixed_whenRuns _ _ _ ?_
  split <;> simp
@[simp] theorem fixed_startupPair (first second : List PairWindow) (s : State) (i : Nat) :
    fixed (startupPair first second s i) = fixed s := by
  simp [startupPair]
@[simp] theorem keeps_execRngStartupTestsPass (windows : List PairWindow × List PairWindow) (s : State) :
    keeps s (execRngStartupTestsPass windows s) := by
  unfold execRngStartupTestsPass
  rw [keeps_next]
  refine fixed_whenRuns _ _ _ ?_
  split <;> simp
@[simp] theorem keeps_execSeedTimeout (s : State) : keeps s (execSeedTimeout s) := by
  simp [execSeedTimeout]
@[simp] theorem keeps_execRngSourceFault (cause : Fin 5) (s : State) : keeps s (execRngSourceFault cause s) := by
  simp [execRngSourceFault]
@[simp] theorem fixed_dropAnswers (c : Nat) (s : State) : fixed (dropAnswers c s) = fixed s := by
  simp [dropAnswers]
@[simp] theorem fixed_rngWord (s : State) : fixed (rngWord s).2 = fixed s := by
  unfold rngWord; (repeat' split) <;> simp
@[simp] theorem fixed_rngReadBy (c : Nat) (s : State) : fixed (rngReadBy c s).2 = fixed s := by
  unfold rngReadBy; (repeat' split) <;> simp
@[simp] theorem keeps_execRngDataRead (c : Fin 4) (dst : Fin 16) (s : State) : keeps s (execRngDataRead c dst s) := by
  unfold execRngDataRead
  rw [keeps_next]
  refine fixed_whenRuns _ _ _ ?_
  dsimp only
  split
  · rfl
  · have h := fixed_rngWord s
    split <;> (rename_i e; rw [e] at h) <;> simpa using h
@[simp] theorem keeps_execRngDataStallTimeout (c : Fin 4) (s : State) : keeps s (execRngDataStallTimeout c s) := by
  simp [execRngDataStallTimeout]
@[simp] theorem keeps_execOpRngFill (tag : Fin 4096) (s : State) : keeps s (execOpRngFill tag s) := by
  simp [execOpRngFill]
@[simp] theorem keeps_execRngFillChunk (s : State) : keeps s (execRngFillChunk s) := by
  unfold execRngFillChunk
  rw [keeps_next]
  refine fixed_whenRuns _ _ _ ?_
  dsimp only
  split
  · rfl
  · split
    · rfl
    · rename_i h
      split
      · rfl
      · split <;> simp [fixed_drrRun h]
@[simp] theorem keeps_execWatchDetect (src : Option (Fin 19)) (holding : BitVec 19) (s : State) :
    keeps s (execWatchDetect src holding s) := by
  unfold execWatchDetect
  split <;> simp
@[simp] theorem fixed_applyRestrict (s : State) : fixed (applyRestrict s) = fixed s := by
  simp [applyRestrict]
@[simp] theorem fixed_scrubImage (s : State) : fixed (scrubImage s) = fixed s := by
  simp [scrubImage]
@[simp] theorem fixed_lockSession (s : State) (d : Nat) : fixed (lockSession s d) = fixed s := by
  unfold lockSession
  split <;> simp
@[simp] theorem fixed_closeAll (s : State) : fixed (closeAll s) = fixed s := by
  simp [closeAll]
@[simp] theorem fixed_lockDomains (s : State) : fixed (lockDomains s) = fixed s := by
  simp [lockDomains]

@[simp] theorem fixed_destroyKeys (s : State) : fixed (destroyKeys s) = fixed s := by
  simp [destroyKeys]

@[simp] theorem fixed_latchResponse (r : Nat) (s : State) : fixed (latchResponse r s) = fixed s := by
  simp [latchResponse]
@[simp] theorem keeps_execWatchFirstDecision (which found : BitVec 19) (s : State) :
    keeps s (execWatchFirstDecision which found s) := by
  simp [execWatchFirstDecision]
@[simp] theorem fixed_noteAlarm (s : State) (i : Nat) : fixed (noteAlarm s i) = fixed s := by
  simp [noteAlarm]
@[simp] theorem fixed_backupZeroise (src : Nat) (s : State) : fixed (backupZeroise src s) = fixed s := by
  simp [backupZeroise]


@[simp] theorem fixed_setResp (i r : Nat) (s : State) : fixed (setResp i r s) = fixed s := by
  simp [setResp]
@[simp] theorem keeps_execWchCfgWrite (src : Fin 19) (v : BitVec 32) (s : State) : keeps s (execWchCfgWrite src v s) := by
  simp [execWchCfgWrite]
@[simp] theorem fixed_blowFuse (i : Nat) (s : State) : fixed (blowFuse i s) = fixed s := by
  simp [blowFuse]
@[simp] theorem keeps_execWchFuseBlowWrite (v : BitVec 32) (late : Bool) (s : State) :
    keeps s (execWchFuseBlowWrite v late s) := by
  unfold execWchFuseBlowWrite
  rw [keeps_next]
  refine fixed_whenRuns _ _ _ ?_
  split <;> simp
@[simp] theorem fixed_logWatch (c : AdminCmd) (code old new : Nat) (s : State) :
    fixed (logWatch c code old new s) = fixed s := by
  simp [logWatch]
@[simp] theorem fixed_watchSet (c : AdminCmd) (s : State) : fixed (watchSet c s) = fixed s := by
  simp [watchSet]
@[simp] theorem keeps_execWatchSet (d : Fin 256) (s : State) : keeps s (execWatchSet d s) := by
  simp [execWatchSet]
@[simp] theorem fixed_fuseBlow (c : AdminCmd) (s : State) : fixed (fuseBlow c s) = fixed s := by
  simp [fuseBlow]
@[simp] theorem keeps_execFuseBlow (d : Fin 256) (s : State) : keeps s (execFuseBlow d s) := by
  simp [execFuseBlow]
@[simp] theorem fixed_watchClear (c : AdminCmd) (s : State) : fixed (watchClear c s) = fixed s := by
  simp [watchClear]
@[simp] theorem keeps_execWatchClear (d : Fin 256) (s : State) : keeps s (execWatchClear d s) := by
  simp [execWatchClear]
@[simp] theorem fixed_unlockBegin (c : AdminCmd) (s : State) : fixed (unlockBegin c s) = fixed s := by
  unfold unlockBegin
  (repeat' split) <;> simp
@[simp] theorem keeps_execUnlockBegin (d : Fin 256) (s : State) : keeps s (execUnlockBegin d s) := by
  simp [execUnlockBegin]
@[simp] theorem keeps_execCeremonyExpiry (s : State) : keeps s (execCeremonyExpiry s) := by
  simp [execCeremonyExpiry]
@[simp] theorem fixed_newKek (s : State) : fixed (newKek s) = fixed s := by
  simp [newKek]
@[simp] theorem fixed_startImage (s : State) : fixed (startImage s) = fixed s := by
  simp [startImage]
@[simp] theorem fixed_dropKeyRecords (s : State) : fixed (dropKeyRecords s) = fixed s := by
  simp [dropKeyRecords]


@[simp] theorem fixed_logPresent (c : AdminCmd) (status : Nat) (s : State) : fixed (logPresent c status s) = fixed s := by
  simp [logPresent]
@[simp] theorem fixed_endPresent (c : AdminCmd) (status detail : Nat) (s : State) :
    fixed (endPresent c status detail s) = fixed s := by
  simp [endPresent]
@[simp] theorem fixed_countIn (sub id : Nat) (s : State) : fixed (countIn sub id s) = fixed s := by
  simp [countIn]
@[simp] theorem fixed_failPresent (c : AdminCmd) (s : State) : fixed (failPresent c s) = fixed s := by
  unfold failPresent
  dsimp only
  (repeat' split) <;> simp





@[simp] theorem fixed_timeSet (c : AdminCmd) (s : State) : fixed (timeSet c s) = fixed s := by
  simp [timeSet]
@[simp] theorem keeps_execTimeSet (d : Fin 256) (s : State) : keeps s (execTimeSet d s) := by
  simp [execTimeSet]
@[simp] theorem keeps_execBackupDomainFirstPower (s : State) : keeps s (execBackupDomainFirstPower s) := by
  simp [execBackupDomainFirstPower]
@[simp] theorem fixed_logCommission (c : AdminCmd) (s : State) : fixed (logCommission c s) = fixed s := by
  simp [logCommission]
@[simp] theorem fixed_setStaged (f : Staged → Staged) (s : State) : fixed (setStaged f s) = fixed s := by
  simp [setStaged]
@[simp] theorem fixed_roots (c : AdminCmd) (s : State) : fixed (roots c s) = fixed s := by
  simp [roots]
@[simp] theorem keeps_execRoots (d : Fin 256) (s : State) : keeps s (execRoots d s) := by
  simp [execRoots]
@[simp] theorem fixed_appendCustody (s : State) : fixed (appendCustody s) = fixed s := by
  simp [appendCustody]
@[simp] theorem fixed_custody (c : AdminCmd) (s : State) : fixed (custody c s) = fixed s := by
  simp [custody]
@[simp] theorem keeps_execCustody (d : Fin 256) (s : State) : keeps s (execCustody d s) := by
  simp [execCustody]
@[simp] theorem fixed_strapSet (c : AdminCmd) (s : State) : fixed (strapSet c s) = fixed s := by
  simp [strapSet]
@[simp] theorem keeps_execStrap (d : Fin 256) (s : State) : keeps s (execStrap d s) := by
  simp [execStrap]
@[simp] theorem fixed_writeRecords (c : AdminCmd) (r : Bytes) (x : Custody) (s : State) :
    fixed (writeRecords c r x s) = fixed s := by
  simp [writeRecords]





@[simp] theorem fixed_storePassword (c : AdminCmd) (s : State) : fixed (storePassword c s) = fixed s := by
  simp [storePassword]
@[simp] theorem fixed_passwordSet (c : AdminCmd) (s : State) : fixed (passwordSet c s) = fixed s := by
  simp [passwordSet]
@[simp] theorem keeps_execPasswordSet (d : Fin 256) (s : State) : keeps s (execPasswordSet d s) := by
  simp [execPasswordSet]
@[simp] theorem fixed_setCopy (i c : Nat) (x : CurveCopy) (s : State) : fixed (setCopy i c x s) = fixed s := by
  simp [setCopy]
@[simp] theorem fixed_writeCopy (i c : Nat) (x : CurveCopy) (s : State) : fixed (writeCopy i c x s) = fixed s := by
  simp [writeCopy]
@[simp] theorem fixed_applyCurve (i : Nat) (x : CurveCopy) (valid : Bool) (s : State) :
    fixed (applyCurve i x valid s) = fixed s := by
  simp [applyCurve]
@[simp] theorem fixed_dropCurveRec (i : Nat) (s : State) : fixed (dropCurveRec i s) = fixed s := by
  simp [dropCurveRec]
@[simp] theorem fixed_stageLoad (c : AdminCmd) (s : State) : fixed (stageLoad c s) = fixed s := by
  simp [stageLoad]
@[simp] theorem fixed_curveLoad (c : AdminCmd) (s : State) : fixed (curveLoad c s) = fixed s := by
  simp [curveLoad]
@[simp] theorem keeps_execCurveLoad (d : Fin 256) (s : State) : keeps s (execCurveLoad d s) := by
  simp [execCurveLoad]
@[simp] theorem fixed_curveClear (c : AdminCmd) (s : State) : fixed (curveClear c s) = fixed s := by
  simp [curveClear]
@[simp] theorem keeps_execCurveClear (d : Fin 256) (s : State) : keeps s (execCurveClear d s) := by
  simp [execCurveClear]
@[simp] theorem fixed_curveRead (c : AdminCmd) (s : State) : fixed (curveRead c s) = fixed s := by
  unfold curveRead
  dsimp only
  (repeat' split) <;> simp
@[simp] theorem keeps_execCurveRead (d : Fin 256) (s : State) : keeps s (execCurveRead d s) := by
  simp [execCurveRead]
@[simp] theorem keeps_execPkeCurveSelWrite (v : BitVec 32) (s : State) : keeps s (execPkeCurveSelWrite v s) := by
  simp [execPkeCurveSelWrite]
@[simp] theorem keeps_execPkeCurveDataWrite (v : BitVec 32) (s : State) : keeps s (execPkeCurveDataWrite v s) := by
  simp [execPkeCurveDataWrite]
@[simp] theorem fixed_afterLoad (c : AdminCmd) (f : State → State) (s : State) (h : fixed (f s) = fixed s) :
    fixed (afterLoad c f s) = fixed s := by
  unfold afterLoad; split <;> simp [h]
@[simp] theorem fixed_createRefuse (c : AdminCmd) (a : Nat × Nat) (s : State) : fixed (createRefuse c a s) = fixed s := by
  simp [createRefuse]
@[simp] theorem fixed_imageEntry (n : Nat) (s : State) : fixed (imageEntry n s) = fixed s := by
  simp [imageEntry]
@[simp] theorem fixed_logKey (c : AdminCmd) (slot kind sev old new : Nat) (s : State) :
    fixed (logKey c slot kind sev old new s) = fixed s := by
  simp [logKey]
@[simp] theorem fixed_ifKeyLogged (c : AdminCmd) (f : State → State) (s : State) (h : ∀ t, fixed (f t) = fixed t) :
    fixed (ifKeyLogged c f s) = fixed s := by
  unfold ifKeyLogged; (repeat' split) <;> simp [h]
@[simp] theorem fixed_storeKey (c : AdminCmd) (slot : Nat) (k : KeySlot) (s : State) :
    fixed (storeKey c slot k s) = fixed s := by
  simp [storeKey]
@[simp] theorem fixed_createdKey (c : AdminCmd) (s : State) : fixed (createdKey c s) = fixed s := by
  simp [createdKey]
@[simp] theorem fixed_creating (f : AdminCmd → State → State) (c : AdminCmd) (s : State)
    (h : fixed (f c s) = fixed s) : fixed (creating f c s) = fixed s := by
  unfold creating; split <;> simp [h]
@[simp] theorem fixed_keyGenerate (agree : Bool) (c : AdminCmd) (s : State) :
    fixed (keyGenerate agree c s) = fixed s := by
  unfold keyGenerate
  refine fixed_afterLoad _ _ _ ?_
  dsimp only; (repeat' split) <;> simp
@[simp] theorem keeps_execKeyGenerate (d : Fin 256) (agree : Bool) (s : State) : keeps s (execKeyGenerate d agree s) := by
  simp [execKeyGenerate]
@[simp] theorem fixed_importPublic (c : AdminCmd) (s : State) : fixed (importPublic c s) = fixed s := by
  unfold importPublic
  refine fixed_afterLoad _ _ _ ?_
  (repeat' split) <;> simp
@[simp] theorem keeps_execKeyImportPublic (d : Fin 256) (s : State) : keeps s (execKeyImportPublic d s) := by
  simp [execKeyImportPublic]
@[simp] theorem fixed_importClear (c : AdminCmd) (s : State) : fixed (importClear c s) = fixed s := by
  unfold importClear
  refine fixed_afterLoad _ _ _ ?_
  dsimp only; (repeat' split) <;> simp
@[simp] theorem keeps_execKeyImportClear (d : Fin 256) (s : State) : keeps s (execKeyImportClear d s) := by
  simp [execKeyImportClear]
@[simp] theorem fixed_importBlock (c : AdminCmd) (s : State) : fixed (importBlock c s) = fixed s := by
  unfold importBlock
  split <;> simp
@[simp] theorem keeps_execKeyImportKeyBlock (d : Fin 256) (s : State) : keeps s (execKeyImportKeyBlock d s) := by
  simp [execKeyImportKeyBlock]
@[simp] theorem fixed_exportPublic (c : AdminCmd) (s : State) : fixed (exportPublic c s) = fixed s := by
  simp [exportPublic]
@[simp] theorem keeps_execKeyExportPublic (d : Fin 256) (s : State) : keeps s (execKeyExportPublic d s) := by
  simp [execKeyExportPublic]
@[simp] theorem fixed_exportKey (c : AdminCmd) (s : State) : fixed (exportKey c s) = fixed s := by
  unfold exportKey; refine fixed_checked _ _ _ _ ?_; dsimp only; (repeat' split) <;> simp
@[simp] theorem keeps_execKeyExportKeyBlock (d : Fin 256) (s : State) : keeps s (execKeyExportKeyBlock d s) := by
  simp [execKeyExportKeyBlock]
@[simp] theorem fixed_destroyedKey (c : AdminCmd) (s : State) : fixed (destroyedKey c s) = fixed s := by
  simp [destroyedKey]
@[simp] theorem fixed_keyDestroy (c : AdminCmd) (s : State) : fixed (keyDestroy c s) = fixed s := by
  simp [keyDestroy]
@[simp] theorem keeps_execKeyDestroy (d : Fin 256) (s : State) : keeps s (execKeyDestroy d s) := by
  simp [execKeyDestroy]
@[simp] theorem keeps_execKeyImageScrub (n : Fin 65536) (s : State) : keeps s (execKeyImageScrub n s) := by
  simp [execKeyImageScrub]
@[simp] theorem keeps_execKeyImageBuild (s : State) : keeps s (execKeyImageBuild s) := by
  unfold execKeyImageBuild
  rw [keeps_next]
  refine fixed_whenRuns _ _ _ ?_
  (repeat' split) <;> simp
@[simp] theorem fixed_noApproval (c : AdminCmd) (s : State) : fixed (noApproval c s) = fixed s := by
  simp [noApproval]
@[simp] theorem fixed_askKey (c : AdminCmd) (a : Option (Nat × Nat)) (needs : Bool) (s : State) :
    fixed (askKey c a needs s) = fixed s := by
  simp [askKey]
@[simp] theorem fixed_askPolicy (c : AdminCmd) (a : Option (Nat × Nat)) (needs : Bool) (s : State) :
    fixed (askPolicy c a needs s) = fixed s := by
  simp [askPolicy]
@[simp] theorem fixed_approvalRequest (c : AdminCmd) (s : State) : fixed (approvalRequest c s) = fixed s := by
  unfold approvalRequest
  split <;> simp
@[simp] theorem keeps_execApprovalRequest (d : Fin 256) (s : State) : keeps s (execApprovalRequest d s) := by
  unfold execApprovalRequest
  split <;> simp
@[simp] theorem fixed_noteBreak (s : State) : fixed (noteBreak s) = fixed s := by
  simp [noteBreak]
@[simp] theorem fixed_logRead (c : AdminCmd) (s : State) : fixed (logRead c s) = fixed s := by
  simp [logRead]
@[simp] theorem keeps_execLogRead (d : Fin 256) (s : State) : keeps s (execLogRead d s) := by
  simp [execLogRead]
@[simp] theorem fixed_dropAcked (s : State) : fixed (dropAcked s) = fixed s := by
  simp [dropAcked]
@[simp] theorem fixed_logAck (c : AdminCmd) (s : State) : fixed (logAck c s) = fixed s := by
  simp [logAck]
@[simp] theorem keeps_execLogExportAck (d : Fin 256) (s : State) : keeps s (execLogExportAck d s) := by
  simp [execLogExportAck]
@[simp] theorem keeps_execLogPartialFlush (s : State) : keeps s (execLogPartialFlush s) := by
  unfold execLogPartialFlush
  rw [keeps_next]
  refine fixed_whenRuns _ _ _ ?_
  split <;> simp
@[simp] theorem keeps_execLogChainCheck (s : State) : keeps s (execLogChainCheck s) := by
  simp [execLogChainCheck]
@[simp] theorem fixed_histFree (h : Hist) (s : State) : fixed (histFree h s) = fixed s := by
  simp [histFree]
@[simp] theorem fixed_takeSamples (cluster tile : Nat) (x : Nat × List Int) (s : State) :
    fixed (takeSamples cluster tile x s) = fixed s := by
  unfold takeSamples
  split <;> simp
@[simp] theorem fixed_closeMetric (cluster tile : Nat) (s : State) (metric : Nat) :
    fixed (closeMetric cluster tile s metric) = fixed s := by
  simp [closeMetric]
@[simp] theorem fixed_closeCluster (cluster : Nat) (s : State) (metric : Nat) :
    fixed (closeCluster cluster s metric) = fixed s := by
  simp [closeCluster]
@[simp] theorem keeps_execRecorderInterval (cluster : Fin 10) (m : List (Fin 5 × Fin 6 × List Int)) (s : State) :
    keeps s (execRecorderInterval cluster m s) := by
  unfold execRecorderInterval
  rw [keeps_next]
  refine fixed_whenRuns _ _ _ ?_
  (repeat' split) <;> simp
@[simp] theorem fixed_evrRead (c : AdminCmd) (s : State) : fixed (evrRead c s) = fixed s := by
  simp [evrRead]
@[simp] theorem keeps_execEvrRead (d : Fin 256) (s : State) : keeps s (execEvrRead d s) := by
  simp [execEvrRead]
@[simp] theorem fixed_evrClear (c : AdminCmd) (s : State) : fixed (evrClear c s) = fixed s := by
  simp [evrClear]
@[simp] theorem keeps_execEvrClear (d : Fin 256) (s : State) : keeps s (execEvrClear d s) := by
  simp [execEvrClear]
@[simp] theorem keeps_execEvrSelWrite (v : BitVec 32) (s : State) : keeps s (execEvrSelWrite v s) := by
  simp [execEvrSelWrite]
@[simp] theorem keeps_execEvrFreezeWrite (v : BitVec 32) (s : State) : keeps s (execEvrFreezeWrite v s) := by
  unfold execEvrFreezeWrite
  rw [keeps_next]
  refine fixed_whenRuns _ _ _ ?_
  (repeat' split) <;> simp
@[simp] theorem keeps_execEvrFreezeTimeout (s : State) : keeps s (execEvrFreezeTimeout s) := by
  simp [execEvrFreezeTimeout]
@[simp] theorem fixed_evrAdvance (w : Nat) (s : State) : fixed (evrAdvance w s) = fixed s := by
  simp [evrAdvance]
@[simp] theorem keeps_execEvrWindowRead (w : Fin 16) (s : State) : keeps s (execEvrWindowRead w s) := by
  simp [execEvrWindowRead]
@[simp] theorem fixed_modFlash (f : Flash → Flash) (s : State) : fixed (modFlash f s) = fixed s := by
  simp [modFlash]
@[simp] theorem keeps_execEraseAutoResume (s : State) : keeps s (execEraseAutoResume s) := by
  simp [execEraseAutoResume]
@[simp] theorem fixed_startCmd (s : State) : fixed (startCmd s) = fixed s := by
  unfold startCmd
  dsimp only
  (repeat' split) <;> simp
@[simp] theorem fixed_seqData (v : BitVec 32) (s : State) : fixed (seqData v s) = fixed s := by
  simp [seqData]
@[simp] theorem keeps_execFlcUnlockWrite (v : BitVec 32) (s : State) : keeps s (execFlcUnlockWrite v s) := by
  simp [execFlcUnlockWrite]
@[simp] theorem keeps_execFlcCmdWrite (v : BitVec 32) (s : State) : keeps s (execFlcCmdWrite v s) := by
  simp [execFlcCmdWrite]
@[simp] theorem keeps_execFlcAddrWrite (v : BitVec 32) (s : State) : keeps s (execFlcAddrWrite v s) := by
  simp [execFlcAddrWrite]
@[simp] theorem keeps_execFlcDataWrite (v : BitVec 32) (s : State) : keeps s (execFlcDataWrite v s) := by
  simp [execFlcDataWrite]
@[simp] theorem fixed_dataFor (code : Nat) (v : BitVec 32) (s : State) : fixed (dataFor code v s) = fixed s := by
  simp [dataFor]
@[simp] theorem keeps_execProgramPage (v : BitVec 32) (s : State) : keeps s (execProgramPage v s) := by
  simp [execProgramPage]
@[simp] theorem keeps_execEraseSector (v : BitVec 32) (s : State) : keeps s (execEraseSector v s) := by
  simp [execEraseSector]
@[simp] theorem keeps_execEraseSuspend (v : BitVec 32) (s : State) : keeps s (execEraseSuspend v s) := by
  simp [execEraseSuspend]
@[simp] theorem keeps_execEraseResume (v : BitVec 32) (s : State) : keeps s (execEraseResume v s) := by
  simp [execEraseResume]
@[simp] theorem keeps_execReadMargin (v : BitVec 32) (s : State) : keeps s (execReadMargin v s) := by
  simp [execReadMargin]
@[simp] theorem keeps_execBlankCheck (v : BitVec 32) (s : State) : keeps s (execBlankCheck v s) := by
  simp [execBlankCheck]
@[simp] theorem keeps_execFlashSequenceTimeout (s : State) : keeps s (execFlashSequenceTimeout s) := by
  simp [execFlashSequenceTimeout]
@[simp] theorem keeps_execFlashCommandDone (ok : Bool) (errs : Nat) (s : State) :
    keeps s (execFlashCommandDone ok errs s) := by
  unfold execFlashCommandDone
  rw [keeps_next]
  refine fixed_whenRuns _ _ _ ?_
  (repeat' split) <;> simp
@[simp] theorem fixed_copyRec (p : PoolPage) (from_ : Nat) (s : State) : fixed (copyRec p from_ s) = fixed s := by
  simp [copyRec]
@[simp] theorem fixed_relocate (sec : Nat) (s : State) : fixed (relocate sec s) = fixed s := by
  simp [relocate]
@[simp] theorem fixed_enterStage (before : Nat) (s : State) : fixed (enterStage before s) = fixed s := by
  simp [enterStage]
@[simp] theorem fixed_retire (sec : Nat) (s : State) : fixed (retire sec s) = fixed s := by
  simp [retire]
@[simp] theorem keeps_execPoolPageProgramComplete (pulses : Nat) (ok : Bool) (s : State) :
    keeps s (execPoolPageProgramComplete pulses ok s) := by
  unfold execPoolPageProgramComplete
  rw [keeps_next]
  refine fixed_whenRuns _ _ _ ?_
  split <;> simp
@[simp] theorem keeps_execReclaim (s : State) : keeps s (execReclaim s) := by
  simp [execReclaim]
@[simp] theorem keeps_execReclaimEraseComplete (first second : Bool) (s : State) :
    keeps s (execReclaimEraseComplete first second s) := by
  unfold execReclaimEraseComplete
  rw [keeps_next]
  refine fixed_whenRuns _ _ _ ?_
  split <;> simp
@[simp] theorem fixed_recordLost (p : PoolPage) (s : State) : fixed (recordLost p s) = fixed s := by
  simp [recordLost]
@[simp] theorem fixed_noteRead (a : Nat) (k : FlashRead) (s : State) : fixed (noteRead a k s) = fixed s := by
  unfold noteRead
  dsimp only
  (repeat' split) <;> simp
@[simp] theorem fixed_windowRead (a : Nat) (k : FlashRead) (s : State) : fixed (windowRead a k s).2 = fixed s := by
  unfold windowRead; dsimp only; (repeat' split) <;> simp
@[simp] theorem keeps_execFlashWindowRead (a : Fin 134217728) (k : FlashRead) (s : State) :
    keeps s (execFlashWindowRead a k s) := by
  simp [execFlashWindowRead]
@[simp] theorem keeps_execLensMarginRead (page : Fin 262144) (fails : Bool) (s : State) :
    keeps s (execLensMarginRead page fails s) := by
  unfold execLensMarginRead
  rw [keeps_next]
  refine fixed_whenRuns _ _ _ ?_
  (repeat' split) <;> simp
@[simp] theorem fixed_scanKeys (s : State) : fixed (scanKeys s) = fixed s := by
  simp [scanKeys]
@[simp] theorem fixed_undoJob (s : State) (j : PoolJob) : fixed (undoJob s j) = fixed s := by
  unfold undoJob
  split <;> simp
theorem fixed_flash (s : State) (f : Flash) : fixed { s with flash := f } = fixed s := rfl
theorem fixed_mark (x : Option Nat) (s : State) :
    fixed (match x with | none => s | some x => appendJournal x 2 [] s) = fixed s := by
  split
  · rfl
  · exact fixed_appendJournal ..
@[simp] theorem keeps_execFlashStartScan (s : State) : keeps s (execFlashStartScan s) := by
  unfold execFlashStartScan
  rw [keeps_next]
  refine fixed_whenRuns _ _ _ ?_
  have h := fixed_foldl undoJob (fun t j => by simp)
  refine (fixed_ite ..).trans ?_
  split
  · rfl
  · exact (fixed_scanKeys _).trans ((fixed_mark ..).trans ((fixed_mark ..).trans ((h ..).trans (fixed_flash ..))))
@[simp] theorem keeps_execFlcXoLockWrite (v : BitVec 32) (s : State) : keeps s (execFlcXoLockWrite v s) := by
  simp [execFlcXoLockWrite]
@[simp] theorem fixed_modDay (f : Daymark → Daymark) (s : State) : fixed (modDay f s) = fixed s := by
  simp [modDay]
@[simp] theorem fixed_modRf (f : Rf → Rf) (s : State) : fixed (modRf f s) = fixed s := by
  simp [modRf]
@[simp] theorem fixed_putPage (p : Nat) (x : DayPage) (s : State) : fixed (putPage p x s) = fixed s := by
  simp [putPage]
@[simp] theorem fixed_queuePage (p : Nat) (data : Bytes) (who : PageBy) (s : State) :
    fixed (queuePage p data who s) = fixed s := by
  simp [queuePage]
@[simp] theorem fixed_tearWrites (mine : PageBy → Bool) (committed : Bool) (s : State) :
    fixed (tearWrites mine committed s) = fixed s := by
  unfold tearWrites
  split <;> simp
@[simp] theorem fixed_dayRespond (status : Nat) (b : Bytes) (s : State) : fixed (dayRespond status b s) = fixed s := by
  simp [dayRespond]
@[simp] theorem fixed_answerSlot (k : Nat) (s : State) : fixed (answerSlot k s) = fixed s := by
  unfold answerSlot
  split <;> simp
@[simp] theorem keeps_execInventory (q : BitVec 8) (s : State) : keeps s (execInventory q s) := by
  simp [execInventory]
@[simp] theorem keeps_execDaymarkSlotAdvance (s : State) : keeps s (execDaymarkSlotAdvance s) := by
  unfold execDaymarkSlotAdvance
  split <;> simp
@[simp] theorem keeps_execSelect (h : BitVec 16) (s : State) : keeps s (execSelect h s) := by
  simp [execSelect]
@[simp] theorem keeps_execReadPage (p : BitVec 8) (vbat : Bool) (s : State) : keeps s (execReadPage p vbat s) := by
  simp [execReadPage]
@[simp] theorem keeps_execWritePage (p : BitVec 8) (data : List (BitVec 8)) (s : State) :
    keeps s (execWritePage p data s) := by
  simp [execWritePage]
@[simp] theorem keeps_execAuth (x : BitVec 64) (s : State) : keeps s (execAuth x s) := by
  simp [execAuth]
@[simp] theorem keeps_execQuiet (s : State) : keeps s (execQuiet s) := by
  simp [execQuiet]
@[simp] theorem keeps_execDaymarkFieldLoss (committed : Bool) (s : State) :
    keeps s (execDaymarkFieldLoss committed s) := by
  simp [execDaymarkFieldLoss]
@[simp] theorem keeps_execDaymarkPowerUp (s : State) : keeps s (execDaymarkPowerUp s) := by
  simp [execDaymarkPowerUp]
@[simp] theorem keeps_execDaymarkPageWriteDone (ok : Bool) (s : State) : keeps s (execDaymarkPageWriteDone ok s) := by
  unfold execDaymarkPageWriteDone
  (repeat' split) <;> simp
@[simp] theorem keeps_execFirmwarePageWrite (p : Fin 64) (s : State) : keeps s (execFirmwarePageWrite p s) := by
  simp [execFirmwarePageWrite]
@[simp] theorem keeps_execFirmwarePageRead (p : Fin 64) (s : State) : keeps s (execFirmwarePageRead p s) := by
  simp [execFirmwarePageRead]
@[simp] theorem fixed_keepPage (p : Nat) (b : Bytes) (tail : Bytes) (s : State) :
    fixed (keepPage p b tail s) = fixed s := by
  simp [keepPage]
@[simp] theorem fixed_keepPages (s : State) : fixed (keepPages s) = fixed s := by
  simp [keepPages]
@[simp] theorem fixed_daymarkPassword (c : AdminCmd) (s : State) : fixed (daymarkPassword c s) = fixed s := by
  simp [daymarkPassword]
@[simp] theorem keeps_execDaymarkPassword (d : Fin 256) (s : State) : keeps s (execDaymarkPassword d s) := by
  simp [execDaymarkPassword]
@[simp] theorem fixed_daymarkUnlock (c : AdminCmd) (s : State) : fixed (daymarkUnlock c s) = fixed s := by
  simp [daymarkUnlock]
@[simp] theorem keeps_execDaymarkUnlock (d : Fin 256) (s : State) : keeps s (execDaymarkUnlock d s) := by
  simp [execDaymarkUnlock]
@[simp] theorem fixed_modHealth (f : Health → Health) (s : State) : fixed (modHealth f s) = fixed s := by
  simp [modHealth]
@[simp] theorem fixed_noteAdvice (which old new : Nat) (s : State) : fixed (noteAdvice which old new s) = fixed s := by
  simp [noteAdvice]
@[simp] theorem fixed_healthToPage (old new : Published) (s : State) : fixed (healthToPage old new s) = fixed s := by
  simp [healthToPage]
@[simp] theorem fixed_raiseSmbAlert (old new : Published) (s : State) : fixed (raiseSmbAlert old new s) = fixed s := by
  simp [raiseSmbAlert]
@[simp] theorem keeps_execHealthPublish (drift : List (BitVec 16)) (drawn : BitVec 32) (vbat : BitVec 13) (layer : Fin 4) (drop : BitVec 16) (s : State) :
    keeps s (execHealthPublish drift drawn vbat layer drop s) := by
  simp [execHealthPublish]
@[simp] theorem keeps_execHealthDailyMean (s : State) : keeps s (execHealthDailyMean s) := by
  simp [execHealthDailyMean]
@[simp] theorem fixed_healthRead (c : AdminCmd) (s : State) : fixed (healthRead c s) = fixed s := by
  simp [healthRead]
@[simp] theorem keeps_execHealthRead (d : Fin 256) (s : State) : keeps s (execHealthRead d s) := by
  simp [execHealthRead]
@[simp] theorem fixed_batterySet (c : AdminCmd) (s : State) : fixed (batterySet c s) = fixed s := by
  simp [batterySet]
@[simp] theorem keeps_execBatterySet (d : Fin 256) (s : State) : keeps s (execBatterySet d s) := by
  simp [execBatterySet]
@[simp] theorem fixed_smbusBlock (cmd : Nat) (data : Bytes) (s : State) : fixed (smbusBlock cmd data s) = fixed s := by
  simp [smbusBlock]
@[simp] theorem keeps_execSmbusHealthSummary (s : State) : keeps s (execSmbusHealthSummary s) := by
  simp [execSmbusHealthSummary]
@[simp] theorem keeps_execSmbusPrediction (n : Fin 6) (s : State) : keeps s (execSmbusPrediction n s) := by
  simp [execSmbusPrediction]
@[simp] theorem keeps_execSmbusPower (s : State) : keeps s (execSmbusPower s) := by
  simp [execSmbusPower]
@[simp] theorem keeps_execSmbusState (s : State) : keeps s (execSmbusState s) := by
  simp [execSmbusState]
@[simp] theorem keeps_execSmbusField (s : State) : keeps s (execSmbusField s) := by
  simp [execSmbusField]
@[simp] theorem keeps_execSmbusAlertResponse (s : State) : keeps s (execSmbusAlertResponse s) := by
  simp [execSmbusAlertResponse]
@[simp] theorem keeps_execSmbusUnknownCommand (s : State) : keeps s (execSmbusUnknownCommand s) := by
  simp [execSmbusUnknownCommand]
@[simp] theorem keeps_execSmbusTimeout (s : State) : keeps s (execSmbusTimeout s) := by
  simp [execSmbusTimeout]
@[simp] theorem fixed_modCard (f : Card → Card) (s : State) : fixed (modCard f s) = fixed s := by
  simp [modCard]
@[simp] theorem fixed_cardRefuse (s : State) : fixed (cardRefuse s) = fixed s := by
  simp [cardRefuse]
@[simp] theorem fixed_cardFailFree (s : State) : fixed (cardFailFree s) = fixed s := by
  simp [cardFailFree]
@[simp] theorem fixed_cardSend (b : Bytes) (s : State) : fixed (cardSend b s) = fixed s := by
  simp [cardSend]
@[simp] theorem fixed_cardSendI (s : State) : fixed (cardSendI s) = fixed s := by
  simp [cardSendI]
@[simp] theorem fixed_cardSendR (err : Nat) (s : State) : fixed (cardSendR err s) = fixed s := by
  simp [cardSendR]
@[simp] theorem fixed_cardResynch (s : State) : fixed (cardResynch s) = fixed s := by
  simp [cardResynch]
@[simp] theorem fixed_cardInvalid (err : Nat) (s : State) : fixed (cardInvalid err s) = fixed s := by
  simp [cardInvalid]
@[simp] theorem fixed_cardBegin (s : State) : fixed (cardBegin s) = fixed s := by
  simp [cardBegin]
@[simp] theorem fixed_cardResynched (s : State) : fixed (cardResynched s) = fixed s := by
  simp [cardResynched]
@[simp] theorem fixed_cardDone (resp : Bytes) (s : State) : fixed (cardDone resp s) = fixed s := by
  simp [cardDone]
@[simp] theorem fixed_cardTakeI (pcb : Nat) (inf : Bytes) (s : State) : fixed (cardTakeI pcb inf s) = fixed s := by
  simp [cardTakeI]
@[simp] theorem fixed_cardTakeR (nr : Bool) (err : Nat) (s : State) : fixed (cardTakeR nr err s) = fixed s := by
  simp [cardTakeR]
@[simp] theorem fixed_cardTakeS (pcb : Nat) (inf : Bytes) (s : State) : fixed (cardTakeS pcb inf s) = fixed s := by
  simp [cardTakeS]
@[simp] theorem fixed_cardTake (b : Bytes) (s : State) : fixed (cardTake b s) = fixed s := by
  simp [cardTake]
@[simp] theorem keeps_execCardBlockReceived (blk : List (BitVec 8)) (ok : Bool) (s : State) :
    keeps s (execCardBlockReceived blk ok s) := by
  unfold execCardBlockReceived
  rw [keeps_next]
  refine fixed_whenRuns _ _ _ ?_
  (repeat' split) <;> simp
@[simp] theorem keeps_execCardWaitTimeout (s : State) : keeps s (execCardWaitTimeout s) := by
  simp [execCardWaitTimeout]
@[simp] theorem fixed_cardAttempt (cls : Nat) (s : State) : fixed (cardAttempt cls s) = fixed s := by
  simp [cardAttempt]
@[simp] theorem fixed_cardNextAttempt (cls reason : Nat) (s : State) :
    fixed (cardNextAttempt cls reason s) = fixed s := by
  simp [cardNextAttempt]
@[simp] theorem keeps_execCardActivate (s : State) : keeps s (execCardActivate s) := by
  simp [execCardActivate]
@[simp] theorem keeps_execCardClassRetry (s : State) : keeps s (execCardClassRetry s) := by
  simp [execCardClassRetry]
@[simp] theorem fixed_cardMute (s : State) : fixed (cardMute s) = fixed s := by
  simp [cardMute]
@[simp] theorem keeps_execCardMuteTimeout (s : State) : keeps s (execCardMuteTimeout s) := by
  simp [execCardMuteTimeout]
@[simp] theorem fixed_cardSettle (fi di : Nat) (s : State) : fixed (cardSettle fi di s) = fixed s := by
  simp [cardSettle]
@[simp] theorem fixed_cardSpecific (ta2 : Nat) (s : State) : fixed (cardSpecific ta2 s) = fixed s := by
  simp [cardSpecific]
@[simp] theorem fixed_cardActOn (a : Atr) (s : State) : fixed (cardActOn a s) = fixed s := by
  unfold cardActOn
  (repeat' split) <;> simp
@[simp] theorem keeps_execCardAtrReceived (b : List (BitVec 8)) (ok : Bool) (s : State) :
    keeps s (execCardAtrReceived b ok s) := by
  unfold execCardAtrReceived
  rw [keeps_next]
  refine fixed_whenRuns _ _ _ ?_
  (repeat' split) <;> simp
@[simp] theorem fixed_cardPpsFailed (s : State) : fixed (cardPpsFailed s) = fixed s := by
  simp [cardPpsFailed]
@[simp] theorem keeps_execCardPpsResponse (b : List (BitVec 8)) (s : State) : keeps s (execCardPpsResponse b s) := by
  simp [execCardPpsResponse]
@[simp] theorem keeps_execCardPpsTimeout (s : State) : keeps s (execCardPpsTimeout s) := by
  simp [execCardPpsTimeout]
@[simp] theorem fixed_cardActivated (s : State) : fixed (cardActivated s) = fixed s := by
  simp [cardActivated]
@[simp] theorem keeps_execCardIfsResponse (blk : List (BitVec 8)) (ok : Bool) (s : State) :
    keeps s (execCardIfsResponse blk ok s) := by
  unfold execCardIfsResponse
  rw [keeps_next]
  refine fixed_whenRuns _ _ _ ?_
  (repeat' split) <;> simp
@[simp] theorem keeps_execCardTransfer (len : Fin 2048) (s : State) : keeps s (execCardTransfer len s) := by
  simp [execCardTransfer]
@[simp] theorem keeps_execCardDeactivate (s : State) : keeps s (execCardDeactivate s) := by
  simp [execCardDeactivate]
@[simp] theorem keeps_execCardAbort (s : State) : keeps s (execCardAbort s) := by
  simp [execCardAbort]
@[simp] theorem keeps_execCardMaxWait (s : State) : keeps s (execCardMaxWait s) := by
  simp [execCardMaxWait]
@[simp] theorem keeps_execCardClockStop (s : State) : keeps s (execCardClockStop s) := by
  simp [execCardClockStop]
@[simp] theorem keeps_execCrdCfgWrite (v : BitVec 32) (s : State) : keeps s (execCrdCfgWrite v s) := by
  simp [execCrdCfgWrite]
@[simp] theorem keeps_execCardInsertion (s : State) : keeps s (execCardInsertion s) := by
  simp [execCardInsertion]
@[simp] theorem keeps_execCardRemoval (s : State) : keeps s (execCardRemoval s) := by
  simp [execCardRemoval]
@[simp] theorem keeps_execCardShort (s : State) : keeps s (execCardShort s) := by
  simp [execCardShort]
@[simp] theorem fixed_faultCard (cause : Nat) (s : State) : fixed (faultCard cause s) = fixed s := by
  simp [faultCard]
@[simp] theorem fixed_cardQuiesce (s : State) : fixed (cardQuiesce s) = fixed s := by
  simp [cardQuiesce]
@[simp] theorem fixed_rfRefuse (s : State) : fixed (rfRefuse s) = fixed s := by
  simp [rfRefuse]
@[simp] theorem fixed_rfFailFree (s : State) : fixed (rfFailFree s) = fixed s := by
  simp [rfFailFree]
@[simp] theorem fixed_rfSend (b : Bytes) (s : State) : fixed (rfSend b s) = fixed s := by
  simp [rfSend]
@[simp] theorem fixed_rfGo (p : RfPhase) (b : Bytes) (s : State) : fixed (rfGo p b s) = fixed s := by
  simp [rfGo]
@[simp] theorem fixed_rfAnti (level : Nat) (known : List Bool) (s : State) : fixed (rfAnti level known s) = fixed s := by
  simp [rfAnti]
@[simp] theorem fixed_rfReqb (all : Bool) (s : State) : fixed (rfReqb all s) = fixed s := by
  simp [rfReqb]
@[simp] theorem fixed_rfNoTypeA (s : State) : fixed (rfNoTypeA s) = fixed s := by
  simp [rfNoTypeA]
@[simp] theorem fixed_rfAntiAnswer (level : Nat) (b : Bytes) (coll : Option (Fin 40)) (s : State) :
    fixed (rfAntiAnswer level b coll s) = fixed s := by
  unfold rfAntiAnswer
  split <;> simp
@[simp] theorem fixed_rfSak (level : Nat) (b : Bytes) (s : State) : fixed (rfSak level b s) = fixed s := by
  simp [rfSak]
@[simp] theorem fixed_rfActivated (s : State) : fixed (rfActivated s) = fixed s := by
  simp [rfActivated]
@[simp] theorem fixed_rfAts (b : Bytes) (s : State) : fixed (rfAts b s) = fixed s := by
  simp [rfAts]
@[simp] theorem fixed_rfPps (b : Bytes) (s : State) : fixed (rfPps b s) = fixed s := by
  simp [rfPps]
@[simp] theorem fixed_rfNextSlot (slot : Nat) (all : Bool) (s : State) : fixed (rfNextSlot slot all s) = fixed s := by
  simp [rfNextSlot]
@[simp] theorem fixed_rfAtqb (b : Bytes) (s : State) : fixed (rfAtqb b s) = fixed s := by
  simp [rfAtqb]
@[simp] theorem fixed_rfSendI (s : State) : fixed (rfSendI s) = fixed s := by
  simp [rfSendI]
@[simp] theorem fixed_rfDone (resp : Bytes) (s : State) : fixed (rfDone resp s) = fixed s := by
  simp [rfDone]
theorem fixed_rfTakeI {pcb : Nat} {inf : Bytes} {s t : State} (h : rfTakeI pcb inf s = some t) : fixed t = fixed s := by
  unfold rfTakeI at h; dsimp only at h
  (repeat' split at h) <;> cases h <;> simp
theorem fixed_rfTakeR {pcb : Nat} {s t : State} (h : rfTakeR pcb s = some t) : fixed t = fixed s := by
  unfold rfTakeR at h; dsimp only at h
  (repeat' split at h) <;> cases h <;> simp
theorem fixed_rfTakeWtx {inf : Bytes} {s t : State} (h : rfTakeWtx inf s = some t) : fixed t = fixed s := by
  unfold rfTakeWtx at h; dsimp only at h
  (repeat' split at h) <;> cases h <;> simp
theorem fixed_rfTake {b : Bytes} {s t : State} (h : rfTake b s = some t) : fixed t = fixed s := by
  unfold rfTake at h; dsimp only at h
  (repeat' split at h)
  · cases h
  · exact fixed_rfTakeI h
  · exact fixed_rfTakeR h
  · exact fixed_rfTakeWtx h
  · cases h
@[simp] theorem fixed_rfRecover (reason : Nat) (s : State) : fixed (rfRecover reason s) = fixed s := by
  simp [rfRecover]
@[simp] theorem fixed_rfActivating (b : Bytes) (coll : Option (Fin 40)) (ok : Bool) (s : State) :
    fixed (rfActivating b coll ok s) = fixed s := by
  unfold rfActivating
  split <;> simp
@[simp] theorem keeps_execRfBlockReceived (b : List (BitVec 8)) (ok : Bool) (coll : Option (Fin 40)) (s : State) :
    keeps s (execRfBlockReceived b ok coll s) := by
  unfold execRfBlockReceived
  rw [keeps_next]
  refine fixed_whenRuns _ _ _ ?_
  split
  · rfl
  · split
    · split
      · rename_i h; split at h
        · exact fixed_rfTake h
        · cases h
      · simp
    · simp
@[simp] theorem keeps_execRfFwtTimeout (s : State) : keeps s (execRfFwtTimeout s) := by
  unfold execRfFwtTimeout
  rw [keeps_next]
  refine fixed_whenRuns _ _ _ ?_
  split <;> simp
@[simp] theorem fixed_rfWaitLimit (s : State) : fixed (rfWaitLimit s) = fixed s := by
  simp [rfWaitLimit]
@[simp] theorem keeps_execRfActivate (s : State) : keeps s (execRfActivate s) := by
  simp [execRfActivate]
@[simp] theorem keeps_execRfTransfer (len : Fin 2048) (s : State) : keeps s (execRfTransfer len s) := by
  simp [execRfTransfer]
@[simp] theorem keeps_execRfDeactivate (s : State) : keeps s (execRfDeactivate s) := by
  simp [execRfDeactivate]
@[simp] theorem keeps_execRfAbort (s : State) : keeps s (execRfAbort s) := by
  simp [execRfAbort]
@[simp] theorem keeps_execRfxCfgWrite (v : BitVec 32) (s : State) : keeps s (execRfxCfgWrite v s) := by
  simp [execRfxCfgWrite]
@[simp] theorem fixed_foreignOn (s : State) : fixed (foreignOn s) = fixed s := by
  simp [foreignOn]
@[simp] theorem keeps_execForeignFieldOn (s : State) : keeps s (execForeignFieldOn s) := by
  simp [execForeignFieldOn]
@[simp] theorem keeps_execForeignFieldOff (s : State) : keeps s (execForeignFieldOff s) := by
  simp [execForeignFieldOff]
@[simp] theorem keeps_execHoldoffExpiry (s : State) : keeps s (execHoldoffExpiry s) := by
  simp [execHoldoffExpiry]
@[simp] theorem keeps_execRfPing (heard : Bool) (amp ph : BitVec 16) (limit : Bool) (s : State) :
    keeps s (execRfPing heard amp ph limit s) := by
  simp [execRfPing]
@[simp] theorem keeps_execCalibrate (amp ph : BitVec 16) (s : State) : keeps s (execCalibrate amp ph s) := by
  simp [execCalibrate]
@[simp] theorem fixed_faultRf (cause : Nat) (s : State) : fixed (faultRf cause s) = fixed s := by
  simp [faultRf]
@[simp] theorem fixed_rfQuiesce (s : State) : fixed (rfQuiesce s) = fixed s := by
  simp [rfQuiesce]
@[simp] theorem fixed_modPower (f : Power → Power) (s : State) : fixed (modPower f s) = fixed s := by
  simp [modPower]
@[simp] theorem fixed_modClocks (f : Clocks → Clocks) (s : State) : fixed (modClocks f s) = fixed s := by
  simp [modClocks]
@[simp] theorem fixed_powerBit (i : Nat) (s : State) : fixed (powerBit i s) = fixed s := by
  simp [powerBit]
@[simp] theorem fixed_logicReset (s : State) : fixed (logicReset s) = fixed s := by
  simp [logicReset]
@[simp] theorem fixed_frontOff (s : State) : fixed (frontOff s) = fixed s := by
  simp [frontOff]
@[simp] theorem fixed_powerReset (s : State) : fixed (powerReset s) = fixed s := by
  simp [powerReset]
@[simp] theorem fixed_restartLocks (s : State) : fixed (restartLocks s) = fixed s := by
  simp [restartLocks]
@[simp] theorem fixed_stopDevice (bit : Nat) (s : State) : fixed (stopDevice bit s) = fixed s := by
  simp [stopDevice]
@[simp] theorem keeps_execBrownoutStop (s : State) : keeps s (execBrownoutStop s) := by
  simp [execBrownoutStop]
@[simp] theorem keeps_execOvervoltageStop (s : State) : keeps s (execOvervoltageStop s) := by
  simp [execOvervoltageStop]
@[simp] theorem fixed_flushPages (n : Nat) (s : State) : fixed (flushPages n s) = fixed s := by
  induction n generalizing s with
  | zero => rfl
  | succ n ih => unfold flushPages; split <;> simp [ih]
@[simp] theorem keeps_execStopFlushComplete (s : State) : keeps s (execStopFlushComplete s) := by
  simp [execStopFlushComplete]
@[simp] theorem fixed_startUp (s : State) : fixed (startUp s) = fixed s := by
  simp [startUp]
@[simp] theorem keeps_execPowerStart (s : State) : keeps s (execPowerStart s) := by
  simp [execPowerStart]
@[simp] theorem keeps_execThermalRestart (tj : BitVec 16) (s : State) : keeps s (execThermalRestart tj s) := by
  simp [execThermalRestart]
@[simp] theorem keeps_execPllLock (s : State) : keeps s (execPllLock s) := by
  simp [execPllLock]
@[simp] theorem fixed_clampSample (on : Bool) (s : State) : fixed (clampSample on s) = fixed s := by
  simp [clampSample]
@[simp] theorem keeps_execVinSample (mv ma : BitVec 16) (low : Bool) (s : State) :
    keeps s (execVinSample mv ma low s) := by
  simp [execVinSample]
@[simp] theorem keeps_execClampMsDecay (s : State) : keeps s (execClampMsDecay s) := by
  simp [execClampMsDecay]
@[simp] theorem fixed_setBand (b : Nat) (s : State) : fixed (setBand b s) = fixed s := by
  simp [setBand]
@[simp] theorem keeps_execGovernorBandFall (s : State) : keeps s (execGovernorBandFall s) := by
  simp [execGovernorBandFall]
@[simp] theorem keeps_execGovernorBandRise (s : State) : keeps s (execGovernorBandRise s) := by
  simp [execGovernorBandRise]
@[simp] theorem keeps_execClockStretch (s : State) : keeps s (execClockStretch s) := by
  simp [execClockStretch]
@[simp] theorem keeps_execStretchRelease (s : State) : keeps s (execStretchRelease s) := by
  simp [execStretchRelease]
@[simp] theorem fixed_setTemp (tj : BitVec 16) (cl : Fin 10) (s : State) : fixed (setTemp tj cl s) = fixed s := by
  simp [setTemp]
@[simp] theorem fixed_powerFault (sev code : Nat) (s : State) : fixed (powerFault sev code s) = fixed s := by
  simp [powerFault]
@[simp] theorem keeps_execThermalThrottleStep (tj : BitVec 16) (cl : Fin 10) (s : State) :
    keeps s (execThermalThrottleStep tj cl s) := by
  simp [execThermalThrottleStep]
@[simp] theorem keeps_execThermalShutdown (tj : BitVec 16) (cl : Fin 10) (s : State) :
    keeps s (execThermalShutdown tj cl s) := by
  simp [execThermalShutdown]
@[simp] theorem fixed_judgeHoldup (s : State) : fixed (judgeHoldup s) = fixed s := by
  simp [judgeHoldup]
@[simp] theorem keeps_execHoldupLowDetect (vhu : BitVec 16) (s : State) : keeps s (execHoldupLowDetect vhu s) := by
  simp [execHoldupLowDetect]
@[simp] theorem keeps_execHoldupRecovery (vhu : BitVec 16) (s : State) : keeps s (execHoldupRecovery vhu s) := by
  simp [execHoldupRecovery]
@[simp] theorem fixed_stopRtc (s : State) : fixed (stopRtc s) = fixed s := by
  simp [stopRtc]
@[simp] theorem fixed_loseClock (k : ClockId) (s : State) : fixed (loseClock k s) = fixed s := by
  unfold loseClock
  split <;> simp
@[simp] theorem keeps_execClockLoss (k : ClockId) (s : State) : keeps s (execClockLoss k s) := by
  simp [execClockLoss]
@[simp] theorem keeps_execDramSelfRefreshEntry (s : State) : keeps s (execDramSelfRefreshEntry s) := by
  simp [execDramSelfRefreshEntry]
@[simp] theorem keeps_execDramWakeComplete (s : State) : keeps s (execDramWakeComplete s) := by
  simp [execDramWakeComplete]
@[simp] theorem fixed_setLocal (c : Nat) (m : SMap KWord) (s : State) : fixed (setLocal c m s) = fixed s := by
  unfold setLocal
  split <;> simp
@[simp] theorem fixed_coreReset (c : Nat) (s : State) : fixed (coreReset c s) = fixed s := by
  simp [coreReset]
@[simp] theorem fixed_startCore (c : Nat) (s : State) : fixed (startCore c s) = fixed s := by
  simp [startCore]
@[simp] theorem fixed_bootFail (b cause : Nat) (s : State) : fixed (bootFail b cause s) = fixed s := by
  simp [bootFail]
@[simp] theorem fixed_bootTake (b : Nat) (s : State) : fixed (bootTake b s) = fixed s := by
  simp [bootTake]
@[simp] theorem keeps_execBootRom (s : State) : keeps s (execBootRom s) := by
  unfold execBootRom
  rw [keeps_next]
  refine fixed_whenRuns _ _ _ ?_
  dsimp only
  (repeat' split) <;> simp
@[simp] theorem fixed_logStart (s : State) : fixed (logStart s) = fixed s := by
  have h (l : List Nat) (t : State) : fixed (l.foldl (fun t i => logExempt (hwEntry 0x08 0x16 2 i) t) t) = fixed t :=
    fixed_foldl _ (fun t i => by simp) l t
  unfold logStart; dsimp only; (repeat' split) <;> simp [h]

@[simp] theorem fixed_startMemory (s : State) : fixed (startMemory s) = fixed s := by
  simp [startMemory]
@[simp] theorem fixed_drawBlobKeys (s : State) : fixed (drawBlobKeys s) = fixed s := by
  simp [drawBlobKeys]
@[simp] theorem fixed_restoreCurve (bad : List (Fin 64)) (s : State) (e : Nat × CurveSlot) :
    fixed (restoreCurve bad s e) = fixed s := by
  unfold restoreCurve
  split <;> simp
@[simp] theorem fixed_restoreShares (s : State) : fixed (restoreShares s) = fixed s := by
  simp [restoreShares]


@[simp] theorem fixed_tickCore (s : State) (c : Nat) : fixed (tickCore s c) = fixed s := by
  simp [tickCore]
@[simp] theorem keeps_execManagementTick (edges : Nat) (s : State) : keeps s (execManagementTick edges s) := by
  simp [execManagementTick]
@[simp] theorem fixed_eraseSecs (b : Nat) (secs : List Nat) (new : List (Nat × FwPage)) (s : State) :
    fixed (eraseSecs b secs new s) = fixed s :=
  fixed_foldl (fun t i => appendJournal (1024 * b + i) 1 [] t) (fun t i => by simp) secs s
@[simp] theorem fixed_eraseBank (b : Nat) (s : State) : fixed (eraseBank b s) = fixed s := by
  rw [eraseBank, fixed_eraseSecs]
theorem fixed_update (s : State) (u : Option FwUpdate) :
    fixed { s with boot := { s.boot with update := u } } = fixed s := rfl
@[simp] theorem fixed_fwBegin (c : AdminCmd) (s : State) : fixed (fwBegin c s) = fixed s := by
  unfold fwBegin
  dsimp only
  split
  · simp
  · refine fixed_ifLogged _ _ _ fun t => ?_
    rw [fixed_finishCmd, fixed_update, fixed_eraseBank, fixed_logAdmin]
@[simp] theorem keeps_execFwUpdateBegin (d : Fin 256) (s : State) : keeps s (execFwUpdateBegin d s) := by
  simp [execFwUpdateBegin]
@[simp] theorem fixed_fwData (c : AdminCmd) (s : State) : fixed (fwData c s) = fixed s := by
  unfold fwData
  split <;> simp
@[simp] theorem keeps_execFwUpdateData (d : Fin 256) (s : State) : keeps s (execFwUpdateData d s) := by
  simp [execFwUpdateData]
@[simp] theorem fixed_fwFinish (c : AdminCmd) (s : State) : fixed (fwFinish c s) = fixed s := by
  unfold fwFinish
  (repeat' split) <;> simp
@[simp] theorem keeps_execFwUpdateFinish (d : Fin 256) (s : State) : keeps s (execFwUpdateFinish d s) := by
  simp [execFwUpdateFinish]
@[simp] theorem fixed_fwAbort (c : AdminCmd) (s : State) : fixed (fwAbort c s) = fixed s := by
  simp [fwAbort]
@[simp] theorem keeps_execFwUpdateAbort (d : Fin 256) (s : State) : keeps s (execFwUpdateAbort d s) := by
  simp [execFwUpdateAbort]
@[simp] theorem fixed_putApplet (c : AdminCmd) (code : Bytes) (s : State) : fixed (putApplet c code s) = fixed s := by
  simp [putApplet]
@[simp] theorem fixed_appletLoad (c : AdminCmd) (s : State) : fixed (appletLoad c s) = fixed s := by
  simp [appletLoad]
@[simp] theorem keeps_execAppletLoad (d : Fin 256) (s : State) : keeps s (execAppletLoad d s) := by
  simp [execAppletLoad]
@[simp] theorem fixed_appletEmpty (c : AdminCmd) (s : State) : fixed (appletEmpty c s) = fixed s := by
  simp [appletEmpty]
@[simp] theorem keeps_execAppletEmpty (d : Fin 256) (s : State) : keeps s (execAppletEmpty d s) := by
  simp [execAppletEmpty]
@[simp] theorem fixed_faultMooring (cause : Nat) (s : State) : fixed (faultMooring cause s) = fixed s := by
  simp [faultMooring]
@[simp] theorem fixed_faultNv (cause : Nat) (s : State) : fixed (faultNv cause s) = fixed s := by
  simp [faultNv]
@[simp] theorem fixed_driveLockup (before s : State) : fixed (driveLockup before s) = fixed s := by
  simp [driveLockup]
@[simp] theorem fixed_lockup (c cause : Nat) (s : State) : fixed (lockup c cause s) = fixed s := by
  simp [lockup]
@[simp] theorem fixed_unitFault (u : UnitId) (cause : Nat) (s : State) : fixed (unitFault u cause s) = fixed s := by
  unfold unitFault
  split <;> simp
@[simp] theorem keeps_execUnitFault (u : UnitId) (cause : Fin 256) (s : State) : keeps s (execUnitFault u cause s) := by
  simp [execUnitFault]
@[simp] theorem fixed_coreMove (c : Nat) (ev : UnitEvent) (s : State) : fixed (coreMove c ev s) = fixed s := by
  simp [coreMove]
@[simp] theorem fixed_refuseReset (s : State) : fixed (refuseReset s) = fixed s := by
  simp [refuseReset]
@[simp] theorem fixed_allottedEn (u : UnitId) (v : Bool) (s : State) : fixed (allottedEn u v s) = fixed s := by
  simp [allottedEn]
@[simp] theorem fixed_unitEn (u : UnitId) (v : Bool) (s : State) : fixed (unitEn u v s) = fixed s := by
  cases u
  case dom => exact fixed_domMove ..
  case queue => exact fixed_queueEn ..
  case lane => exact fixed_allottedEn ..
  case pair => exact fixed_allottedEn ..
  case core =>
    refine (fixed_ite ..).trans ?_
    split
    · exact fixed_refuseReset ..
    · exact fixed_coreMove ..
  case logbook => rfl
  case pipe => exact (fixed_startPk _).trans (fixed_moveUnit ..)
  case rng => exact (fixed_seedingOff ..).trans (fixed_moveUnit ..)
  all_goals exact fixed_moveUnit ..
@[simp] theorem fixed_unitAbort (u : UnitId) (s : State) : fixed (unitAbort u s) = fixed s := by
  unfold unitAbort
  split <;> simp
@[simp] theorem fixed_unitQuiesce (u : UnitId) (s : State) : fixed (unitQuiesce u s) = fixed s := by
  have h : ∀ c : Bool, fixed (if c then unitAbort u s else s) = fixed s := fun c => by split <;> simp only [fixed_unitAbort]
  have hm (r : UnitRec) (k : Nat) (c : Bool) : fixed (moveUnit u r k (if c then unitAbort u s else s)) = fixed s :=
    (fixed_moveUnit ..).trans (h c)
  cases u
  case dom => exact fixed_domMove ..
  case queue => exact fixed_queueMove ..
  case logbook => rfl
  case core => exact (fixed_coreMove ..).trans (h _)
  case lane => exact (fixed_applyAllotment _).trans (hm ..)
  case pair => exact (fixed_applyAllotment _).trans (hm ..)
  case pipe => exact (fixed_startPk _).trans (hm ..)
  case rng => exact (fixed_seedingOff ..).trans (hm ..)
  all_goals exact hm ..
@[simp] theorem fixed_unitScrub (u : UnitId) (s : State) : fixed (unitScrub u s) = fixed s := by
  unfold unitScrub
  split <;> simp
@[simp] theorem fixed_unitReset (u : UnitId) (s : State) : fixed (unitReset u s) = fixed s := by
  cases u <;> simp [unitReset]
@[simp] theorem fixed_ctrlWrite (u : UnitId) (new : Nat) (stops : Bool) (f : State → State) (s : State)
    (h : ∀ t, fixed (f t) = fixed t) : fixed (ctrlWrite u new stops f s) = fixed s := by
  unfold ctrlWrite; split <;> simp [h]
@[simp] theorem fixed_ctrlDiscard (u : UnitId) (new : Nat) (s : State) : fixed (ctrlDiscard u new s) = fixed s := by
  unfold ctrlDiscard
  split <;> simp
@[simp] theorem keeps_execUnitEnWrite (u : UnitId) (v : Bool) (s : State) : keeps s (execUnitEnWrite u v s) := by
  simp [execUnitEnWrite]
@[simp] theorem keeps_execUnitQuiesce (u : UnitId) (en : Bool) (s : State) : keeps s (execUnitQuiesce u en s) := by
  simp [execUnitQuiesce]
@[simp] theorem fixed_noteReset1 (u : UnitId) (s : State) : fixed (noteReset1 u s) = fixed s := by
  unfold noteReset1
  split <;> simp
@[simp] theorem fixed_logDecision (u : UnitId) (new : Nat) (s : State) : fixed (logDecision u new s) = fixed s := by
  simp [logDecision]
@[simp] theorem fixed_resetWrite (u : UnitId) (en : Bool) (s : State) : fixed (resetWrite u en s) = fixed s := by
  unfold resetWrite
  split <;> simp
@[simp] theorem keeps_execUnitReset (u : UnitId) (en fw : Bool) (s : State) : keeps s (execUnitReset u en fw s) := by
  simp [execUnitReset]
@[simp] theorem fixed_unitReady (u : UnitId) (s : State) : fixed (unitReady u s) = fixed s := by
  unfold unitReady
  split <;> simp
@[simp] theorem keeps_execUnitInitComplete (u : UnitId) (fail : Fin 256) (s : State) :
    keeps s (execUnitInitComplete u fail s) := by
  unfold execUnitInitComplete
  rw [keeps_next]
  (repeat' split) <;> simp only [fixed_domInit, fixed_queueInit, fixed_unitFault, fixed_unitReady]
@[simp] theorem fixed_afterDrain (u : UnitId) (s : State) : fixed (afterDrain u s) = fixed s := by
  unfold afterDrain
  split <;> simp
@[simp] theorem keeps_execUnitDrainComplete (u : UnitId) (s : State) : keeps s (execUnitDrainComplete u s) := by
  unfold execUnitDrainComplete
  split <;> simp
@[simp] theorem keeps_execAllLocked (s : State) : keeps s (execAllLocked s) := by
  simp [execAllLocked]
@[simp] theorem keeps_execCountedEvent (c : Fin 4) (src : Fin 16) (s : State) : keeps s (execCountedEvent c src s) := by
  simp [execCountedEvent]
@[simp] theorem keeps_execEoi (c : Fin 4) (src : Fin 128) (s : State) : keeps s (execEoi c src s) := by
  simp [execEoi]
@[simp] theorem keeps_execIntClr (c : Fin 4) (src : Fin 128) (s : State) : keeps s (execIntClr c src s) := by
  simp [execIntClr]
@[simp] theorem fixed_swiAt (target src : Nat) (s : State) : fixed (swiAt target src s) = fixed s := by
  simp [swiAt]
@[simp] theorem keeps_execIntSwi (target : Fin 4) (src : Fin 128) (s : State) : keeps s (execIntSwi target src s) := by
  simp [execIntSwi]
@[simp] theorem fixed_setMpu (c : Nat) (m : Mpu) (s : State) : fixed (setMpu c m s) = fixed s := by
  simp [setMpu]
@[simp] theorem fixed_modMpu (c : Nat) (f : Mpu → Mpu) (s : State) : fixed (modMpu c f s) = fixed s := by
  simp [modMpu]
@[simp] theorem fixed_putWord (c : Nat) (l : Loc) (w : KWord) (s : State) : fixed (putWord c l w s) = fixed s := by
  unfold putWord
  split <;> simp
@[simp] theorem fixed_wakeFor (l : Loc) (s : State) : fixed (wakeFor l s) = fixed s := by
  unfold wakeFor
  split <;> simp
@[simp] theorem fixed_loseResv (who : Option Nat) (a : Nat) (s : State) : fixed (loseResv who a s) = fixed s := by
  simp [loseResv]
@[simp] theorem fixed_memStore (c a size : Nat) (w : KWord) (s : State) : fixed (memStore c a size w s) = fixed s := by
  unfold memStore
  split <;> simp
@[simp] theorem fixed_drainOne (c : Nat) (s : State) : fixed (drainOne c s) = fixed s := by
  unfold drainOne
  dsimp only
  (repeat' split) <;> simp
@[simp] theorem fixed_drainN (n c : Nat) (s : State) : fixed (drainN n c s) = fixed s := by
  induction n generalizing s with
  | zero => rfl
  | succ n ih => simp [drainN, ih]
@[simp] theorem fixed_drainAll (c : Nat) (s : State) : fixed (drainAll c s) = fixed s := by
  simp [drainAll]
@[simp] theorem fixed_drainFor (c a : Nat) (s : State) : fixed (drainFor c a s) = fixed s := by
  simp [drainFor]
@[simp] theorem fixed_bufferStore (c a size : Nat) (w : KWord) (s : State) :
    fixed (bufferStore c a size w s) = fixed s := by
  simp [bufferStore]
theorem fixed_readWord {c a : Nat} {s t : State} {w : KWord} (h : readWord c a s = .ok (w, t)) : fixed t = fixed s := by
  unfold readWord at h
  split at h
  · cases h
  · split at h
    · cases h
    · simpa using congrArg (fun p => fixed p.2) (Except.ok.inj h).symm
  · dsimp only at h
    split at h <;> (injection h with h; injection h with _ h; subst h; simp)
  · cases h; rfl
theorem fixed_memLoad {c a size : Nat} {s t : State} {w : KWord} (h : memLoad c a size s = .ok (w, t)) :
    fixed t = fixed s := by
  unfold memLoad at h
  obtain ⟨_, _, h⟩ := ok_bind h
  obtain ⟨_, _, h⟩ := ok_bind h
  obtain ⟨⟨w1, t1⟩, h1, h⟩ := ok_bind h
  obtain ⟨_, _, h⟩ := ok_bind h
  cases h
  simpa using fixed_readWord h1
theorem fixed_memPut {c a size : Nat} {w : KWord} {s t : State} (h : memPut c a size w s = .ok t) :
    fixed t = fixed s := by
  unfold memPut at h
  obtain ⟨_, _, h⟩ := ok_bind h
  obtain ⟨_, _, h⟩ := ok_bind h
  split at h
  · obtain ⟨_, _, h⟩ := ok_bind h
    cases h; split <;> simp
  · obtain ⟨_, _, h⟩ := ok_bind h
    cases h; split <;> simp
@[simp] theorem fixed_ran (s : State) (o : Host.Outcome State Fault Refusal) (h : keeps s o) :
    fixed (ran s o) = fixed s := by
  unfold ran; split
  · exact h _ rfl
  · rfl
@[simp] theorem fixed_ctrlStore (u : UnitId) (v : Nat) (s : State) : fixed (ctrlStore u v s) = fixed s := by
  simp [ctrlStore]
theorem fixed_romTake {m : Nat} {w : KWord} {s t : State} (h : romTake m w s = some t) : fixed t = fixed s := by
  unfold romTake at h; dsimp only at h; split at h
  · cases h; simp
  · cases h
@[simp] theorem fixed_sendWord (c m : Nat) (w : KWord) (s : State) : fixed (sendWord c m w s) = fixed s := by
  unfold sendWord
  split
  · simp
  · split
    · rename_i h; exact fixed_romTake h
    · simp
@[simp] theorem fixed_receive (c k : Nat) (s : State) : fixed (receive c k s).2 = fixed s := by
  unfold receive; split <;> simp
@[simp] theorem fixed_dramBaseStore (n v : Nat) (s : State) : fixed (dramBaseStore n v s) = fixed s := by
  simp [dramBaseStore]
@[simp] theorem keeps_execMgcDramBaseWrite (n : Fin 4) (v : BitVec 32) (s : State) :
    keeps s (execMgcDramBaseWrite n v s) := by
  simp [execMgcDramBaseWrite]
@[simp] theorem fixed_mpuOff (c : Nat) (s : State) : fixed (mpuOff c s) = fixed s := by
  simp [mpuOff]
@[simp] theorem keeps_execMpuDisable (c : Fin 4) (s : State) : keeps s (execMpuDisable c s) := by
  simp [execMpuDisable]
@[simp] theorem keeps_execMpuDrainComplete (c : Fin 4) (s : State) : keeps s (execMpuDrainComplete c s) := by
  simp [execMpuDrainComplete]
@[simp] theorem fixed_mpuOn (c : Nat) (s : State) : fixed (mpuOn c s) = fixed s := by
  simp [mpuOn]
@[simp] theorem keeps_execMpuEnable (c : Fin 4) (s : State) : keeps s (execMpuEnable c s) := by
  simp [execMpuEnable]
@[simp] theorem fixed_regionStore (c r w v : Nat) (s : State) : fixed (regionStore c r w v s) = fixed s := by
  simp [regionStore]
@[simp] theorem keeps_execMpuRegionWrite (c : Fin 4) (r : Fin 16) (w : Fin 3) (v : BitVec 32) (s : State) :
    keeps s (execMpuRegionWrite c r w v s) := by
  simp [execMpuRegionWrite]
@[simp] theorem keeps_execWriteBufferDrain (c : Fin 4) (s : State) : keeps s (execWriteBufferDrain c s) := by
  simp [execWriteBufferDrain]
@[simp] theorem fixed_coreCtrlStore (c ring n v : Nat) (s : State) : fixed (coreCtrlStore c ring n v s) = fixed s := by
  simp [coreCtrlStore]
@[simp] theorem fixed_mgcStore (c ring r v : Nat) (s : State) : fixed (mgcStore c ring r v s) = fixed s := by
  simp [mgcStore]
@[simp] theorem fixed_intStore (c r v : Nat) (s : State) : fixed (intStore c r v s) = fixed s := by
  simp [intStore]
@[simp] theorem fixed_mpuStore (c r v : Nat) (s : State) : fixed (mpuStore c r v s) = fixed s := by
  simp [mpuStore]
@[simp] theorem fixed_hptStore (r v : Nat) (s : State) : fixed (hptStore r v s) = fixed s := by
  simp [hptStore]
@[simp] theorem fixed_qeStore (r v : Nat) (s : State) : fixed (qeStore r v s) = fixed s := by
  simp [qeStore]
@[simp] theorem fixed_unitsStore (n r v : Nat) (u : Nat → UnitId) (s : State) :
    fixed (unitsStore n r v u s) = fixed s := by
  simp [unitsStore]
@[simp] theorem fixed_pkeStore (r v : Nat) (s : State) : fixed (pkeStore r v s) = fixed s := by
  simp [pkeStore]
@[simp] theorem fixed_flcStore (ring r v : Nat) (s : State) : fixed (flcStore ring r v s) = fixed s := by
  unfold flcStore
  (repeat' split) <;> simp
@[simp] theorem fixed_clgStore (r v : Nat) (s : State) : fixed (clgStore r v s) = fixed s := by
  simp [clgStore]
@[simp] theorem fixed_evrStore (r v : Nat) (s : State) : fixed (evrStore r v s) = fixed s := by
  unfold evrStore
  split <;> simp
@[simp] theorem fixed_wchStore (r v : Nat) (s : State) : fixed (wchStore r v s) = fixed s := by
  simp [wchStore]
@[simp] theorem fixed_crdCmd (v : Nat) (s : State) : fixed (crdCmd v s) = fixed s := by
  unfold crdCmd
  split <;> simp
@[simp] theorem fixed_crdStore (r v : Nat) (s : State) : fixed (crdStore r v s) = fixed s := by
  unfold crdStore
  (repeat' split) <;> simp
@[simp] theorem fixed_rfxCmd (v : Nat) (s : State) : fixed (rfxCmd v s) = fixed s := by
  unfold rfxCmd
  split <;> simp
@[simp] theorem fixed_rfxPageCmd (ring v : Nat) (s : State) : fixed (rfxPageCmd ring v s) = fixed s := by
  unfold rfxPageCmd
  (repeat' split) <;> simp
@[simp] theorem fixed_rfxStore (ring r v : Nat) (s : State) : fixed (rfxStore ring r v s) = fixed s := by
  unfold rfxStore
  (repeat' split) <;> simp
@[simp] theorem fixed_keeperStore (c ring off v : Nat) (s : State) : fixed (keeperStore c ring off v s) = fixed s := by
  unfold keeperStore
  (repeat' split) <;> simp
@[simp] theorem fixed_regWord (v rsv : Nat) (s : State) : fixed (regWord v rsv s).2 = fixed s := by
  unfold regWord; split <;> simp
@[simp] theorem fixed_plainRead (c off : Nat) (s : State) : fixed (plainRead c off s).2 = fixed s := by
  unfold plainRead; dsimp only; (repeat' split) <;> simp
theorem fixed_regLoad {c off : Nat} {s t : State} {w : KWord} (h : regLoad c off s = .ok (w, t)) : fixed t = fixed s := by
  unfold regLoad at h
  split at h
  · split at h
    · rename_i h1
      injection h with h; injection h with _ h; subst h
      simpa [h1] using fixed_rngReadBy c s
    · cases h
  · split at h
    · simpa using congrArg (fun p => fixed p.2) (Except.ok.inj h).symm
    · split at h
      · injection h with h; injection h with _ h; subst h; simp
      · simpa using congrArg (fun p => fixed p.2) (Except.ok.inj h).symm
@[simp] theorem fixed_regStore (c off : Nat) (w : KWord) (s : State) : fixed (regStore c off w s) = fixed s := by
  simp [regStore]
theorem fixed_kLoad {c a size : Nat} {s t : State} {w : KWord} (h : kLoad c a size s = .ok (w, t)) :
    fixed t = fixed s := by
  unfold kLoad at h
  split at h
  · obtain ⟨_, _, h⟩ := ok_bind h
    obtain ⟨_, _, h⟩ := ok_bind h
    exact fixed_regLoad h
  · exact fixed_memLoad h
theorem fixed_kStore {c a size : Nat} {w : KWord} {s t : State} (h : kStore c a size w s = .ok t) :
    fixed t = fixed s := by
  unfold kStore at h
  split at h
  · obtain ⟨_, _, h⟩ := ok_bind h
    obtain ⟨_, _, h⟩ := ok_bind h
    obtain ⟨_, _, h⟩ := ok_bind h
    obtain ⟨_, _, h⟩ := ok_bind h
    obtain ⟨_, _, h⟩ := ok_bind h
    rw [← Except.ok.inj h]; exact fixed_regStore _ _ _ _
  · exact fixed_memPut h
@[simp] theorem fixed_queueStore (d : Fin 256) (q : Fin 65) (r : Nat) (h : Half) (v : Nat) (s : State) :
    fixed (queueStore d q r h v s) = fixed s := by
  simp [queueStore]
@[simp] theorem fixed_hostPut (d : Fin 256) (r : Nat) (h : Half) (v : Nat) (s : State) :
    fixed (hostPut d r h v s) = fixed s := by
  simp [hostPut]
@[simp] theorem fixed_hostStore (d : Fin 256) (r v : Nat) (hi : Option Nat) (s : State) :
    fixed (hostStore d r v hi s) = fixed s := by
  unfold hostStore
  split <;> simp
@[simp] theorem fixed_msixPut (d : Fin 256) (r v : Nat) (s : State) : fixed (msixPut d r v s) = fixed s := by
  unfold msixPut
  split <;> simp
@[simp] theorem fixed_msixStore (d : Fin 256) (r v : Nat) (hi : Option Nat) (s : State) :
    fixed (msixStore d r v hi s) = fixed s := by
  unfold msixStore
  split <;> simp
@[simp] theorem fixed_hostLoad (d : Nat) (reg : Nat → Option RegVal) (r : Nat) (wide : Bool) (s : State) :
    fixed (hostLoad d reg r wide s) = fixed s := by
  simp [hostLoad]
@[simp] theorem keeps_execRegisterWrite (t : RegTarget) (v : BitVec 32) (s : State) :
    keeps s (execRegisterWrite t v s) := by
  unfold execRegisterWrite
  split <;> simp
@[simp] theorem keeps_execRegisterWideRead (t : RegSource) (wide : Bool) (s : State) :
    keeps s (execRegisterWideRead t wide s) := by
  unfold execRegisterWideRead
  (repeat' split) <;> simp
@[simp] theorem keeps_execMailboxReceive (c : Fin 4) (k : Fin 3) (dst : Fin 16) (s : State) :
    keeps s (execMailboxReceive c k dst s) := by
  simp [execMailboxReceive]
@[simp] theorem fixed_lockupWith (c : Nat) (e : Exc) (s : State) : fixed (lockupWith c e s) = fixed s := by
  simp [lockupWith]
@[simp] theorem fixed_excEntry (c : Nat) (e : Exc) (ret : BitVec 32) (s : State) :
    fixed (excEntry c e ret s) = fixed s := by
  simp [excEntry]
@[simp] theorem fixed_takeInterrupt (c src : Nat) (s : State) : fixed (takeInterrupt c src s) = fixed s := by
  simp [takeInterrupt]
@[simp] theorem fixed_takeNext (c : Nat) (s : State) : fixed (takeNext c s) = fixed s := by
  unfold takeNext
  split <;> simp
@[simp] theorem keeps_execInterruptTake (c : Fin 4) (s : State) : keeps s (execInterruptTake c s) := by
  simp [execInterruptTake]
@[simp] theorem keeps_execCoreWake (c : Fin 4) (s : State) : keeps s (execCoreWake c s) := by
  simp [execCoreWake]
@[simp] theorem fixed_stallRead (c : Nat) (dst : Option Nat) (next : BitVec 32) (s : State) :
    fixed (stallRead c dst next s) = fixed s := by
  unfold stallRead
  split <;> simp
theorem fixed_runInstr {c n : Nat} {ok : Bool} {dst : Option Nat} {f : BitVec 32 → State → Except Stop State} {s : State}
    (hf : ∀ pc t u, f pc t = .ok u → fixed u = fixed t) : fixed (runInstr c n ok dst f s) = fixed s := by
  unfold runInstr
  split
  · rfl
  · dsimp only
    split
    · rename_i h
      obtain ⟨_, _, h⟩ := ok_bind h
      obtain ⟨_, _, h⟩ := ok_bind h
      simpa using hf _ _ _ h
    · simp
    · simp
@[simp] theorem keeps_execUndefinedInstruction (c : Fin 4) (n : Fin 5) (s : State) :
    keeps s (execUndefinedInstruction c n s) := by
  unfold execUndefinedInstruction
  rw [keeps_next]
  exact fixed_runInstr fun _ _ _ h => by cases h; rfl
@[simp] theorem keeps_execMailboxSend (c m : Fin 4) (v : BitVec 32) (t : Fin 8) (s : State) :
    keeps s (execMailboxSend c m v t s) := by
  simp [execMailboxSend]
@[simp] theorem fixed_setBankD (c i : Nat) (w : KWord) (s : State) : fixed (setBankD c i w s) = fixed s := by
  simp [setBankD]
@[simp] theorem fixed_setBankA (c i : Nat) (w : KWord) (s : State) : fixed (setBankA c i w s) = fixed s := by
  simp [setBankA]
theorem fixed_formEa {c size : Nat} {pc : BitVec 32} {o : Opnd} {s t : State} {e : BitVec 32}
    (h : formEa c size pc o s = .ok (e, t)) : fixed t = fixed s := by
  unfold formEa at h
  split at h
  · obtain ⟨_, _, h⟩ := ok_bind h; cases h; rfl
  · obtain ⟨_, _, h⟩ := ok_bind h; cases h; simp
  · obtain ⟨_, _, h⟩ := ok_bind h; cases h; simp
  · obtain ⟨_, _, h⟩ := ok_bind h; cases h; rfl
  · obtain ⟨_, _, h⟩ := ok_bind h; obtain ⟨_, _, h⟩ := ok_bind h; cases h; rfl
  · cases h; rfl
  · cases h; rfl
  · obtain ⟨_, _, h⟩ := ok_bind h
    obtain ⟨⟨w, t1⟩, h1, h⟩ := ok_bind h
    dsimp only at h
    split at h <;> cases h
    exact fixed_kLoad h1
  · cases h
theorem fixed_readOp {c size : Nat} {pc : BitVec 32} {o : Opnd} {s t : State} {w : KWord}
    (h : readOp c size pc o s = .ok (w, t)) : fixed t = fixed s := by
  unfold readOp at h
  split at h
  · obtain ⟨_, _, h⟩ := ok_bind h; cases h; rfl
  · obtain ⟨_, _, h⟩ := ok_bind h; cases h; rfl
  · obtain ⟨_, _, h⟩ := ok_bind h; cases h; rfl
  · cases h
  · obtain ⟨⟨e, t1⟩, h1, h⟩ := ok_bind h
    exact (fixed_kLoad h).trans (fixed_formEa h1)
theorem fixed_evalDest {c size : Nat} {pc : BitVec 32} {o : Opnd} {s t : State} {x : Dest}
    (h : evalDest c size pc o s = .ok (x, t)) : fixed t = fixed s := by
  unfold evalDest at h
  split at h
  · cases h; rfl
  · cases h; rfl
  · cases h
  · obtain ⟨⟨e, t1⟩, h1, h⟩ := ok_bind h
    obtain ⟨_, _, h⟩ := ok_bind h
    dsimp only at h
    split at h
    · obtain ⟨_, _, h⟩ := ok_bind h; cases h; exact fixed_formEa h1
    · obtain ⟨_, _, h⟩ := ok_bind h; cases h; exact fixed_formEa h1
theorem fixed_writeDest {c size : Nat} {x : Dest} {w : KWord} {s t : State} (h : writeDest c size x w s = .ok t) :
    fixed t = fixed s := by
  unfold writeDest at h
  split at h
  · cases h; simp
  · split at h <;> cases h; simp
  · exact fixed_kStore h
theorem fixed_readAll {c size : Nat} {pc : BitVec 32} {l : List Opnd} {s t : State} {ws : List KWord}
    (h : readAll c size pc l s = .ok (ws, t)) : fixed t = fixed s := by
  induction l generalizing s t ws with
  | nil => cases h; rfl
  | cons o r ih =>
    unfold readAll at h
    obtain ⟨⟨w, t1⟩, h1, h⟩ := ok_bind h
    obtain ⟨⟨ws1, t2⟩, h2, h⟩ := ok_bind h
    cases h
    exact (ih h2).trans (fixed_readOp h1)
theorem fixed_opBody {c size : Nat} {dst : Opnd} {srcs : List Opnd}
    {op : List KWord → State → Except Stop (KWord × State)} {pc : BitVec 32} {s t : State}
    (hop : ∀ ws u w v, op ws u = .ok (w, v) → fixed v = fixed u) (h : opBody c size dst srcs op pc s = .ok t) :
    fixed t = fixed s := by
  unfold opBody at h
  obtain ⟨⟨x, s1⟩, h1, h⟩ := ok_bind h
  obtain ⟨⟨ws, s2⟩, h2, h⟩ := ok_bind h
  obtain ⟨⟨w, s3⟩, h3, h⟩ := ok_bind h
  exact (fixed_writeDest h).trans ((hop _ _ _ _ h3).trans ((fixed_readAll h2).trans (fixed_evalDest h1)))
theorem fixed_runOp {c : Nat} {dst : Opnd} {srcs : List Opnd} {imm : BitVec 32 → Bool}
    {op : List KWord → State → Except Stop (KWord × State)} {s : State}
    (hop : ∀ ws u w v, op ws u = .ok (w, v) → fixed v = fixed u) : fixed (runOp c dst srcs imm op s) = fixed s :=
  fixed_runInstr fun _ _ _ h => fixed_opBody hop h
theorem fixed_runUse {c : Nat} {srcs : List Opnd} {imm : BitVec 32 → Bool} {op : List KWord → State → Except Stop State}
    {s : State} (hop : ∀ ws u v, op ws u = .ok v → fixed v = fixed u) : fixed (runUse c srcs imm op s) = fixed s :=
  fixed_runInstr fun _ _ _ h => by
    obtain ⟨⟨ws, u⟩, h1, h⟩ := ok_bind h
    exact (hop _ _ _ h).trans (fixed_readAll h1)
@[simp] theorem fixed_setFlags (c : Nat) (f : Flags) (s : State) : fixed (setFlags c f s) = fixed s := by
  simp [setFlags]
@[simp] theorem fixed_binary (c : Nat) (d a b : Opnd) (imm : BitVec 32 → Bool)
    (op : KBank → KWord → KWord → Except Stop (KWord × Option Flags)) (s : State) :
    fixed (binary c d a b imm op s) = fixed s :=
  fixed_runOp fun ws u w v h => by
    dsimp only at h
    split at h
    · obtain ⟨⟨r, f⟩, _, h⟩ := ok_bind h
      cases h; dsimp only; split <;> simp
    · cases h
@[simp] theorem fixed_unary (c : Nat) (d a : Opnd) (op : KBank → KWord → Except Stop (KWord × Option Flags)) (s : State) :
    fixed (unary c d a op s) = fixed s :=
  fixed_runOp fun ws u w v h => by
    dsimp only at h
    split at h
    · obtain ⟨⟨r, f⟩, _, h⟩ := ok_bind h
      cases h; dsimp only; split <;> simp
    · cases h
@[simp] theorem keeps_execKAdd (c : Fin 4) (d a b : Opnd) (s : State) : keeps s (execKAdd c d a b s) := by
  simp [execKAdd]
@[simp] theorem keeps_execKSub (c : Fin 4) (d a b : Opnd) (s : State) : keeps s (execKSub c d a b s) := by
  simp [execKSub]
@[simp] theorem keeps_execKAdc (c : Fin 4) (d a b : Opnd) (s : State) : keeps s (execKAdc c d a b s) := by
  simp [execKAdc]
@[simp] theorem keeps_execKSbc (c : Fin 4) (d a b : Opnd) (s : State) : keeps s (execKSbc c d a b s) := by
  simp [execKSbc]
@[simp] theorem keeps_execKAnd (c : Fin 4) (d a b : Opnd) (s : State) : keeps s (execKAnd c d a b s) := by
  simp [execKAnd]
@[simp] theorem keeps_execKOr (c : Fin 4) (d a b : Opnd) (s : State) : keeps s (execKOr c d a b s) := by
  simp [execKOr]
@[simp] theorem keeps_execKXor (c : Fin 4) (d a b : Opnd) (s : State) : keeps s (execKXor c d a b s) := by
  simp [execKXor]
@[simp] theorem keeps_execKNot (c : Fin 4) (d a : Opnd) (s : State) : keeps s (execKNot c d a s) := by
  simp [execKNot]
@[simp] theorem keeps_execKNeg (c : Fin 4) (d a : Opnd) (s : State) : keeps s (execKNeg c d a s) := by
  simp [execKNeg]
@[simp] theorem keeps_execKShl (c : Fin 4) (d a b : Opnd) (s : State) : keeps s (execKShl c d a b s) := by
  simp [execKShl]
@[simp] theorem keeps_execKShr (c : Fin 4) (d a b : Opnd) (s : State) : keeps s (execKShr c d a b s) := by
  simp [execKShr]
@[simp] theorem keeps_execKSar (c : Fin 4) (d a b : Opnd) (s : State) : keeps s (execKSar c d a b s) := by
  simp [execKSar]
@[simp] theorem keeps_execKRol (c : Fin 4) (d a b : Opnd) (s : State) : keeps s (execKRol c d a b s) := by
  simp [execKRol]
@[simp] theorem keeps_execKRor (c : Fin 4) (d a b : Opnd) (s : State) : keeps s (execKRor c d a b s) := by
  simp [execKRor]
@[simp] theorem keeps_execKCmp (c : Fin 4) (a b : Opnd) (s : State) : keeps s (execKCmp c a b s) := by
  unfold execKCmp
  rw [keeps_next]
  refine fixed_runUse fun ws u v h => ?_
  split at h
  · obtain ⟨_, _, h⟩ := ok_bind h
    obtain ⟨_, _, h⟩ := ok_bind h
    cases h; simp
  · cases h
@[simp] theorem keeps_execKMul (c : Fin 4) (d a b : Opnd) (s : State) : keeps s (execKMul c d a b s) := by
  simp [execKMul]
@[simp] theorem keeps_execKMulh (c : Fin 4) (d a b : Opnd) (s : State) : keeps s (execKMulh c d a b s) := by
  simp [execKMulh]
@[simp] theorem keeps_execKMulhu (c : Fin 4) (d a b : Opnd) (s : State) : keeps s (execKMulhu c d a b s) := by
  simp [execKMulhu]
@[simp] theorem keeps_execKDiv (c : Fin 4) (d a b : Opnd) (s : State) : keeps s (execKDiv c d a b s) := by
  simp [execKDiv]
@[simp] theorem keeps_execKDivu (c : Fin 4) (d a b : Opnd) (s : State) : keeps s (execKDivu c d a b s) := by
  simp [execKDivu]
@[simp] theorem keeps_execKRem (c : Fin 4) (d a b : Opnd) (s : State) : keeps s (execKRem c d a b s) := by
  simp [execKRem]
@[simp] theorem keeps_execKRemu (c : Fin 4) (d a b : Opnd) (s : State) : keeps s (execKRemu c d a b s) := by
  simp [execKRemu]
@[simp] theorem keeps_execKCsel (c : Fin 4) (d a b : Opnd) (cc : Fin 16) (s : State) :
    keeps s (execKCsel c d a b cc s) := by
  unfold execKCsel
  rw [keeps_next]
  refine fixed_runInstr fun _ _ _ h => fixed_opBody (fun ws u w v h => ?_) h
  split at h
  · obtain ⟨_, _, h⟩ := ok_bind h
    obtain ⟨_, _, h⟩ := ok_bind h
    dsimp only at h
    split at h
    · obtain ⟨_, _, h⟩ := ok_bind h; cases h; rfl
    · cases h; rfl
  · cases h
theorem fixed_moveOp (ws : List KWord) (u : State) (w : KWord) (v : State) (h : moveOp ws u = .ok (w, v)) :
    fixed v = fixed u := by
  unfold moveOp at h; split at h <;> simp at h; obtain ⟨_, rfl⟩ := h; rfl
@[simp] theorem fixed_move (c size : Nat) (ok : Bool) (d a : Opnd) (s : State) : fixed (move c size ok d a s) = fixed s :=
  fixed_runInstr fun _ _ _ h => fixed_opBody fixed_moveOp h
@[simp] theorem fixed_storeL (c size : Nat) (ok : Bool) (r ea : Opnd) (s : State) :
    fixed (storeL c size ok r ea s) = fixed s :=
  fixed_runInstr fun _ _ _ h => by
    obtain ⟨⟨w, t1⟩, h1, h⟩ := ok_bind h
    obtain ⟨⟨x, t2⟩, h2, h⟩ := ok_bind h
    exact (fixed_writeDest h).trans ((fixed_evalDest h2).trans (fixed_readOp h1))
@[simp] theorem keeps_execKMov (c : Fin 4) (d a : Opnd) (s : State) : keeps s (execKMov c d a s) := by
  simp [execKMov]
@[simp] theorem keeps_execKMovH (c : Fin 4) (byte : Bool) (d a : Opnd) (s : State) :
    keeps s (execKMovH c byte d a s) := by
  simp [execKMovH]
@[simp] theorem keeps_execKMovi (c : Fin 4) (d : Opnd) (v : BitVec 32) (s : State) : keeps s (execKMovi c d v s) := by
  unfold execKMovi
  rw [keeps_next]
  exact fixed_runOp fixed_moveOp
@[simp] theorem keeps_execKMoviH (c : Fin 4) (d : Opnd) (v : BitVec 16) (s : State) : keeps s (execKMoviH c d v s) := by
  unfold execKMoviH
  rw [keeps_next]
  refine fixed_runInstr fun _ _ _ h => fixed_opBody (fun ws u w v h => ?_) h
  split at h
  · obtain ⟨_, _, h⟩ := ok_bind h; cases h; rfl
  · cases h
@[simp] theorem keeps_execKLea (c : Fin 4) (d ea : Opnd) (s : State) : keeps s (execKLea c d ea s) := by
  unfold execKLea
  rw [keeps_next]
  refine fixed_runInstr fun _ _ _ h => ?_
  obtain ⟨⟨x, t1⟩, h1, h⟩ := ok_bind h
  obtain ⟨⟨e, t2⟩, h2, h⟩ := ok_bind h
  exact (fixed_writeDest h).trans ((fixed_formEa h2).trans (fixed_evalDest h1))
@[simp] theorem keeps_execKLeapc (c : Fin 4) (d : Opnd) (off : BitVec 32) (data : Bool) (s : State) :
    keeps s (execKLeapc c d off data s) := by
  unfold execKLeapc
  rw [keeps_next]
  refine fixed_runInstr fun _ _ _ h => ?_
  obtain ⟨⟨x, t1⟩, h1, h⟩ := ok_bind h
  exact (fixed_writeDest h).trans (fixed_evalDest h1)
@[simp] theorem keeps_execKLd (c : Fin 4) (r ea : Opnd) (s : State) : keeps s (execKLd c r ea s) := by
  simp [execKLd]
@[simp] theorem keeps_execKSt (c : Fin 4) (r ea : Opnd) (s : State) : keeps s (execKSt c r ea s) := by
  simp [execKSt]
theorem fixed_atomicEa {c a : Nat} {pc : BitVec 32} {ea : Opnd} {s t : State} (h : atomicEa c pc ea s = .ok (a, t)) :
    fixed t = fixed s := by
  unfold atomicEa at h
  obtain ⟨⟨e, t1⟩, h1, h⟩ := ok_bind h
  obtain ⟨_, _, h⟩ := ok_bind h
  cases h; exact fixed_formEa h1
@[simp] theorem keeps_execKLdx (c : Fin 4) (r ea : Opnd) (s : State) : keeps s (execKLdx c r ea s) := by
  unfold execKLdx
  rw [keeps_next]
  refine fixed_runInstr fun _ _ _ h => ?_
  obtain ⟨⟨e, t1⟩, h1, h⟩ := ok_bind h
  obtain ⟨⟨w, t2⟩, h2, h⟩ := ok_bind h
  have h := fixed_writeDest h
  rw [h, fixed_modCore]
  exact (fixed_kLoad h2).trans (fixed_atomicEa h1)
@[simp] theorem keeps_execKStx (c : Fin 4) (r ea : Opnd) (s : State) : keeps s (execKStx c r ea s) := by
  unfold execKStx
  rw [keeps_next]
  refine fixed_runInstr fun _ _ _ h => ?_
  obtain ⟨⟨w, t1⟩, h1, h⟩ := ok_bind h
  obtain ⟨⟨e, t2⟩, h2, h⟩ := ok_bind h
  obtain ⟨_, _, h⟩ := ok_bind h
  obtain ⟨_, _, h⟩ := ok_bind h
  rw [← Except.ok.inj h]
  split <;> simp [(fixed_atomicEa h2).trans (fixed_readOp h1)]
@[simp] theorem keeps_execKTas (c : Fin 4) (r ea : Opnd) (s : State) : keeps s (execKTas c r ea s) := by
  unfold execKTas
  rw [keeps_next]
  refine fixed_runInstr fun _ _ _ h => ?_
  obtain ⟨⟨e, t1⟩, h1, h⟩ := ok_bind h
  obtain ⟨⟨w, t2⟩, h2, h⟩ := ok_bind h
  obtain ⟨_, _, h⟩ := ok_bind h
  obtain ⟨_, _, h⟩ := ok_bind h
  obtain ⟨t3, h3, h⟩ := ok_bind h
  rw [← Except.ok.inj h]
  have h3 := fixed_writeDest h3
  simp at h3
  simp [h3, (fixed_kLoad h2).trans (fixed_atomicEa h1)]
@[simp] theorem fixed_setAcc (c i : Nat) (a : Acc) (s : State) : fixed (setAcc c i a s) = fixed s := by
  simp [setAcc]
@[simp] theorem fixed_accRun (c : Nat) (q : Opnd) (srcs : List Opnd) (op : Acc → List KWord → Except Stop Acc) (s : State) :
    fixed (accRun c q srcs op s) = fixed s := by
  unfold accRun
  split
  · refine fixed_runInstr fun _ _ _ h => ?_
    obtain ⟨⟨ws, t1⟩, h1, h⟩ := ok_bind h
    obtain ⟨_, _, h⟩ := ok_bind h
    cases h; simpa using fixed_readAll h1
  · exact fixed_runInstr fun _ _ _ h => by cases h; rfl
@[simp] theorem keeps_execKMacq (c : Fin 4) (q a b : Opnd) (s : State) : keeps s (execKMacq c q a b s) := by
  simp [execKMacq]
@[simp] theorem keeps_execKMacqs (c : Fin 4) (q a b : Opnd) (s : State) : keeps s (execKMacqs c q a b s) := by
  simp [execKMacqs]
@[simp] theorem keeps_execKAddq (c : Fin 4) (q a : Opnd) (s : State) : keeps s (execKAddq c q a s) := by
  simp [execKAddq]
@[simp] theorem keeps_execKAddqs (c : Fin 4) (q a : Opnd) (s : State) : keeps s (execKAddqs c q a s) := by
  simp [execKAddqs]
@[simp] theorem keeps_execKShql (c : Fin 4) (q b : Opnd) (s : State) : keeps s (execKShql c q b s) := by
  simp [execKShql]
@[simp] theorem keeps_execKShqr (c : Fin 4) (q b : Opnd) (s : State) : keeps s (execKShqr c q b s) := by
  simp [execKShqr]
@[simp] theorem keeps_execKShqa (c : Fin 4) (q b : Opnd) (s : State) : keeps s (execKShqa c q b s) := by
  simp [execKShqa]
@[simp] theorem fixed_accPart (c : Nat) (d q : Opnd) (f : BitVec 68 → BitVec 32) (s : State) :
    fixed (accPart c d q f s) = fixed s := by
  unfold accPart
  split
  · refine fixed_runInstr fun _ _ _ h => fixed_opBody (fun ws u w v h => ?_) h
    obtain ⟨_, _, h⟩ := ok_bind h
    cases h; rfl
  · exact fixed_runInstr fun _ _ _ h => by cases h; rfl
@[simp] theorem keeps_execKMovqL (c : Fin 4) (d q : Opnd) (s : State) : keeps s (execKMovqL c d q s) := by
  simp [execKMovqL]
@[simp] theorem keeps_execKMovqH (c : Fin 4) (d q : Opnd) (s : State) : keeps s (execKMovqH c d q s) := by
  simp [execKMovqH]
@[simp] theorem keeps_execKMovqG (c : Fin 4) (d q : Opnd) (s : State) : keeps s (execKMovqG c d q s) := by
  simp [execKMovqG]
@[simp] theorem keeps_execKMovqTl (c : Fin 4) (q a : Opnd) (s : State) : keeps s (execKMovqTl c q a s) := by
  simp [execKMovqTl]
@[simp] theorem keeps_execKMovqTh (c : Fin 4) (q a : Opnd) (s : State) : keeps s (execKMovqTh c q a s) := by
  simp [execKMovqTh]
@[simp] theorem keeps_execKClrq (c : Fin 4) (q : Opnd) (s : State) : keeps s (execKClrq c q s) := by
  simp [execKClrq]
@[simp] theorem keeps_execKTagr (c : Fin 4) (d a : Opnd) (s : State) : keeps s (execKTagr c d a s) := by
  unfold execKTagr
  rw [keeps_next]
  refine fixed_runOp fun ws u w v h => ?_
  split at h <;> cases h; rfl
@[simp] theorem keeps_execKTagw (c : Fin 4) (d a : Opnd) (tag : Fin 16) (s : State) :
    keeps s (execKTagw c d a tag s) := by
  unfold execKTagw
  rw [keeps_next]
  refine fixed_runOp fun ws u w v h => ?_
  split at h
  · obtain ⟨_, _, h⟩ := ok_bind h
    obtain ⟨_, _, h⟩ := ok_bind h
    split at h <;> cases h; rfl
  · cases h
@[simp] theorem keeps_execKTchk (c : Fin 4) (a : Opnd) (tag : Fin 16) (s : State) : keeps s (execKTchk c a tag s) := by
  unfold execKTchk
  rw [keeps_next]
  refine fixed_runUse fun ws u v h => ?_
  split at h
  · split at h <;> cases h; rfl
  · cases h
@[simp] theorem keeps_execKDeclass (c : Fin 4) (d a : Opnd) (s : State) : keeps s (execKDeclass c d a s) := by
  unfold execKDeclass
  rw [keeps_next]
  refine fixed_runOp fun ws u w v h => ?_
  split at h
  · obtain ⟨_, _, h⟩ := ok_bind h
    obtain ⟨_, _, h⟩ := ok_bind h
    cases h; rfl
  · cases h
@[simp] theorem fixed_jump (c : Nat) (a : BitVec 32) (s : State) : fixed (jump c a s) = fixed s := by
  simp [jump]
@[simp] theorem fixed_branch (c cc : Nat) (ok : Bool) (tgt : Opnd) (s : State) : fixed (branch c cc ok tgt s) = fixed s :=
  fixed_runInstr fun _ _ _ h => by
    obtain ⟨_, _, h⟩ := ok_bind h
    obtain ⟨_, _, h⟩ := ok_bind h
    cases h; split <;> simp
@[simp] theorem keeps_execKBcc (c : Fin 4) (cc : Fin 16) (tgt : Opnd) (s : State) : keeps s (execKBcc c cc tgt s) := by
  simp [execKBcc]
@[simp] theorem keeps_execKBr (c : Fin 4) (tgt : Opnd) (s : State) : keeps s (execKBr c tgt s) := by
  simp [execKBr]
theorem fixed_callTo {c : Nat} {a : BitVec 32} {s t : State} (h : callTo c a s = .ok t) : fixed t = fixed s := by
  unfold callTo at h; obtain ⟨_, _, h⟩ := ok_bind h; cases h; simp
@[simp] theorem keeps_execKCall (c : Fin 4) (tgt : Opnd) (s : State) : keeps s (execKCall c tgt s) := by
  unfold execKCall
  rw [keeps_next]
  refine fixed_runInstr fun _ _ _ h => ?_
  obtain ⟨_, _, h⟩ := ok_bind h
  exact fixed_callTo h
@[simp] theorem keeps_execKRet (c : Fin 4) (s : State) : keeps s (execKRet c s) := by
  unfold execKRet
  rw [keeps_next]
  refine fixed_runInstr fun _ _ _ h => ?_
  obtain ⟨_, _, h⟩ := ok_bind h
  obtain ⟨_, _, h⟩ := ok_bind h
  obtain ⟨_, _, h⟩ := ok_bind h
  cases h; simp
theorem fixed_callGate {c g : Nat} {s t : State} (h : callGate c g s = .ok t) : fixed t = fixed s := by
  unfold callGate at h
  iterate 4 obtain ⟨_, _, h⟩ := ok_bind h
  cases h; simp
@[simp] theorem keeps_execKCallg (c : Fin 4) (g : Opnd) (s : State) : keeps s (execKCallg c g s) := by
  unfold execKCallg
  rw [keeps_next]
  refine fixed_runInstr fun _ _ _ h => ?_
  split at h
  · exact fixed_callGate h
  · obtain ⟨⟨w, t1⟩, h1, h⟩ := ok_bind h
    obtain ⟨_, _, h⟩ := ok_bind h
    exact (fixed_callGate h).trans (fixed_readOp h1)
theorem fixed_gateReturn {c : Nat} {s t : State} (h : gateReturn c s = .ok t) : fixed t = fixed s := by
  unfold gateReturn at h
  iterate 3 obtain ⟨_, _, h⟩ := ok_bind h
  cases h; simp
@[simp] theorem keeps_execKTrap (c : Fin 4) (n : Fin 256) (s : State) : keeps s (execKTrap c n s) := by
  unfold execKTrap
  rw [keeps_next]
  exact fixed_runInstr fun _ _ _ h => by cases h; simp
theorem fixed_excReturn {c : Nat} {pc : BitVec 32} {s t : State} (h : excReturn c pc s = .ok t) : fixed t = fixed s := by
  unfold excReturn at h
  obtain ⟨_, _, h⟩ := ok_bind h
  split at h <;> cases h <;> simp
@[simp] theorem keeps_execKRetx (c : Fin 4) (s : State) : keeps s (execKRetx c s) := by
  unfold execKRetx
  rw [keeps_next]
  refine fixed_runInstr fun _ _ _ h => ?_
  split at h
  · exact fixed_excReturn h
  · exact fixed_gateReturn h
@[simp] theorem keeps_execKWait (c : Fin 4) (s : State) : keeps s (execKWait c s) := by
  unfold execKWait
  rw [keeps_next]
  refine fixed_runInstr fun _ _ _ h => ?_
  obtain ⟨_, _, h⟩ := ok_bind h
  cases h; simp
@[simp] theorem keeps_execKFence (c : Fin 4) (s : State) : keeps s (execKFence c s) := by
  unfold execKFence
  rw [keeps_next]
  exact fixed_runInstr fun _ _ _ h => by cases h; simp
@[simp] theorem keeps_execKFenceI (c : Fin 4) (s : State) : keeps s (execKFenceI c s) := by
  unfold execKFenceI
  rw [keeps_next]
  refine fixed_runInstr fun _ _ _ h => ?_
  obtain ⟨_, _, h⟩ := ok_bind h
  cases h; simp
@[simp] theorem fixed_sysRead (s : State) (c : Nat) (pc : BitVec 32) (n : Nat) :
    fixed (sysRead s c pc n).2 = fixed s := by
  unfold sysRead; dsimp only; split <;> simp
@[simp] theorem keeps_execKMfs (c : Fin 4) (d : Opnd) (n : Fin 256) (s : State) : keeps s (execKMfs c d n s) := by
  unfold execKMfs
  rw [keeps_next]
  refine fixed_runInstr fun _ _ _ h => fixed_opBody (fun ws u w v h => ?_) h
  obtain ⟨_, _, h⟩ := ok_bind h
  simpa using congrArg (fun p => fixed p.2) (Except.ok.inj h).symm
@[simp] theorem keeps_execKMts (c : Fin 4) (n : Fin 256) (a : Opnd) (s : State) : keeps s (execKMts c n a s) := by
  unfold execKMts
  rw [keeps_next]
  refine fixed_runInstr fun _ _ _ h => ?_
  obtain ⟨_, _, h⟩ := ok_bind h
  obtain ⟨⟨w, t1⟩, h1, h⟩ := ok_bind h
  obtain ⟨_, _, h⟩ := ok_bind h
  obtain ⟨_, _, h⟩ := ok_bind h
  rw [← Except.ok.inj h, fixed_setCore, fixed_readOp h1]
@[simp] theorem keeps_execKXb (c : Fin 4) (d a : Opnd) (s : State) : keeps s (execKXb c d a s) := by
  unfold execKXb
  rw [keeps_next]
  refine fixed_runInstr fun _ _ _ h => fixed_opBody (fun ws u w v h => ?_) h
  obtain ⟨_, _, h⟩ := ok_bind h
  cases h; rfl
theorem fixed_longLoop {word : Nat → State → Except Stop State} (hw : ∀ i t u, word i t = .ok u → fixed u = fixed t)
    (n i : Nat) (s : State) : fixed (longLoop word n i s).st = fixed s := by
  induction n generalizing i s with
  | zero => rfl
  | succ n ih =>
    unfold longLoop
    split
    · rename_i h; exact (ih _ _).trans (hw _ _ _ h)
    · rfl
@[simp] theorem fixed_setProg (c v : Nat) (s : State) : fixed (setProg c v s) = fixed s := by
  simp [setProg]
theorem fixed_longBody {c opc : Nat} {first : BitVec 32} {stop : Option Nat} {word : Nat → State → Except Stop State}
    {pc : BitVec 32} {s t : State} (hw : ∀ i t u, word i t = .ok u → fixed u = fixed t)
    (h : longBody c opc first stop word pc s = .ok t) : fixed t = fixed s := by
  unfold longBody at h
  obtain ⟨_, _, h⟩ := ok_bind h
  obtain ⟨_, _, h⟩ := ok_bind h
  dsimp only at h
  (repeat' split at h) <;> cases h <;> simp [fixed_longLoop hw]
theorem fixed_runLong {c opc : Nat} {ok : Bool} {first : BitVec 32} {stop : Option Nat}
    {word : Nat → State → Except Stop State} {s : State} (hw : ∀ i t u, word i t = .ok u → fixed u = fixed t) :
    fixed (runLong c opc ok first stop word s) = fixed s := fixed_runInstr fun _ _ _ h => fixed_longBody hw h
@[simp] theorem keeps_execKBmov (c : Fin 4) (dst src : Fin 8) (stop : Option (BitVec 24)) (s : State) :
    keeps s (execKBmov c dst src stop s) := by
  unfold execKBmov
  rw [keeps_next]
  refine fixed_runLong fun _ _ _ h => ?_
  obtain ⟨_, _, h⟩ := ok_bind h
  obtain ⟨_, _, h⟩ := ok_bind h
  obtain ⟨⟨w, t1⟩, h1, h⟩ := ok_bind h
  exact (fixed_kStore h).trans (fixed_kLoad h1)
@[simp] theorem keeps_execKBzero (c : Fin 4) (dst : Fin 8) (stop : Option (BitVec 24)) (s : State) :
    keeps s (execKBzero c dst stop s) := by
  unfold execKBzero
  rw [keeps_next]
  refine fixed_runLong fun _ _ _ h => ?_
  obtain ⟨_, _, h⟩ := ok_bind h
  exact fixed_kStore h
@[simp] theorem fixed_crcRun (c poly : Nat) (acc : Fin 16) (src : Fin 8) (stop : Option (BitVec 24)) (s : State) :
    fixed (crcRun c poly acc src stop s) = fixed s :=
  fixed_runLong fun _ _ _ h => by
    obtain ⟨_, _, h⟩ := ok_bind h
    obtain ⟨⟨w, t1⟩, h1, h⟩ := ok_bind h
    obtain ⟨_, _, h⟩ := ok_bind h
    cases h; simpa using fixed_kLoad h1
@[simp] theorem keeps_execKBcrc (c : Fin 4) (acc : Fin 16) (src : Fin 8) (stop : Option (BitVec 24)) (s : State) :
    keeps s (execKBcrc c acc src stop s) := by
  simp [execKBcrc]
@[simp] theorem keeps_execKBcrcc (c : Fin 4) (acc : Fin 16) (src : Fin 8) (stop : Option (BitVec 24)) (s : State) :
    keeps s (execKBcrcc c acc src stop s) := by
  simp [execKBcrcc]
@[simp] theorem fixed_macRun (c : Nat) (f : BitVec 32 → BitVec 32 → Int) (q : Fin 4) (a b : Fin 8)
    (stop : Option (BitVec 24)) (s : State) : fixed (macRun c f q a b stop s) = fixed s :=
  fixed_runLong fun _ _ _ h => by
    obtain ⟨_, _, h⟩ := ok_bind h
    obtain ⟨_, _, h⟩ := ok_bind h
    obtain ⟨⟨u, t1⟩, h1, h⟩ := ok_bind h
    obtain ⟨⟨v, t2⟩, h2, h⟩ := ok_bind h
    obtain ⟨_, _, h⟩ := ok_bind h
    cases h; simpa using (fixed_kLoad h2).trans (fixed_kLoad h1)
@[simp] theorem keeps_execKBmac (c : Fin 4) (q : Fin 4) (a b : Fin 8) (stop : Option (BitVec 24)) (s : State) :
    keeps s (execKBmac c q a b stop s) := by
  simp [execKBmac]
@[simp] theorem keeps_execKBmacs (c : Fin 4) (q : Fin 4) (a b : Fin 8) (stop : Option (BitVec 24)) (s : State) :
    keeps s (execKBmacs c q a b stop s) := by
  simp [execKBmacs]
@[simp] theorem fixed_modDebug (f : Debug → Debug) (s : State) : fixed (modDebug f s) = fixed s := by
  simp [modDebug]
@[simp] theorem fixed_countDrop (s : State) : fixed (countDrop s) = fixed s := by
  simp [countDrop]
@[simp] theorem fixed_endExtest (s : State) : fixed (endExtest s) = fixed s := by
  simp [endExtest]
@[simp] theorem fixed_actBypass (s : State) : fixed (actBypass s) = fixed s := by
  simp [actBypass]
@[simp] theorem fixed_attach (s : State) : fixed (attach s) = fixed s := by
  simp [attach]
@[simp] theorem fixed_detach (s : State) : fixed (detach s) = fixed s := by
  simp [detach]
@[simp] theorem fixed_attached (bit : Nat) (f : State → State) (s : State) (h : ∀ t, fixed (f t) = fixed t) :
    fixed (attached bit f s) = fixed s := by
  unfold attached; (repeat' split) <;> simp [h]
@[simp] theorem fixed_debugReset (s : State) : fixed (debugReset s) = fixed s := by
  simp [debugReset]
@[simp] theorem keeps_execDebugReset (s : State) : keeps s (execDebugReset s) := by
  simp [execDebugReset]
@[simp] theorem keeps_execTapReset (s : State) : keeps s (execTapReset s) := by
  simp [execTapReset]
@[simp] theorem keeps_execBypass (tdi : List Bool) (s : State) : keeps s (execBypass tdi s) := by
  simp [execBypass]
@[simp] theorem keeps_execIdcode (s : State) : keeps s (execIdcode s) := by
  simp [execIdcode]
@[simp] theorem keeps_execSamplePreload (pre : Nat) (s : State) : keeps s (execSamplePreload pre s) := by
  simp [execSamplePreload]
@[simp] theorem keeps_execExtest (drive : Nat) (s : State) : keeps s (execExtest drive s) := by
  simp [execExtest]
@[simp] theorem keeps_execCertLoad (cert : Bytes) (s : State) : keeps s (execCertLoad cert s) := by
  simp [execCertLoad]
@[simp] theorem fixed_dbgRegRead (off : Nat) (s : State) : fixed (dbgRegRead off s).2 = fixed s := by
  unfold dbgRegRead
  split
  · rename_i h; simpa using fixed_regLoad h
  · rfl
@[simp] theorem fixed_dbgLoad (a : Nat) (s : State) : fixed (dbgLoad a s).2 = fixed s := by
  unfold dbgLoad; (try dsimp only); (repeat' split) <;> simp
@[simp] theorem fixed_dbgLoads (n a : Nat) (s : State) : fixed (dbgLoads n a s) = fixed s := by
  induction n generalizing a s with
  | zero => rfl
  | succ n ih => simp [dbgLoads, ih]
@[simp] theorem fixed_haltStore (v : Nat) (s : State) : fixed (haltStore v s) = fixed s := by
  simp [haltStore]
@[simp] theorem fixed_dbgStore (a : Nat) (v : BitVec 32) (s : State) : fixed (dbgStore a v s) = fixed s := by
  unfold dbgStore
  split <;> simp
@[simp] theorem fixed_dbgStores (l : List (BitVec 32)) (a : Nat) (s : State) : fixed (dbgStores l a s) = fixed s := by
  induction l generalizing a s with
  | nil => rfl
  | cons v r ih => simp [dbgStores, ih]
@[simp] theorem fixed_dbgMem (a : Nat) (x : DbgXfer) (s : State) : fixed (dbgMem a x s) = fixed s := by
  unfold dbgMem
  split <;> simp
@[simp] theorem fixed_coreRegRead (c : Nat) (r : CoreReg) (s : State) : fixed (coreRegRead c r s).2 = fixed s := by
  cases r <;> simp [coreRegRead]
@[simp] theorem fixed_coreRegPut (c : Nat) (r : CoreReg) (v : BitVec 32) (s : State) :
    fixed (coreRegPut c r v s) = fixed s := by
  unfold coreRegPut
  dsimp only
  (repeat' split) <;> simp
@[simp] theorem fixed_dbgCore (c : Nat) (r : CoreReg) (x : DbgXfer) (s : State) : fixed (dbgCore c r x s) = fixed s := by
  unfold dbgCore
  (repeat' split) <;> simp
@[simp] theorem fixed_dbgTransfer (t : DbgTarget) (x : DbgXfer) (s : State) : fixed (dbgTransfer t x s) = fixed s := by
  unfold dbgTransfer
  split <;> simp
@[simp] theorem keeps_execDbgAccess (t : DbgTarget) (x : DbgXfer) (s : State) : keeps s (execDbgAccess t x s) := by
  simp [execDbgAccess]
@[simp] theorem fixed_dbgHaltWrite (v : Nat) (s : State) : fixed (dbgHaltWrite v s) = fixed s := by
  simp [dbgHaltWrite]
@[simp] theorem keeps_execDebugHalt (halt : Fin 16) (s : State) : keeps s (execDebugHalt halt s) := by
  simp [execDebugHalt]
@[simp] theorem keeps_execDebugStep (cores : Fin 16) (s : State) : keeps s (execDebugStep cores s) := by
  simp [execDebugStep]

end Sys2Proof.Machine
end

