-- ==== Sys2Proof/Laws/Lifecycle.lean ====
section
/-! SUPPORT. The commands that move the lifecycle, the rollback floor or the fused roots, and that no other does. -/

namespace Sys2Proof.Machine

/-- `fixed` with another lifecycle and prior state. -/
def fixedAs (s : State) (l p : Lifecycle) : List Instr × Part × Lifecycle × Lifecycle × Nat × Bytes :=
  (s.pending, s.part, l, p, s.boot.svnFloor, s.owner.rootFuse)

theorem fixed_eq {s t : State} (h : fixed t = fixed s) : t.pending = s.pending ∧ t.part = s.part ∧
    t.lifecycle = s.lifecycle ∧ t.priorLifecycle = s.priorLifecycle ∧ t.boot.svnFloor = s.boot.svnFloor ∧
    t.owner.rootFuse = s.owner.rootFuse := by
  simp only [fixed, Prod.mk.injEq] at h; exact h

theorem fixedAs_congr {s t : State} (h : fixed t = fixed s) (l p : Lifecycle) : fixedAs t l p = fixedAs s l p := by
  simp [fixedAs, fixed_eq h]

theorem fixed_changeAs (new : Lifecycle) (e : State → LogEntry) (s : State) :
    fixed (changeLifecycle new e s) = fixedAs s new s.priorLifecycle := fixed_changeLifecycle new e s

theorem fixed_applyLock (new : Lifecycle) (s : State) : fixed (applyLock new s) = fixedAs s new
    (if s.lifecycle = .commissioned || s.lifecycle = .operational then s.lifecycle else s.priorLifecycle) := by
  unfold applyLock
  simp only [fixed_closeAll, fixed_scrubEngines, fixed_lockDomains, fixed_scrubImage, fixed_noteReset, fixed_changeAs]
  generalize (if s.lifecycle = .commissioned || s.lifecycle = .operational then s.lifecycle else s.priorLifecycle) = p
  have h := fixed_eq (fixed_applyRestrict { s with
    priorLifecycle := p, watch := { s.watch with lock := true }, tap := { s.tap with cert := none }
    keys := { s.keys with approval := none } })
  simp only [fixedAs, h]

/-- The state that a lock remembers (R7). -/
def remembered (s : State) : Lifecycle :=
  if s.lifecycle = .commissioned || s.lifecycle = .operational then s.lifecycle else s.priorLifecycle

theorem respond_moves (r : Nat) (s : State) (hr : r = 0 ∨ s.lifecycle ≠ .factory) : fixed (respond r s) = fixed s ∨ s.lifecycle ≠ .factory ∧
    (fixed (respond r s) = fixedAs s .locked (remembered s) ∧ s.lifecycle ≠ .zeroised ∨
      fixed (respond r s) = fixedAs s .zeroised (remembered s)) := by
  unfold respond
  by_cases h0 : r ≤ inForce s
  · simp [h0]
  · have hf : s.lifecycle ≠ .factory := hr.resolve_left (by omega)
    simp only [h0, if_false]
    split
    · simp
    · split
      · rename_i h2
        refine .inr ⟨hf, .inl ⟨fixed_applyLock _ _, fun hz => ?_⟩⟩
        simp [inForce, hz, h2] at h0
      · exact .inr ⟨hf, .inr (by rw [fixed_destroyKeys, fixed_applyLock]; rfl)⟩

theorem applyAlarms_moves (l : List (Option Nat × Nat)) (s : State) : fixed (applyAlarms l s) = fixed s ∨
    s.lifecycle ≠ .factory ∧ (fixed (applyAlarms l s) = fixedAs s .locked (remembered s) ∧ s.lifecycle ≠ .zeroised ∨
      fixed (applyAlarms l s) = fixedAs s .zeroised (remembered s)) := by
  unfold applyAlarms
  dsimp only
  generalize (List.range 19).filter (fun i => l.any fun x => x.1 == some i) = ids
  have h1 := fixed_foldl noteAlarm (fun t i => by simp) ids s
  generalize List.foldl noteAlarm s ids = s1 at *
  generalize hr : cappedResp s ((l.map Prod.snd).foldl max 0) = r
  split
  · split <;> simp [h1]
  · have h2 : fixed (if r = 3 then endCeremony s1 else s1) = fixed s := by split <;> simp [h1]
    generalize (if r = 3 then endCeremony s1 else s1) = s2 at *
    split
    · simp [h2]
    · have e := fixed_eq h2
      have hr : r = 0 ∨ s2.lifecycle ≠ .factory := by
        rw [e.2.2.1, ← hr]; by_cases h : s.lifecycle = .factory <;> simp [cappedResp, h]
      have h := respond_moves r s2 hr
      rwa [h2, e.2.2.1, fixedAs_congr h2, fixedAs_congr h2, show remembered s2 = remembered s by simp [remembered, e]] at h

theorem watchSecondDecision_moves (a b : BitVec 19) (s : State) : ∃ t, execWatchSecondDecision a b s = .next t ∧
    (fixed t = fixed s ∨ s.lifecycle ≠ .factory ∧
      (fixed t = fixedAs s .locked (remembered s) ∧ s.lifecycle ≠ .zeroised ∨
        fixed t = fixedAs s .zeroised (remembered s))) := by
  exact ⟨_, rfl, applyAlarms_moves _ _⟩

theorem dataPlaneEnable_moves (c : AdminCmd) (s : State) : fixed (dataPlaneEnable c s) = fixed s ∨
    s.lifecycle = .commissioned ∧ fixed (dataPlaneEnable c s) = fixedAs s .operational s.priorLifecycle := by
  unfold dataPlaneEnable checked
  split
  · simp
  · dsimp only
    split
    · simp
    · split
      · simp
      · rename_i h
        unfold ifLogged
        split
        · simp
        · exact .inr ⟨by simpa using h, by simp [fixed_changeAs]⟩

theorem onCmd_cases (d op sub : Nat) (f : AdminCmd → State → State) (s : State) :
    onCmd d op sub f s = s ∨ ∃ c, onCmd d op sub f s = f c s := by
  unfold onCmd
  split
  · exact .inl rfl
  · split
    · exact .inr ⟨_, rfl⟩
    · exact .inl rfl

theorem fixed_recommission (s : State) : fixed (recommission s) = fixedAs s .commissioned s.priorLifecycle := by
  unfold recommission
  dsimp only
  have h : fixed (newKek (dropKeyRecords s)) = fixed s := by simp
  generalize newKek _ = t at *
  simp [fixed_changeAs, fixedAs, fixed_eq h]

theorem fixed_finishCeremony (s : State) : fixed (finishCeremony s) =
    fixedAs s (if s.lifecycle = .zeroised then .commissioned else s.priorLifecycle) s.priorLifecycle := by
  unfold finishCeremony
  simp only [fixed_startImage, fixed_logFw]
  split
  · exact fixed_recommission _
  · simp [fixed_changeAs, fixedAs]

theorem openCeremony_locked {s : State} {x : Ceremony} (h : openCeremony s = some x) :
    s.lifecycle = .locked ∨ s.lifecycle = .zeroised := by
  unfold openCeremony at h
  split at h
  · rename_i hl; simpa [devLocked] using hl
  · cases h

/-- A completed ceremony moves the lifecycle (R526, R532). -/
def unlocks (s t : State) : Prop := fixed t = fixed s ∨ (s.lifecycle = .locked ∨ s.lifecycle = .zeroised) ∧ fixed t =
    fixedAs s (if s.lifecycle = .zeroised then .commissioned else s.priorLifecycle) s.priorLifecycle

theorem takePresent_moves (c : AdminCmd) (who : List Nat) (s : State) : unlocks s (takePresent c who s) := by
  unfold takePresent
  dsimp only
  have h1 : fixed (if who.contains (byteAt c.pb 1) then s else countIn (aSubop c.desc) (byteAt c.pb 1) s) = fixed s := by
    split <;> simp
  generalize (if who.contains (byteAt c.pb 1) then s else countIn (aSubop c.desc) (byteAt c.pb 1) s) = s1 at *
  have e := fixed_eq h1
  split
  · simp [unlocks, h1]
  · rename_i h
    split at h
    · have hl := openCeremony_locked h
      split
      · simp [unlocks, h1]
      · split
        · simp [unlocks, h1]
        · refine .inr ⟨by rwa [e.2.2.1] at hl, ?_⟩
          rw [fixed_finishCmd, fixed_finishCeremony]
          have h2 : fixed (logPresent c stOK s1) = fixed s := by simp [h1]
          simp [fixedAs, fixed_eq h2]
    · cases h

theorem unlocks_congr {s t u : State} (h : fixed u = fixed s) (h1 : unlocks u t) : unlocks s t := by
  have e := fixed_eq h
  unfold unlocks at *
  rwa [h, e.2.2.1, e.2.2.2.1, fixedAs_congr h] at h1

theorem present_moves (sig : Option Bytes) (c : AdminCmd) (s : State) : unlocks s (present sig c s) := by
  unfold present
  split
  · refine .inl ?_; rw [fixed_finishCmd]; split <;> simp
  · split
    · simp [unlocks]
    · split
      · simp [unlocks]
      · split
        · simp [unlocks]
        · split
          · simp [unlocks]
          · dsimp only
            split
            · exact unlocks_congr (by simp) (takePresent_moves _ _ _)
            · simp [unlocks]

theorem present_none (c : AdminCmd) (s : State) : fixed (present none c s) = fixed s := by
  unfold present
  split
  · rw [fixed_finishCmd]; split <;> simp
  · split
    · simp
    · split <;> simp

theorem credentialWaitTimeout_keeps (d : Fin 256) (s : State) : keeps s (execCredentialWaitTimeout d s) := by
  unfold execCredentialWaitTimeout
  rw [keeps_next, fixed_onCmd _ _ _ _ _ present_none, fixed_onCmd _ _ _ _ _ present_none]

theorem rootDigest_length (r : Bytes) : (rootDigest r).length = 48 := by
  simp [rootDigest, primBytes]

theorem fixed_commissionRest (c : AdminCmd) (s : State) :
    fixed (commissionRest c s) = fixedAs s .commissioned s.priorLifecycle := by
  unfold commissionRest
  have h : fixed (newKek { s with health := { s.health with age := 0, storedAge := 0 } }) = fixed s := fixed_newKek _
  generalize newKek _ = t at *
  simp [fixed_changeAs, fixedAs, fixed_eq h]

/-- COMPLETE blows the fuses, or moves the lifecycle with them blown, or neither. -/
def commissions (s t : State) : Prop := fixed t = fixed s ∨ s.lifecycle = .factory ∧
  (fixed t = (s.pending, s.part, s.lifecycle, s.priorLifecycle, s.boot.svnFloor, rootDigest s.owner.roots) ∨
    s.owner.rootFuse = rootDigest s.owner.roots ∧ fixed t = fixedAs s .commissioned s.priorLifecycle)

theorem complete_moves (c : AdminCmd) (s : State) : commissions s (complete c s) := by
  unfold complete
  split
  · unfold completeStaged
    split
    · exact .inl (by simp)
    · rename_i hf
      have hf : s.lifecycle = .factory := by simpa using hf
      split
      · exact .inl rfl
      · split
        · exact .inr ⟨hf, .inl rfl⟩
        · rename_i hr
          split
          · exact .inl rfl
          · exact .inr ⟨hf, .inr ⟨by simpa using hr, by rw [fixed_finishCmd, fixed_commissionRest]⟩⟩
  · refine .inl (fixed_checked _ _ _ _ ?_)
    split
    · exact fixed_ifLogged _ _ _ fun t => by simp
    · simp

theorem judgeBackup_moves (s : State) : fixed (judgeBackup s) = fixed s ∨ s.lifecycle ≠ .factory ∧
    (fixed (judgeBackup s) = fixedAs s .zeroised s.priorLifecycle ∧ s.lifecycle ≠ .zeroised ∨
     fixed (judgeBackup s) = fixedAs s .locked s.lifecycle ∧ (s.lifecycle = .commissioned ∨ s.lifecycle = .operational)) := by
  unfold judgeBackup
  dsimp only
  split
  · exact .inl rfl
  · rename_i hf
    split
    · split
      · simp
      · rename_i hz
        exact .inr ⟨hf, .inl ⟨by simp [fixed_changeAs, fixedAs, fixed_eq (fixed_logFw _ _)], hz⟩⟩
    · split
      · rename_i h
        exact .inr ⟨hf, .inr ⟨by simp [fixed_changeAs, fixedAs], by simpa using (Bool.and_eq_true_iff.1 h).2⟩⟩
      · exact .inl rfl

theorem firmwareStart_moves (bad : List (Fin 64)) (s : State) : ∃ t, execFirmwareStart bad s = .next t ∧
  (fixed t = fixed s ∨ s.lifecycle ≠ .factory ∧
    (fixed t = fixedAs s .zeroised s.priorLifecycle ∧ s.lifecycle ≠ .zeroised ∨
     fixed t = fixedAs s .locked s.lifecycle ∧ (s.lifecycle = .commissioned ∨ s.lifecycle = .operational))) := by
  refine ⟨_, rfl, ?_⟩
  unfold whenRuns
  split
  · dsimp only
    split
    · exact .inl rfl
    · have h0 : fixed (logStart s) = fixed s := fixed_logStart s
      have e := fixed_eq h0
      have h := judgeBackup_moves (logStart s)
      rw [h0, e.2.2.1, e.2.2.2.1, fixedAs_congr h0, fixedAs_congr h0] at h
      generalize judgeBackup (logStart s) = s0 at *
      have h1 : ∀ x : State, fixed (if devLocked x then x else startImage x) = fixed x := fun x => by split <;> simp
      have h2 := fixed_foldl (restoreCurve bad) (fun t a => by simp)
      simp only [fixed_modPower, fixed_modClocks, h1, h2, fixed_restoreShares, fixed_moveUnit, fixed_makeIdentity,
        fixed_drawBlobKeys, fixed_startMemory]
      exact h
  · exact .inl rfl

theorem readyReport_moves (cap vhu : BitVec 16) (s : State) : ∃ t, execReadyReport cap vhu s = .next t ∧
    (fixed t = fixed s ∨ s.boot.svnFloor < s.boot.svn ∧
      fixed t = (s.pending, s.part, s.lifecycle, s.priorLifecycle, min 64 s.boot.svn, s.owner.rootFuse)) := by
  refine ⟨_, rfl, ?_⟩
  unfold whenRuns
  split
  · dsimp only
    split
    · exact .inl rfl
    · split
      · simp
      · rename_i h
        refine .inr ⟨by omega, ?_⟩
        simp only [fixed_mk]
        have e : ∀ x e, fixed (logFw e (announceIf x (judgeHoldup (modPower (fun p => { p with
          phase := .ready, capUf := cap.toNat, vhuMv := vhu.toNat }) s)))) = fixed s := by
          intro x e; simp
        have e := fun x y => fixed_eq (e x y)
        simp [e]
  · exact .inl rfl

theorem unlockCustodianApproval_keeps (d : Fin 256) (sig : Option Bytes) (s : State) :
    keeps s (execUnlockCustodianApproval d sig s) := by
  have hp (c : AdminCmd) (u : State) (hc : aSubop c.desc = 1) : fixed (present sig c u) = fixed u := by
    have ht (who : List Nat) (v : State) : fixed (takePresent c who v) = fixed v := by
      unfold takePresent; dsimp only; simp only [hc, show (1 = 0) = False by simp, if_false, fixed_endPresent]
      split <;> simp
    unfold present
    split
    · rw [fixed_finishCmd]; split <;> simp
    · split
      · simp
      · split
        · simp
        · split
          · simp
          · (repeat' split) <;> simp [ht]
  unfold execUnlockCustodianApproval onCmd
  rw [keeps_next]
  split
  · rfl
  · split
    · rename_i h; exact hp _ _ (by simp at h; exact h.2)
    · rfl

/-- The commands that may move the lifecycle, the rollback floor or the fused roots. -/
def movesLife : Instr → Bool
  | .dataPlaneEnable _ | .watchSecondDecision _ _ | .complete _ | .firmwareStart _ | .unlockCustodian _ _ | .readyReport _ _ => true
  | _ => false

theorem exec_keeps (c : Instr) (s : State) (h : movesLife c = false) : keeps s (exec c s) := by
  cases c
  case powerStart => exact keeps_execPowerStart _
  case vinSample => exact keeps_execVinSample _ _ _ _
  case clampMsDecay => exact keeps_execClampMsDecay _
  case overvoltageStop => exact keeps_execOvervoltageStop _
  case brownoutStop => exact keeps_execBrownoutStop _
  case stopFlushComplete => exact keeps_execStopFlushComplete _
  case holdupLowDetect => exact keeps_execHoldupLowDetect _ _
  case governorBandFall => exact keeps_execGovernorBandFall _
  case governorBandRise => exact keeps_execGovernorBandRise _
  case clockStretch => exact keeps_execClockStretch _
  case stretchRelease => exact keeps_execStretchRelease _
  case thermalThrottleStep => exact keeps_execThermalThrottleStep _ _ _
  case thermalShutdown => exact keeps_execThermalShutdown _ _ _
  case clockLoss => exact keeps_execClockLoss _ _
  case dramSelfRefreshEntry => exact keeps_execDramSelfRefreshEntry _
  case dramWakeComplete => exact keeps_execDramWakeComplete _
  case pllLock => exact keeps_execPllLock _
  case bootRom => exact keeps_execBootRom _
  case firmwareStart => cases h
  case readyReport => cases h
  case managementTick => exact keeps_execManagementTick _ _
  case unitEnWrite => exact keeps_execUnitEnWrite _ _ _
  case unitQuiesce => exact keeps_execUnitQuiesce _ _ _
  case unitReset => exact keeps_execUnitReset _ _ _ _
  case unitInitComplete => exact keeps_execUnitInitComplete _ _ _
  case unitDrainComplete => exact keeps_execUnitDrainComplete _ _
  case unitFault => exact keeps_execUnitFault _ _ _
  case policyCommit => exact keeps_execPolicyCommit _
  case registerWrite => exact keeps_execRegisterWrite _ _ _
  case registerWideRead => exact keeps_execRegisterWideRead _ _ _
  case hptStrapWrite => exact keeps_execHptStrapWrite _ _
  case perstAssert => exact keeps_execPerstAssert _ _
  case perstRelease => exact keeps_execPerstRelease _ _
  case linkDown => exact keeps_execLinkDown _ _
  case functionLevelReset => exact keeps_execFunctionLevelReset _ _
  case vfEnableClear => exact keeps_execVfEnableClear _ _ _
  case linkTrainingComplete => exact keeps_execLinkTrainingComplete _ _ _ _ _
  case l0pRequest => exact keeps_execL0pRequest _ _ _
  case aspmL1Entry => exact keeps_execAspmL1Entry _ _ _
  case partnerRateChange => exact keeps_execPartnerRateChange _ _ _
  case configRequest => exact keeps_execConfigRequest _ _ _
  case correctableError => exact keeps_execCorrectableError _ _
  case uncorrectableError => exact keeps_execUncorrectableError _ _
  case dmaReadError => exact keeps_execDmaReadError _ _
  case hostBarAccessBad => exact keeps_execHostBarAccessBad _ _ _
  case msixUnmask => exact keeps_execMsixUnmask _ _ _
  case portBeaconWrite => exact keeps_execPortBeaconWrite _ _ _ _
  case qpSetupWrite => exact keeps_execQpSetupWrite _ _ _ _ _ _
  case qpConfigWrite => exact keeps_execQpConfigWrite _ _ _ _
  case qpDomBeaconWrite => exact keeps_execQpDomBeaconWrite _ _ _ _
  case portLineRead => exact keeps_execPortLineRead _ _
  case portLineResult => exact keeps_execPortLineResult _ _ _ _
  case domainBlockResult => exact keeps_execDomainBlockResult _ _ _ _
  case doorbellResult => exact keeps_execDoorbellResult _ _ _ _ _
  case doorbellRecheck => exact keeps_execDoorbellRecheck _ _ _
  case queueSweep => exact keeps_execQueueSweep _ _
  case beaconReadFailure => exact keeps_execBeaconReadFailure _ _
  case descriptorFetchResult => exact keeps_execDescriptorFetchResult _ _ _ _ _
  case descriptorAdmission => exact keeps_execDescriptorAdmission _ _ _
  case mooringCacheFill => exact keeps_execMooringCacheFill _ _ _
  case parameterBlockResult => exact keeps_execParameterBlockResult _ _ _ _
  case inputReadResult => exact keeps_execInputReadResult _ _ _ _ _
  case adminCompletionWrite => exact keeps_execAdminCompletionWrite _ _
  case coalesceTimer => exact keeps_execCoalesceTimer _ _ _
  case opSeal => exact keeps_execOpSeal _ _
  case opOpen => exact keeps_execOpOpen _ _
  case opReseal => exact keeps_execOpReseal _ _
  case opCipher => exact keeps_execOpCipher _ _
  case opHash => exact keeps_execOpHash _ _
  case opMac => exact keeps_execOpMac _ _
  case opKdf => exact keeps_execOpKdf _ _
  case opPinTranslate => exact keeps_execOpPinTranslate _ _
  case opMoor => exact keeps_execOpMoor _ _
  case opRekey => exact keeps_execOpRekey _ _
  case opUnmoor => exact keeps_execOpUnmoor _ _
  case unmoorRelease => exact keeps_execUnmoorRelease _ _ _
  case opMoorQuery => exact keeps_execOpMoorQuery _ _
  case moorQuerySweep => exact keeps_execMoorQuerySweep _ _
  case opPkSign => exact keeps_execOpPkSign _ _
  case opPkVerify => exact keeps_execOpPkVerify _ _
  case opPkAgree => exact keeps_execOpPkAgree _ _
  case opKemEncaps => exact keeps_execOpKemEncaps _ _
  case opKemDecaps => exact keeps_execOpKemDecaps _ _
  case opRsaPrivate => exact keeps_execOpRsaPrivate _ _
  case opRsaPublic => exact keeps_execOpRsaPublic _ _
  case opPkKeygen => exact keeps_execOpPkKeygen _ _
  case opRngFill => exact keeps_execOpRngFill _ _
  case rngFillChunk => exact keeps_execRngFillChunk _
  case opFence => exact keeps_execOpFence _ _
  case fenceComplete => exact keeps_execFenceComplete _ _
  case laneDispatch => exact keeps_execLaneDispatch _
  case lanePassComplete => exact keeps_execLanePassComplete _ _
  case laneFullReseed => exact keeps_execLaneFullReseed _ _
  case laneSeedTimeout => exact keeps_execLaneSeedTimeout _ _
  case laneScrubComplete => exact keeps_execLaneScrubComplete _ _
  case hashDispatch => exact keeps_execHashDispatch _
  case hashMessageComplete => exact keeps_execHashMessageComplete _ _
  case pkDispatch => exact keeps_execPkDispatch _
  case pkOperationComplete => exact keeps_execPkOperationComplete _ _ _
  case pkRandTimeout => exact keeps_execPkRandTimeout _ _
  case pkScrubComplete => exact keeps_execPkScrubComplete _ _ _
  case legacyUnitTranslation => exact keeps_execLegacyUnitTranslation _
  case adminDescriptorServe => exact keeps_execAdminDescriptorServe _ _ _
  case adminOpenPhase0 => exact keeps_execAdminOpenPhase0 _ _
  case adminOpenPhase1 => exact keeps_execAdminOpenPhase1 _ _
  case adminOpenIdentity => exact keeps_execAdminOpenIdentity _ _
  case adminClose => exact keeps_execAdminClose _ _
  case challengeExpiry => exact keeps_execChallengeExpiry _ _
  case sessionIdleTimeout => exact keeps_execSessionIdleTimeout _ _
  case lockoutExpiry => exact keeps_execLockoutExpiry _ _
  case dataPlaneEnable => cases h
  case permissions => exact keeps_execPermissions _ _
  case release => exact keeps_execRelease _ _
  case releaseComplete => exact keeps_execReleaseComplete _ _ _
  case query => exact keeps_execQuery _ _
  case retention => exact keeps_execRetention _ _
  case watchSet => exact keeps_execWatchSet _ _
  case fuseBlow => exact keeps_execFuseBlow _ _
  case watchClear => exact keeps_execWatchClear _ _
  case batterySet => exact keeps_execBatterySet _ _
  case daymarkPassword => exact keeps_execDaymarkPassword _ _
  case daymarkUnlock => exact keeps_execDaymarkUnlock _ _
  case roots => exact keeps_execRoots _ _
  case custody => exact keeps_execCustody _ _
  case strap => exact keeps_execStrap _ _
  case complete => cases h
  case passwordSet => exact keeps_execPasswordSet _ _
  case domainShareSet => exact keeps_execDomainShareSet _ _
  case curveLoad => exact keeps_execCurveLoad _ _
  case curveClear => exact keeps_execCurveClear _ _
  case curveRead => exact keeps_execCurveRead _ _
  case pkeCurveSelWrite => exact keeps_execPkeCurveSelWrite _ _
  case pkeCurveDataWrite => exact keeps_execPkeCurveDataWrite _ _
  case keyGenerate => exact keeps_execKeyGenerate _ _ _
  case keyImportPublic => exact keeps_execKeyImportPublic _ _
  case keyImportClear => exact keeps_execKeyImportClear _ _
  case keyImportKeyBlock => exact keeps_execKeyImportKeyBlock _ _
  case keyExportPublic => exact keeps_execKeyExportPublic _ _
  case keyExportKeyBlock => exact keeps_execKeyExportKeyBlock _ _
  case keyDestroy => exact keeps_execKeyDestroy _ _
  case keyImageScrub => exact keeps_execKeyImageScrub _ _
  case approvalRequest => exact keeps_execApprovalRequest _ _
  case approvalExpiry => exact keeps_execApprovalExpiry _
  case keyImageBuild => exact keeps_execKeyImageBuild _
  case logRead => exact keeps_execLogRead _ _
  case logExportAck => exact keeps_execLogExportAck _ _
  case evrRead => exact keeps_execEvrRead _ _
  case evrClear => exact keeps_execEvrClear _ _
  case healthRead => exact keeps_execHealthRead _ _
  case unlockBegin => exact keeps_execUnlockBegin _ _
  case unlockCustodian => cases h
  case unlockCustodianApproval => exact unlockCustodianApproval_keeps _ _ _
  case credentialWaitTimeout => exact credentialWaitTimeout_keeps _ _
  case ceremonyExpiry => exact keeps_execCeremonyExpiry _
  case timeSet => exact keeps_execTimeSet _ _
  case appletLoad => exact keeps_execAppletLoad _ _
  case appletEmpty => exact keeps_execAppletEmpty _ _
  case fwUpdateBegin => exact keeps_execFwUpdateBegin _ _
  case fwUpdateData => exact keeps_execFwUpdateData _ _
  case fwUpdateFinish => exact keeps_execFwUpdateFinish _ _
  case fwUpdateAbort => exact keeps_execFwUpdateAbort _ _
  case rngPairFail => exact keeps_execRngPairFail _ _ _ _
  case rngRetest => exact keeps_execRngRetest _ _
  case seedReady => exact keeps_execSeedReady _ _
  case drbgReseed => exact keeps_execDrbgReseed _
  case rngStartupTestsPass => exact keeps_execRngStartupTestsPass _ _
  case seedTimeout => exact keeps_execSeedTimeout _
  case rngSourceFault => exact keeps_execRngSourceFault _ _
  case rngDataRead => exact keeps_execRngDataRead _ _ _
  case rngDataStallTimeout => exact keeps_execRngDataStallTimeout _ _
  case flcUnlockWrite => exact keeps_execFlcUnlockWrite _ _
  case flcAddrWrite => exact keeps_execFlcAddrWrite _ _
  case flashSequenceTimeout => exact keeps_execFlashSequenceTimeout _
  case programPage => exact keeps_execProgramPage _ _
  case eraseSector => exact keeps_execEraseSector _ _
  case eraseSuspend => exact keeps_execEraseSuspend _ _
  case eraseResume => exact keeps_execEraseResume _ _
  case readMargin => exact keeps_execReadMargin _ _
  case blankCheck => exact keeps_execBlankCheck _ _
  case flashCommandDone => exact keeps_execFlashCommandDone _ _ _
  case flashWindowRead => exact keeps_execFlashWindowRead _ _ _
  case eraseAutoResume => exact keeps_execEraseAutoResume _
  case reclaim => exact keeps_execReclaim _
  case reclaimEraseComplete => exact keeps_execReclaimEraseComplete _ _ _
  case lensMarginRead => exact keeps_execLensMarginRead _ _ _
  case flashStartScan => exact keeps_execFlashStartScan _
  case flcXoLockWrite => exact keeps_execFlcXoLockWrite _ _
  case allLocked => exact keeps_execAllLocked _
  case mailboxSend => exact keeps_execMailboxSend _ _ _ _ _
  case mailboxReceive => exact keeps_execMailboxReceive _ _ _ _
  case mgcDramBaseWrite => exact keeps_execMgcDramBaseWrite _ _ _
  case kMov => exact keeps_execKMov _ _ _ _
  case kMovH => exact keeps_execKMovH _ _ _ _ _
  case kMovi => exact keeps_execKMovi _ _ _ _
  case kMoviH => exact keeps_execKMoviH _ _ _ _
  case kLea => exact keeps_execKLea _ _ _ _
  case kLeapc => exact keeps_execKLeapc _ _ _ _ _
  case kLd => exact keeps_execKLd _ _ _ _
  case kSt => exact keeps_execKSt _ _ _ _
  case kLdx => exact keeps_execKLdx _ _ _ _
  case kStx => exact keeps_execKStx _ _ _ _
  case kTas => exact keeps_execKTas _ _ _ _
  case kAdd => exact keeps_execKAdd _ _ _ _ _
  case kSub => exact keeps_execKSub _ _ _ _ _
  case kAdc => exact keeps_execKAdc _ _ _ _ _
  case kSbc => exact keeps_execKSbc _ _ _ _ _
  case kAnd => exact keeps_execKAnd _ _ _ _ _
  case kOr => exact keeps_execKOr _ _ _ _ _
  case kXor => exact keeps_execKXor _ _ _ _ _
  case kNot => exact keeps_execKNot _ _ _ _
  case kNeg => exact keeps_execKNeg _ _ _ _
  case kShl => exact keeps_execKShl _ _ _ _ _
  case kShr => exact keeps_execKShr _ _ _ _ _
  case kSar => exact keeps_execKSar _ _ _ _ _
  case kRol => exact keeps_execKRol _ _ _ _ _
  case kRor => exact keeps_execKRor _ _ _ _ _
  case kCmp => exact keeps_execKCmp _ _ _ _
  case kMul => exact keeps_execKMul _ _ _ _ _
  case kMulh => exact keeps_execKMulh _ _ _ _ _
  case kMulhu => exact keeps_execKMulhu _ _ _ _ _
  case kDiv => exact keeps_execKDiv _ _ _ _ _
  case kDivu => exact keeps_execKDivu _ _ _ _ _
  case kRem => exact keeps_execKRem _ _ _ _ _
  case kRemu => exact keeps_execKRemu _ _ _ _ _
  case kCsel => exact keeps_execKCsel _ _ _ _ _ _
  case kMacq => exact keeps_execKMacq _ _ _ _ _
  case kMacqs => exact keeps_execKMacqs _ _ _ _ _
  case kAddq => exact keeps_execKAddq _ _ _ _
  case kAddqs => exact keeps_execKAddqs _ _ _ _
  case kShql => exact keeps_execKShql _ _ _ _
  case kShqr => exact keeps_execKShqr _ _ _ _
  case kShqa => exact keeps_execKShqa _ _ _ _
  case kMovqL => exact keeps_execKMovqL _ _ _ _
  case kMovqH => exact keeps_execKMovqH _ _ _ _
  case kMovqG => exact keeps_execKMovqG _ _ _ _
  case kMovqTl => exact keeps_execKMovqTl _ _ _ _
  case kMovqTh => exact keeps_execKMovqTh _ _ _ _
  case kClrq => exact keeps_execKClrq _ _ _
  case kTagr => exact keeps_execKTagr _ _ _ _
  case kTagw => exact keeps_execKTagw _ _ _ _ _
  case kTchk => exact keeps_execKTchk _ _ _ _
  case kDeclass => exact keeps_execKDeclass _ _ _ _
  case kBcc => exact keeps_execKBcc _ _ _ _
  case kBr => exact keeps_execKBr _ _ _
  case kCall => exact keeps_execKCall _ _ _
  case kRet => exact keeps_execKRet _ _
  case kCallg => exact keeps_execKCallg _ _ _
  case kTrap => exact keeps_execKTrap _ _ _
  case kRetx => exact keeps_execKRetx _ _
  case kWait => exact keeps_execKWait _ _
  case kFence => exact keeps_execKFence _ _
  case kFenceI => exact keeps_execKFenceI _ _
  case kMfs => exact keeps_execKMfs _ _ _ _
  case kMts => exact keeps_execKMts _ _ _ _
  case kXb => exact keeps_execKXb _ _ _ _
  case kBmov => exact keeps_execKBmov _ _ _ _ _
  case kBzero => exact keeps_execKBzero _ _ _ _
  case kBcrc => exact keeps_execKBcrc _ _ _ _ _
  case kBcrcc => exact keeps_execKBcrcc _ _ _ _ _
  case kBmac => exact keeps_execKBmac _ _ _ _ _ _
  case kBmacs => exact keeps_execKBmacs _ _ _ _ _ _
  case countedEvent => exact keeps_execCountedEvent _ _ _
  case interruptTake => exact keeps_execInterruptTake _ _
  case coreWake => exact keeps_execCoreWake _ _
  case eoi => exact keeps_execEoi _ _ _
  case intClr => exact keeps_execIntClr _ _ _
  case intSwi => exact keeps_execIntSwi _ _ _
  case mpuDisable => exact keeps_execMpuDisable _ _
  case mpuDrainComplete => exact keeps_execMpuDrainComplete _ _
  case mpuEnable => exact keeps_execMpuEnable _ _
  case mpuRegionWrite => exact keeps_execMpuRegionWrite _ _ _ _ _
  case writeBufferDrain => exact keeps_execWriteBufferDrain _ _
  case logPartialFlush => exact keeps_execLogPartialFlush _
  case logChainCheck => exact keeps_execLogChainCheck _
  case recorderInterval => exact keeps_execRecorderInterval _ _ _
  case evrFreezeWrite => exact keeps_execEvrFreezeWrite _ _
  case evrFreezeTimeout => exact keeps_execEvrFreezeTimeout _
  case evrSelWrite => exact keeps_execEvrSelWrite _ _
  case evrWindowRead => exact keeps_execEvrWindowRead _ _
  case watchDetect => exact keeps_execWatchDetect _ _ _
  case watchFirstDecision => exact keeps_execWatchFirstDecision _ _ _
  case watchSecondDecision => cases h
  case wchCfgWrite => exact keeps_execWchCfgWrite _ _ _
  case wchFuseBlowWrite => exact keeps_execWchFuseBlowWrite _ _ _
  case healthPublish => exact keeps_execHealthPublish _ _ _ _ _ _
  case healthDailyMean => exact keeps_execHealthDailyMean _
  case smbusHealthSummary => exact keeps_execSmbusHealthSummary _
  case smbusPrediction => exact keeps_execSmbusPrediction _ _
  case smbusPower => exact keeps_execSmbusPower _
  case smbusState => exact keeps_execSmbusState _
  case smbusField => exact keeps_execSmbusField _
  case smbusAlertResponse => exact keeps_execSmbusAlertResponse _
  case cardActivate => exact keeps_execCardActivate _
  case cardTransfer => exact keeps_execCardTransfer _ _
  case cardDeactivate => exact keeps_execCardDeactivate _
  case cardAbort => exact keeps_execCardAbort _
  case crdCfgWrite => exact keeps_execCrdCfgWrite _ _
  case cardInsertion => exact keeps_execCardInsertion _
  case cardRemoval => exact keeps_execCardRemoval _
  case cardAtrReceived => exact keeps_execCardAtrReceived _ _ _
  case cardMuteTimeout => exact keeps_execCardMuteTimeout _
  case cardClassRetry => exact keeps_execCardClassRetry _
  case cardPpsResponse => exact keeps_execCardPpsResponse _ _
  case cardIfsResponse => exact keeps_execCardIfsResponse _ _ _
  case cardBlockReceived => exact keeps_execCardBlockReceived _ _ _
  case cardWaitTimeout => exact keeps_execCardWaitTimeout _
  case cardMaxWait => exact keeps_execCardMaxWait _
  case cardClockStop => exact keeps_execCardClockStop _
  case cardShort => exact keeps_execCardShort _
  case rfActivate => exact keeps_execRfActivate _
  case rfTransfer => exact keeps_execRfTransfer _ _
  case rfDeactivate => exact keeps_execRfDeactivate _
  case rfAbort => exact keeps_execRfAbort _
  case calibrate => exact keeps_execCalibrate _ _ _
  case rfxCfgWrite => exact keeps_execRfxCfgWrite _ _
  case rfPing => exact keeps_execRfPing _ _ _ _ _
  case rfBlockReceived => exact keeps_execRfBlockReceived _ _ _ _
  case rfFwtTimeout => exact keeps_execRfFwtTimeout _
  case foreignFieldOn => exact keeps_execForeignFieldOn _
  case foreignFieldOff => exact keeps_execForeignFieldOff _
  case holdoffExpiry => exact keeps_execHoldoffExpiry _
  case inventory => exact keeps_execInventory _ _
  case daymarkSlotAdvance => exact keeps_execDaymarkSlotAdvance _
  case select => exact keeps_execSelect _ _
  case readPage => exact keeps_execReadPage _ _ _
  case writePage => exact keeps_execWritePage _ _ _
  case auth => exact keeps_execAuth _ _
  case quiet => exact keeps_execQuiet _
  case daymarkFieldLoss => exact keeps_execDaymarkFieldLoss _ _
  case daymarkPowerUp => exact keeps_execDaymarkPowerUp _
  case firmwarePageWrite => exact keeps_execFirmwarePageWrite _ _
  case firmwarePageRead => exact keeps_execFirmwarePageRead _ _
  case daymarkPageWriteDone => exact keeps_execDaymarkPageWriteDone _ _
  case bypass => exact keeps_execBypass _ _
  case idcode => exact keeps_execIdcode _
  case samplePreload => exact keeps_execSamplePreload _ _
  case extest => exact keeps_execExtest _ _
  case dbgAccess => exact keeps_execDbgAccess _ _ _
  case certLoad => exact keeps_execCertLoad _ _
  case debugReset => exact keeps_execDebugReset _
  case tapReset => exact keeps_execTapReset _
  case debugHalt => exact keeps_execDebugHalt _ _
  case debugStep => exact keeps_execDebugStep _ _
  case thermalRestart => exact keeps_execThermalRestart _ _
  case holdupRecovery => exact keeps_execHoldupRecovery _ _
  case portRefclkStable => exact keeps_execPortRefclkStable _ _
  case l1Exit => exact keeps_execL1Exit _ _
  case backupDomainFirstPower => exact keeps_execBackupDomainFirstPower _
  case poolPageProgramComplete => exact keeps_execPoolPageProgramComplete _ _ _
  case flcCmdWrite => exact keeps_execFlcCmdWrite _ _
  case flcDataWrite => exact keeps_execFlcDataWrite _ _
  case undefinedInstruction => exact keeps_execUndefinedInstruction _ _ _
  case cardPpsTimeout => exact keeps_execCardPpsTimeout _
  case smbusUnknownCommand => exact keeps_execSmbusUnknownCommand _
  case smbusTimeout => exact keeps_execSmbusTimeout _
end Sys2Proof.Machine
end

