-- ==== Sys2Proof/Laws/Map.lean ====
section
/-! SUPPORT. Laws of the sparse arrays: a read after a write, and their canonical form. -/
namespace Sys2Proof.Machine
variable {α : Type}

theorem mget_filter (d : α) (k : Nat) (m : SMap α) (j : Nat) :
    mget d (m.filter fun e => e.1 != k) j = if j = k then d else mget d m j := by
  induction m with
  | nil => simp [mget]
  | cons e r ih =>
    obtain ⟨i, w⟩ := e
    by_cases hi : i = k
    · subst hi
      by_cases hj : j = i
      · simp [hj] at ih ⊢; exact ih
      · simp [mget, ih, hj, Ne.symm hj]
    · by_cases hj : i = j
      · subst hj; simp [mget, hi]
      · simp [mget, ih, hi, hj]

theorem mget_minsert (d : α) (k : Nat) (v : α) (m : SMap α) (j : Nat) (h : ∀ e ∈ m, e.1 ≠ k) :
    mget d (minsert k v m) j = if j = k then v else mget d m j := by
  induction m with
  | nil => by_cases hj : k = j <;> simp [minsert, mget, hj, eq_comm]
  | cons e r ih =>
    obtain ⟨i, w⟩ := e
    have hi : i ≠ k := h (i, w) (by simp)
    have ih := ih fun e he => h e (by simp [he])
    by_cases hk : k < i
    · rw [minsert, if_pos hk]
      by_cases hj : k = j <;> simp [mget, hj, eq_comm]
    · by_cases hj : i = j
      · subst hj; simp [minsert, mget, hk, hi]
      · simp [minsert, mget, hk, hj, ih]

/-- A read after a write: the key written reads the value, every other key reads as before. -/
@[simp] theorem mget_mset [DecidableEq α] (d : α) (m : SMap α) (k : Nat) (v : α) (j : Nat) :
    mget d (mset d m k v) j = if j = k then v else mget d m j := by
  unfold mset
  by_cases hv : v = d
  · simp [hv, mget_filter]
  · rw [if_neg hv, mget_minsert _ _ _ _ _ (by simp)]
    by_cases hj : j = k <;> simp [hj, mget_filter]

/-- Every entry of a canonical array from `lo` lies at or above `lo`. -/
theorem mwfFrom_le [DecidableEq α] (d : α) (lo : Nat) (m : SMap α) (h : mwfFrom d lo m = true) : ∀ e ∈ m, lo ≤ e.1 := by
  induction m generalizing lo with
  | nil => simp
  | cons e r ih =>
    obtain ⟨i, w⟩ := e
    simp [mwfFrom] at h
    intro e he
    rcases List.mem_cons.1 he with rfl | he
    · exact h.1.1
    · have := ih _ h.2 e he; omega

theorem mwfFrom_mono [DecidableEq α] (d : α) (lo lo' : Nat) (m : SMap α) (hl : lo' ≤ lo) (h : mwfFrom d lo m = true) :
    mwfFrom d lo' m = true := by
  cases m with
  | nil => rfl
  | cons e r => simp [mwfFrom] at h ⊢; exact ⟨⟨by omega, h.1.2⟩, h.2⟩

/-- Removing entries keeps the canonical form. -/
theorem mwfFrom_filter [DecidableEq α] (d : α) (p : Nat × α → Bool) (lo : Nat) (m : SMap α) (h : mwfFrom d lo m = true) :
    mwfFrom d lo (m.filter p) = true := by
  induction m generalizing lo with
  | nil => rfl
  | cons e r ih =>
    obtain ⟨i, w⟩ := e
    simp [mwfFrom] at h
    by_cases hp : p (i, w)
    · simp [hp, mwfFrom, h.1, ih _ h.2]
    · simp [hp]; exact mwfFrom_mono d (i + 1) lo _ (by omega) (ih _ h.2)

theorem mwfFrom_minsert [DecidableEq α] (d : α) (k : Nat) (v : α) (hv : v ≠ d) (lo : Nat) (hk : lo ≤ k) (m : SMap α)
    (h : mwfFrom d lo m = true) (hm : ∀ e ∈ m, e.1 ≠ k) : mwfFrom d lo (minsert k v m) = true := by
  induction m generalizing lo with
  | nil => simp [minsert, mwfFrom, hv, hk]
  | cons e r ih =>
    obtain ⟨i, w⟩ := e
    simp [mwfFrom] at h
    have hi : i ≠ k := hm (i, w) (by simp)
    by_cases hki : k < i
    · simp [minsert, hki, mwfFrom, hk, hv, h.1.2, h.2] <;> omega
    · simp [minsert, hki, mwfFrom, h.1]
      exact ih (i + 1) (by omega) h.2 fun e he => hm e (by simp [he])

/-- A write keeps the canonical form. -/
theorem mwf_mset [DecidableEq α] (d : α) (m : SMap α) (k : Nat) (v : α) (h : mwf d m = true) :
    mwf d (mset d m k v) = true := by
  unfold mwf mset at *
  by_cases hv : v = d
  · simp only [hv, if_true]; exact mwfFrom_filter d _ 0 m h
  · simp only [hv, if_false]
    exact mwfFrom_minsert d k v hv 0 (by omega) _ (mwfFrom_filter d _ 0 m h) (by simp)

/-- A change in place keeps the canonical form. -/
theorem mwf_mmod [DecidableEq α] (d : α) (m : SMap α) (k : Nat) (f : α → α) (h : mwf d m = true) :
    mwf d (mmod d m k f) = true := mwf_mset d m k _ h

/-- Dropping keys keeps the canonical form. -/
theorem mwf_mdrop [DecidableEq α] (d : α) (p : Nat → Bool) (m : SMap α) (h : mwf d m = true) : mwf d (mdrop p m) = true :=
  mwfFrom_filter d _ 0 m h

end Sys2Proof.Machine
end

