-- ==== Sys2Proof/Laws/Memory.lean ====
section
/-! SUPPORT. The keeper's memories: every operation on them keeps their canonical form, and reads see the last write. -/
namespace Sys2Proof.Machine

theorem reset_memWf : State.reset.keeper.memWf = true := rfl

theorem memWf_setCore (c : Nat) (k : Core) (s : State) : (setCore c k s).keeper.memWf = s.keeper.memWf := by
  unfold setCore; split <;> rfl

theorem memWf_modCore (c : Nat) (f : Core → Core) (s : State) : (modCore c f s).keeper.memWf = s.keeper.memWf :=
  memWf_setCore c _ s

theorem memWf_setLocal (c : Nat) (m : SMap KWord) (s : State) (h : s.keeper.memWf = true) (hm : mwf {} m = true) :
    (setLocal c m s).keeper.memWf = true := by
  unfold setLocal; split <;> simp_all [Keeper.memWf]

theorem mwf_localOf (s : State) (c : Nat) (h : s.keeper.memWf = true) : mwf {} (localOf s c) = true := by
  unfold localOf; split <;> simp_all [Keeper.memWf]

theorem memWf_putWord (c : Nat) (l : Loc) (w : KWord) (s : State) (h : s.keeper.memWf = true) :
    (putWord c l w s).keeper.memWf = true := by
  cases l with
  | own n => exact memWf_setLocal c _ s h (mwf_mset _ _ _ _ (mwf_localOf s c h))
  | shared n => simp_all [putWord, Keeper.memWf, mwf_mset]
  | dram n => simp_all [putWord, Keeper.memWf, mwf_mset]
  | _ => exact h

theorem memWf_wakeFor (l : Loc) (s : State) : (wakeFor l s).keeper.memWf = s.keeper.memWf := by
  cases l <;> rfl

theorem memWf_loseResv (who : Option Nat) (a : Nat) (s : State) : (loseResv who a s).keeper.memWf = s.keeper.memWf := by
  unfold loseResv
  generalize List.range 4 = l
  induction l generalizing s with
  | nil => rfl
  | cons n r ih =>
    refine (ih _).trans ?_
    dsimp only
    split
    · exact memWf_modCore n _ s
    · rfl

/-- A store keeps the memories canonical. -/
theorem memWf_memStore (c a size : Nat) (w : KWord) (s : State) (h : s.keeper.memWf = true) :
    (memStore c a size w s).keeper.memWf = true := by
  unfold memStore
  split
  · exact h
  · exact memWf_putWord _ _ _ _ (by rw [memWf_wakeFor, memWf_loseResv, h])

theorem localOf_setLocal (c : Nat) (m : SMap KWord) (s : State) : localOf (setLocal c m s) c = m := by
  unfold setLocal; split <;> simp [localOf]

/-- A word of SRAM reads as it was last put. -/
theorem memWord_putWord (c : Nat) (l : Loc) (w : KWord) (s : State) (h : (∃ n, l = .own n) ∨ ∃ n, l = .shared n) :
    memWord (putWord c l w s) c l = w := by
  rcases h with ⟨n, rfl⟩ | ⟨n, rfl⟩
  · simp [memWord, putWord, localOf_setLocal]
  · simp [memWord, putWord]

/-- A write to shared SRAM leaves every other word of it. -/
theorem memWord_putWord_shared (c d n m : Nat) (w : KWord) (s : State) (h : m ≠ n) :
    memWord (putWord c (.shared n) w s) d (.shared m) = memWord s d (.shared m) := by
  simp [memWord, putWord, h]

/-- A write to local SRAM leaves every other word of it. -/
theorem memWord_putWord_own (c n m : Nat) (w : KWord) (s : State) (h : m ≠ n) :
    memWord (putWord c (.own n) w s) c (.own m) = memWord s c (.own m) := by
  simp [memWord, putWord, localOf_setLocal, h]

end Sys2Proof.Machine
end

