-- ==== Sys2Proof/Laws/State.lean ====
section
/-! SUPPORT. What an update of one part of the state leaves, field by field, and what it writes. -/
namespace Sys2Proof.Machine

/-! `setUnit` writes only `units`. -/
@[simp] theorem setUnit_part (u) (r) (s : State) : (setUnit u r s).part = s.part := rfl
@[simp] theorem setUnit_lifecycle (u) (r) (s : State) : (setUnit u r s).lifecycle = s.lifecycle := rfl
@[simp] theorem setUnit_priorLifecycle (u) (r) (s : State) : (setUnit u r s).priorLifecycle = s.priorLifecycle := rfl
@[simp] theorem setUnit_ownerPort (u) (r) (s : State) : (setUnit u r s).ownerPort = s.ownerPort := rfl
@[simp] theorem setUnit_policy (u) (r) (s : State) : (setUnit u r s).policy = s.policy := rfl
@[simp] theorem setUnit_power (u) (r) (s : State) : (setUnit u r s).power = s.power := rfl
@[simp] theorem setUnit_pwrEvents (u) (r) (s : State) : (setUnit u r s).pwrEvents = s.pwrEvents := rfl
@[simp] theorem setUnit_backup (u) (r) (s : State) : (setUnit u r s).backup = s.backup := rfl
@[simp] theorem setUnit_watch (u) (r) (s : State) : (setUnit u r s).watch = s.watch := rfl
@[simp] theorem setUnit_tap (u) (r) (s : State) : (setUnit u r s).tap = s.tap := rfl
@[simp] theorem setUnit_owner (u) (r) (s : State) : (setUnit u r s).owner = s.owner := rfl
@[simp] theorem setUnit_boot (u) (r) (s : State) : (setUnit u r s).boot = s.boot := rfl
@[simp] theorem setUnit_snap (u) (r) (s : State) : (setUnit u r s).snap = s.snap := rfl
@[simp] theorem setUnit_clocks (u) (r) (s : State) : (setUnit u r s).clocks = s.clocks := rfl
@[simp] theorem setUnit_strap (u) (r) (s : State) : (setUnit u r s).strap = s.strap := rfl
@[simp] theorem setUnit_strapNext (u) (r) (s : State) : (setUnit u r s).strapNext = s.strapNext := rfl
@[simp] theorem setUnit_ports (u) (r) (s : State) : (setUnit u r s).ports = s.ports := rfl
@[simp] theorem setUnit_funcs (u) (r) (s : State) : (setUnit u r s).funcs = s.funcs := rfl
@[simp] theorem setUnit_domains (u) (r) (s : State) : (setUnit u r s).domains = s.domains := rfl
@[simp] theorem setUnit_domCfg (u) (r) (s : State) : (setUnit u r s).domCfg = s.domCfg := rfl
@[simp] theorem setUnit_queues (u) (r) (s : State) : (setUnit u r s).queues = s.queues := rfl
@[simp] theorem setUnit_engine (u) (r) (s : State) : (setUnit u r s).engine = s.engine := rfl
@[simp] theorem setUnit_ops (u) (r) (s : State) : (setUnit u r s).ops = s.ops := rfl
@[simp] theorem setUnit_opSeq (u) (r) (s : State) : (setUnit u r s).opSeq = s.opSeq := rfl
@[simp] theorem setUnit_moor (u) (r) (s : State) : (setUnit u r s).moor = s.moor := rfl
@[simp] theorem setUnit_lanes (u) (r) (s : State) : (setUnit u r s).lanes = s.lanes := rfl
@[simp] theorem setUnit_pipes (u) (r) (s : State) : (setUnit u r s).pipes = s.pipes := rfl
@[simp] theorem setUnit_legacy (u) (r) (s : State) : (setUnit u r s).legacy = s.legacy := rfl
@[simp] theorem setUnit_pairs (u) (r) (s : State) : (setUnit u r s).pairs = s.pairs := rfl
@[simp] theorem setUnit_curves (u) (r) (s : State) : (setUnit u r s).curves = s.curves := rfl
@[simp] theorem setUnit_curveRegs (u) (r) (s : State) : (setUnit u r s).curveRegs = s.curveRegs := rfl
@[simp] theorem setUnit_rng (u) (r) (s : State) : (setUnit u r s).rng = s.rng := rfl
@[simp] theorem setUnit_arb (u) (r) (s : State) : (setUnit u r s).arb = s.arb := rfl
@[simp] theorem setUnit_keys (u) (r) (s : State) : (setUnit u r s).keys = s.keys := rfl
@[simp] theorem setUnit_flash (u) (r) (s : State) : (setUnit u r s).flash = s.flash := rfl
@[simp] theorem setUnit_keeper (u) (r) (s : State) : (setUnit u r s).keeper = s.keeper := rfl
@[simp] theorem setUnit_ints (u) (r) (s : State) : (setUnit u r s).ints = s.ints := rfl
@[simp] theorem setUnit_mpus (u) (r) (s : State) : (setUnit u r s).mpus = s.mpus := rfl
@[simp] theorem setUnit_log (u) (r) (s : State) : (setUnit u r s).log = s.log := rfl
@[simp] theorem setUnit_recorders (u) (r) (s : State) : (setUnit u r s).recorders = s.recorders := rfl
@[simp] theorem setUnit_health (u) (r) (s : State) : (setUnit u r s).health = s.health := rfl
@[simp] theorem setUnit_card (u) (r) (s : State) : (setUnit u r s).card = s.card := rfl
@[simp] theorem setUnit_rf (u) (r) (s : State) : (setUnit u r s).rf = s.rf := rfl
@[simp] theorem setUnit_daymark (u) (r) (s : State) : (setUnit u r s).daymark = s.daymark := rfl
@[simp] theorem setUnit_tick (u) (r) (s : State) : (setUnit u r s).tick = s.tick := rfl
@[simp] theorem setUnit_free (u) (r) (s : State) : (setUnit u r s).free = s.free := rfl
@[simp] theorem setUnit_outs (u) (r) (s : State) : (setUnit u r s).outs = s.outs := rfl
@[simp] theorem setUnit_pending (u) (r) (s : State) : (setUnit u r s).pending = s.pending := rfl

/-! `useFree` writes only `free`. -/
@[simp] theorem useFree_part (s : State) : (useFree s).part = s.part := rfl
@[simp] theorem useFree_lifecycle (s : State) : (useFree s).lifecycle = s.lifecycle := rfl
@[simp] theorem useFree_priorLifecycle (s : State) : (useFree s).priorLifecycle = s.priorLifecycle := rfl
@[simp] theorem useFree_ownerPort (s : State) : (useFree s).ownerPort = s.ownerPort := rfl
@[simp] theorem useFree_policy (s : State) : (useFree s).policy = s.policy := rfl
@[simp] theorem useFree_units (s : State) : (useFree s).units = s.units := rfl
@[simp] theorem useFree_power (s : State) : (useFree s).power = s.power := rfl
@[simp] theorem useFree_pwrEvents (s : State) : (useFree s).pwrEvents = s.pwrEvents := rfl
@[simp] theorem useFree_backup (s : State) : (useFree s).backup = s.backup := rfl
@[simp] theorem useFree_watch (s : State) : (useFree s).watch = s.watch := rfl
@[simp] theorem useFree_tap (s : State) : (useFree s).tap = s.tap := rfl
@[simp] theorem useFree_owner (s : State) : (useFree s).owner = s.owner := rfl
@[simp] theorem useFree_boot (s : State) : (useFree s).boot = s.boot := rfl
@[simp] theorem useFree_snap (s : State) : (useFree s).snap = s.snap := rfl
@[simp] theorem useFree_clocks (s : State) : (useFree s).clocks = s.clocks := rfl
@[simp] theorem useFree_strap (s : State) : (useFree s).strap = s.strap := rfl
@[simp] theorem useFree_strapNext (s : State) : (useFree s).strapNext = s.strapNext := rfl
@[simp] theorem useFree_ports (s : State) : (useFree s).ports = s.ports := rfl
@[simp] theorem useFree_funcs (s : State) : (useFree s).funcs = s.funcs := rfl
@[simp] theorem useFree_domains (s : State) : (useFree s).domains = s.domains := rfl
@[simp] theorem useFree_domCfg (s : State) : (useFree s).domCfg = s.domCfg := rfl
@[simp] theorem useFree_queues (s : State) : (useFree s).queues = s.queues := rfl
@[simp] theorem useFree_engine (s : State) : (useFree s).engine = s.engine := rfl
@[simp] theorem useFree_ops (s : State) : (useFree s).ops = s.ops := rfl
@[simp] theorem useFree_opSeq (s : State) : (useFree s).opSeq = s.opSeq := rfl
@[simp] theorem useFree_moor (s : State) : (useFree s).moor = s.moor := rfl
@[simp] theorem useFree_lanes (s : State) : (useFree s).lanes = s.lanes := rfl
@[simp] theorem useFree_pipes (s : State) : (useFree s).pipes = s.pipes := rfl
@[simp] theorem useFree_legacy (s : State) : (useFree s).legacy = s.legacy := rfl
@[simp] theorem useFree_pairs (s : State) : (useFree s).pairs = s.pairs := rfl
@[simp] theorem useFree_curves (s : State) : (useFree s).curves = s.curves := rfl
@[simp] theorem useFree_curveRegs (s : State) : (useFree s).curveRegs = s.curveRegs := rfl
@[simp] theorem useFree_rng (s : State) : (useFree s).rng = s.rng := rfl
@[simp] theorem useFree_arb (s : State) : (useFree s).arb = s.arb := rfl
@[simp] theorem useFree_keys (s : State) : (useFree s).keys = s.keys := rfl
@[simp] theorem useFree_flash (s : State) : (useFree s).flash = s.flash := rfl
@[simp] theorem useFree_keeper (s : State) : (useFree s).keeper = s.keeper := rfl
@[simp] theorem useFree_ints (s : State) : (useFree s).ints = s.ints := rfl
@[simp] theorem useFree_mpus (s : State) : (useFree s).mpus = s.mpus := rfl
@[simp] theorem useFree_log (s : State) : (useFree s).log = s.log := rfl
@[simp] theorem useFree_recorders (s : State) : (useFree s).recorders = s.recorders := rfl
@[simp] theorem useFree_health (s : State) : (useFree s).health = s.health := rfl
@[simp] theorem useFree_card (s : State) : (useFree s).card = s.card := rfl
@[simp] theorem useFree_rf (s : State) : (useFree s).rf = s.rf := rfl
@[simp] theorem useFree_daymark (s : State) : (useFree s).daymark = s.daymark := rfl
@[simp] theorem useFree_tick (s : State) : (useFree s).tick = s.tick := rfl
@[simp] theorem useFree_outs (s : State) : (useFree s).outs = s.outs := rfl
@[simp] theorem useFree_pending (s : State) : (useFree s).pending = s.pending := rfl

/-! `emit` writes only `outs`. -/
@[simp] theorem emit_part (o) (s : State) : (emit o s).part = s.part := rfl
@[simp] theorem emit_lifecycle (o) (s : State) : (emit o s).lifecycle = s.lifecycle := rfl
@[simp] theorem emit_priorLifecycle (o) (s : State) : (emit o s).priorLifecycle = s.priorLifecycle := rfl
@[simp] theorem emit_ownerPort (o) (s : State) : (emit o s).ownerPort = s.ownerPort := rfl
@[simp] theorem emit_policy (o) (s : State) : (emit o s).policy = s.policy := rfl
@[simp] theorem emit_units (o) (s : State) : (emit o s).units = s.units := rfl
@[simp] theorem emit_power (o) (s : State) : (emit o s).power = s.power := rfl
@[simp] theorem emit_pwrEvents (o) (s : State) : (emit o s).pwrEvents = s.pwrEvents := rfl
@[simp] theorem emit_backup (o) (s : State) : (emit o s).backup = s.backup := rfl
@[simp] theorem emit_watch (o) (s : State) : (emit o s).watch = s.watch := rfl
@[simp] theorem emit_tap (o) (s : State) : (emit o s).tap = s.tap := rfl
@[simp] theorem emit_owner (o) (s : State) : (emit o s).owner = s.owner := rfl
@[simp] theorem emit_boot (o) (s : State) : (emit o s).boot = s.boot := rfl
@[simp] theorem emit_snap (o) (s : State) : (emit o s).snap = s.snap := rfl
@[simp] theorem emit_clocks (o) (s : State) : (emit o s).clocks = s.clocks := rfl
@[simp] theorem emit_strap (o) (s : State) : (emit o s).strap = s.strap := rfl
@[simp] theorem emit_strapNext (o) (s : State) : (emit o s).strapNext = s.strapNext := rfl
@[simp] theorem emit_ports (o) (s : State) : (emit o s).ports = s.ports := rfl
@[simp] theorem emit_funcs (o) (s : State) : (emit o s).funcs = s.funcs := rfl
@[simp] theorem emit_domains (o) (s : State) : (emit o s).domains = s.domains := rfl
@[simp] theorem emit_domCfg (o) (s : State) : (emit o s).domCfg = s.domCfg := rfl
@[simp] theorem emit_queues (o) (s : State) : (emit o s).queues = s.queues := rfl
@[simp] theorem emit_engine (o) (s : State) : (emit o s).engine = s.engine := rfl
@[simp] theorem emit_ops (o) (s : State) : (emit o s).ops = s.ops := rfl
@[simp] theorem emit_opSeq (o) (s : State) : (emit o s).opSeq = s.opSeq := rfl
@[simp] theorem emit_moor (o) (s : State) : (emit o s).moor = s.moor := rfl
@[simp] theorem emit_lanes (o) (s : State) : (emit o s).lanes = s.lanes := rfl
@[simp] theorem emit_pipes (o) (s : State) : (emit o s).pipes = s.pipes := rfl
@[simp] theorem emit_legacy (o) (s : State) : (emit o s).legacy = s.legacy := rfl
@[simp] theorem emit_pairs (o) (s : State) : (emit o s).pairs = s.pairs := rfl
@[simp] theorem emit_curves (o) (s : State) : (emit o s).curves = s.curves := rfl
@[simp] theorem emit_curveRegs (o) (s : State) : (emit o s).curveRegs = s.curveRegs := rfl
@[simp] theorem emit_rng (o) (s : State) : (emit o s).rng = s.rng := rfl
@[simp] theorem emit_arb (o) (s : State) : (emit o s).arb = s.arb := rfl
@[simp] theorem emit_keys (o) (s : State) : (emit o s).keys = s.keys := rfl
@[simp] theorem emit_flash (o) (s : State) : (emit o s).flash = s.flash := rfl
@[simp] theorem emit_keeper (o) (s : State) : (emit o s).keeper = s.keeper := rfl
@[simp] theorem emit_ints (o) (s : State) : (emit o s).ints = s.ints := rfl
@[simp] theorem emit_mpus (o) (s : State) : (emit o s).mpus = s.mpus := rfl
@[simp] theorem emit_log (o) (s : State) : (emit o s).log = s.log := rfl
@[simp] theorem emit_recorders (o) (s : State) : (emit o s).recorders = s.recorders := rfl
@[simp] theorem emit_health (o) (s : State) : (emit o s).health = s.health := rfl
@[simp] theorem emit_card (o) (s : State) : (emit o s).card = s.card := rfl
@[simp] theorem emit_rf (o) (s : State) : (emit o s).rf = s.rf := rfl
@[simp] theorem emit_daymark (o) (s : State) : (emit o s).daymark = s.daymark := rfl
@[simp] theorem emit_tick (o) (s : State) : (emit o s).tick = s.tick := rfl
@[simp] theorem emit_free (o) (s : State) : (emit o s).free = s.free := rfl
@[simp] theorem emit_pending (o) (s : State) : (emit o s).pending = s.pending := rfl

/-! `setRec` writes only `recorders`. -/
@[simp] theorem setRec_part (k) (r) (s : State) : (setRec k r s).part = s.part := rfl
@[simp] theorem setRec_lifecycle (k) (r) (s : State) : (setRec k r s).lifecycle = s.lifecycle := rfl
@[simp] theorem setRec_priorLifecycle (k) (r) (s : State) : (setRec k r s).priorLifecycle = s.priorLifecycle := rfl
@[simp] theorem setRec_ownerPort (k) (r) (s : State) : (setRec k r s).ownerPort = s.ownerPort := rfl
@[simp] theorem setRec_policy (k) (r) (s : State) : (setRec k r s).policy = s.policy := rfl
@[simp] theorem setRec_units (k) (r) (s : State) : (setRec k r s).units = s.units := rfl
@[simp] theorem setRec_power (k) (r) (s : State) : (setRec k r s).power = s.power := rfl
@[simp] theorem setRec_pwrEvents (k) (r) (s : State) : (setRec k r s).pwrEvents = s.pwrEvents := rfl
@[simp] theorem setRec_backup (k) (r) (s : State) : (setRec k r s).backup = s.backup := rfl
@[simp] theorem setRec_watch (k) (r) (s : State) : (setRec k r s).watch = s.watch := rfl
@[simp] theorem setRec_tap (k) (r) (s : State) : (setRec k r s).tap = s.tap := rfl
@[simp] theorem setRec_owner (k) (r) (s : State) : (setRec k r s).owner = s.owner := rfl
@[simp] theorem setRec_boot (k) (r) (s : State) : (setRec k r s).boot = s.boot := rfl
@[simp] theorem setRec_snap (k) (r) (s : State) : (setRec k r s).snap = s.snap := rfl
@[simp] theorem setRec_clocks (k) (r) (s : State) : (setRec k r s).clocks = s.clocks := rfl
@[simp] theorem setRec_strap (k) (r) (s : State) : (setRec k r s).strap = s.strap := rfl
@[simp] theorem setRec_strapNext (k) (r) (s : State) : (setRec k r s).strapNext = s.strapNext := rfl
@[simp] theorem setRec_ports (k) (r) (s : State) : (setRec k r s).ports = s.ports := rfl
@[simp] theorem setRec_funcs (k) (r) (s : State) : (setRec k r s).funcs = s.funcs := rfl
@[simp] theorem setRec_domains (k) (r) (s : State) : (setRec k r s).domains = s.domains := rfl
@[simp] theorem setRec_domCfg (k) (r) (s : State) : (setRec k r s).domCfg = s.domCfg := rfl
@[simp] theorem setRec_queues (k) (r) (s : State) : (setRec k r s).queues = s.queues := rfl
@[simp] theorem setRec_engine (k) (r) (s : State) : (setRec k r s).engine = s.engine := rfl
@[simp] theorem setRec_ops (k) (r) (s : State) : (setRec k r s).ops = s.ops := rfl
@[simp] theorem setRec_opSeq (k) (r) (s : State) : (setRec k r s).opSeq = s.opSeq := rfl
@[simp] theorem setRec_moor (k) (r) (s : State) : (setRec k r s).moor = s.moor := rfl
@[simp] theorem setRec_lanes (k) (r) (s : State) : (setRec k r s).lanes = s.lanes := rfl
@[simp] theorem setRec_pipes (k) (r) (s : State) : (setRec k r s).pipes = s.pipes := rfl
@[simp] theorem setRec_legacy (k) (r) (s : State) : (setRec k r s).legacy = s.legacy := rfl
@[simp] theorem setRec_pairs (k) (r) (s : State) : (setRec k r s).pairs = s.pairs := rfl
@[simp] theorem setRec_curves (k) (r) (s : State) : (setRec k r s).curves = s.curves := rfl
@[simp] theorem setRec_curveRegs (k) (r) (s : State) : (setRec k r s).curveRegs = s.curveRegs := rfl
@[simp] theorem setRec_rng (k) (r) (s : State) : (setRec k r s).rng = s.rng := rfl
@[simp] theorem setRec_arb (k) (r) (s : State) : (setRec k r s).arb = s.arb := rfl
@[simp] theorem setRec_keys (k) (r) (s : State) : (setRec k r s).keys = s.keys := rfl
@[simp] theorem setRec_flash (k) (r) (s : State) : (setRec k r s).flash = s.flash := rfl
@[simp] theorem setRec_keeper (k) (r) (s : State) : (setRec k r s).keeper = s.keeper := rfl
@[simp] theorem setRec_ints (k) (r) (s : State) : (setRec k r s).ints = s.ints := rfl
@[simp] theorem setRec_mpus (k) (r) (s : State) : (setRec k r s).mpus = s.mpus := rfl
@[simp] theorem setRec_log (k) (r) (s : State) : (setRec k r s).log = s.log := rfl
@[simp] theorem setRec_health (k) (r) (s : State) : (setRec k r s).health = s.health := rfl
@[simp] theorem setRec_card (k) (r) (s : State) : (setRec k r s).card = s.card := rfl
@[simp] theorem setRec_rf (k) (r) (s : State) : (setRec k r s).rf = s.rf := rfl
@[simp] theorem setRec_daymark (k) (r) (s : State) : (setRec k r s).daymark = s.daymark := rfl
@[simp] theorem setRec_tick (k) (r) (s : State) : (setRec k r s).tick = s.tick := rfl
@[simp] theorem setRec_free (k) (r) (s : State) : (setRec k r s).free = s.free := rfl
@[simp] theorem setRec_outs (k) (r) (s : State) : (setRec k r s).outs = s.outs := rfl
@[simp] theorem setRec_pending (k) (r) (s : State) : (setRec k r s).pending = s.pending := rfl

/-! `setPort` writes only `ports`. -/
@[simp] theorem setPort_part (n) (p) (s : State) : (setPort n p s).part = s.part := rfl
@[simp] theorem setPort_lifecycle (n) (p) (s : State) : (setPort n p s).lifecycle = s.lifecycle := rfl
@[simp] theorem setPort_priorLifecycle (n) (p) (s : State) : (setPort n p s).priorLifecycle = s.priorLifecycle := rfl
@[simp] theorem setPort_ownerPort (n) (p) (s : State) : (setPort n p s).ownerPort = s.ownerPort := rfl
@[simp] theorem setPort_policy (n) (p) (s : State) : (setPort n p s).policy = s.policy := rfl
@[simp] theorem setPort_units (n) (p) (s : State) : (setPort n p s).units = s.units := rfl
@[simp] theorem setPort_power (n) (p) (s : State) : (setPort n p s).power = s.power := rfl
@[simp] theorem setPort_pwrEvents (n) (p) (s : State) : (setPort n p s).pwrEvents = s.pwrEvents := rfl
@[simp] theorem setPort_backup (n) (p) (s : State) : (setPort n p s).backup = s.backup := rfl
@[simp] theorem setPort_watch (n) (p) (s : State) : (setPort n p s).watch = s.watch := rfl
@[simp] theorem setPort_tap (n) (p) (s : State) : (setPort n p s).tap = s.tap := rfl
@[simp] theorem setPort_owner (n) (p) (s : State) : (setPort n p s).owner = s.owner := rfl
@[simp] theorem setPort_boot (n) (p) (s : State) : (setPort n p s).boot = s.boot := rfl
@[simp] theorem setPort_snap (n) (p) (s : State) : (setPort n p s).snap = s.snap := rfl
@[simp] theorem setPort_clocks (n) (p) (s : State) : (setPort n p s).clocks = s.clocks := rfl
@[simp] theorem setPort_strap (n) (p) (s : State) : (setPort n p s).strap = s.strap := rfl
@[simp] theorem setPort_strapNext (n) (p) (s : State) : (setPort n p s).strapNext = s.strapNext := rfl
@[simp] theorem setPort_funcs (n) (p) (s : State) : (setPort n p s).funcs = s.funcs := rfl
@[simp] theorem setPort_domains (n) (p) (s : State) : (setPort n p s).domains = s.domains := rfl
@[simp] theorem setPort_domCfg (n) (p) (s : State) : (setPort n p s).domCfg = s.domCfg := rfl
@[simp] theorem setPort_queues (n) (p) (s : State) : (setPort n p s).queues = s.queues := rfl
@[simp] theorem setPort_engine (n) (p) (s : State) : (setPort n p s).engine = s.engine := rfl
@[simp] theorem setPort_ops (n) (p) (s : State) : (setPort n p s).ops = s.ops := rfl
@[simp] theorem setPort_opSeq (n) (p) (s : State) : (setPort n p s).opSeq = s.opSeq := rfl
@[simp] theorem setPort_moor (n) (p) (s : State) : (setPort n p s).moor = s.moor := rfl
@[simp] theorem setPort_lanes (n) (p) (s : State) : (setPort n p s).lanes = s.lanes := rfl
@[simp] theorem setPort_pipes (n) (p) (s : State) : (setPort n p s).pipes = s.pipes := rfl
@[simp] theorem setPort_legacy (n) (p) (s : State) : (setPort n p s).legacy = s.legacy := rfl
@[simp] theorem setPort_pairs (n) (p) (s : State) : (setPort n p s).pairs = s.pairs := rfl
@[simp] theorem setPort_curves (n) (p) (s : State) : (setPort n p s).curves = s.curves := rfl
@[simp] theorem setPort_curveRegs (n) (p) (s : State) : (setPort n p s).curveRegs = s.curveRegs := rfl
@[simp] theorem setPort_rng (n) (p) (s : State) : (setPort n p s).rng = s.rng := rfl
@[simp] theorem setPort_arb (n) (p) (s : State) : (setPort n p s).arb = s.arb := rfl
@[simp] theorem setPort_keys (n) (p) (s : State) : (setPort n p s).keys = s.keys := rfl
@[simp] theorem setPort_flash (n) (p) (s : State) : (setPort n p s).flash = s.flash := rfl
@[simp] theorem setPort_keeper (n) (p) (s : State) : (setPort n p s).keeper = s.keeper := rfl
@[simp] theorem setPort_ints (n) (p) (s : State) : (setPort n p s).ints = s.ints := rfl
@[simp] theorem setPort_mpus (n) (p) (s : State) : (setPort n p s).mpus = s.mpus := rfl
@[simp] theorem setPort_log (n) (p) (s : State) : (setPort n p s).log = s.log := rfl
@[simp] theorem setPort_recorders (n) (p) (s : State) : (setPort n p s).recorders = s.recorders := rfl
@[simp] theorem setPort_health (n) (p) (s : State) : (setPort n p s).health = s.health := rfl
@[simp] theorem setPort_card (n) (p) (s : State) : (setPort n p s).card = s.card := rfl
@[simp] theorem setPort_rf (n) (p) (s : State) : (setPort n p s).rf = s.rf := rfl
@[simp] theorem setPort_daymark (n) (p) (s : State) : (setPort n p s).daymark = s.daymark := rfl
@[simp] theorem setPort_tick (n) (p) (s : State) : (setPort n p s).tick = s.tick := rfl
@[simp] theorem setPort_free (n) (p) (s : State) : (setPort n p s).free = s.free := rfl
@[simp] theorem setPort_outs (n) (p) (s : State) : (setPort n p s).outs = s.outs := rfl
@[simp] theorem setPort_pending (n) (p) (s : State) : (setPort n p s).pending = s.pending := rfl

/-! `setQueue` writes only `queues`. -/
@[simp] theorem setQueue_part (d) (q) (x) (s : State) : (setQueue d q x s).part = s.part := rfl
@[simp] theorem setQueue_lifecycle (d) (q) (x) (s : State) : (setQueue d q x s).lifecycle = s.lifecycle := rfl
@[simp] theorem setQueue_priorLifecycle (d) (q) (x) (s : State) : (setQueue d q x s).priorLifecycle = s.priorLifecycle := rfl
@[simp] theorem setQueue_ownerPort (d) (q) (x) (s : State) : (setQueue d q x s).ownerPort = s.ownerPort := rfl
@[simp] theorem setQueue_policy (d) (q) (x) (s : State) : (setQueue d q x s).policy = s.policy := rfl
@[simp] theorem setQueue_units (d) (q) (x) (s : State) : (setQueue d q x s).units = s.units := rfl
@[simp] theorem setQueue_power (d) (q) (x) (s : State) : (setQueue d q x s).power = s.power := rfl
@[simp] theorem setQueue_pwrEvents (d) (q) (x) (s : State) : (setQueue d q x s).pwrEvents = s.pwrEvents := rfl
@[simp] theorem setQueue_backup (d) (q) (x) (s : State) : (setQueue d q x s).backup = s.backup := rfl
@[simp] theorem setQueue_watch (d) (q) (x) (s : State) : (setQueue d q x s).watch = s.watch := rfl
@[simp] theorem setQueue_tap (d) (q) (x) (s : State) : (setQueue d q x s).tap = s.tap := rfl
@[simp] theorem setQueue_owner (d) (q) (x) (s : State) : (setQueue d q x s).owner = s.owner := rfl
@[simp] theorem setQueue_boot (d) (q) (x) (s : State) : (setQueue d q x s).boot = s.boot := rfl
@[simp] theorem setQueue_snap (d) (q) (x) (s : State) : (setQueue d q x s).snap = s.snap := rfl
@[simp] theorem setQueue_clocks (d) (q) (x) (s : State) : (setQueue d q x s).clocks = s.clocks := rfl
@[simp] theorem setQueue_strap (d) (q) (x) (s : State) : (setQueue d q x s).strap = s.strap := rfl
@[simp] theorem setQueue_strapNext (d) (q) (x) (s : State) : (setQueue d q x s).strapNext = s.strapNext := rfl
@[simp] theorem setQueue_ports (d) (q) (x) (s : State) : (setQueue d q x s).ports = s.ports := rfl
@[simp] theorem setQueue_funcs (d) (q) (x) (s : State) : (setQueue d q x s).funcs = s.funcs := rfl
@[simp] theorem setQueue_domains (d) (q) (x) (s : State) : (setQueue d q x s).domains = s.domains := rfl
@[simp] theorem setQueue_domCfg (d) (q) (x) (s : State) : (setQueue d q x s).domCfg = s.domCfg := rfl
@[simp] theorem setQueue_engine (d) (q) (x) (s : State) : (setQueue d q x s).engine = s.engine := rfl
@[simp] theorem setQueue_ops (d) (q) (x) (s : State) : (setQueue d q x s).ops = s.ops := rfl
@[simp] theorem setQueue_opSeq (d) (q) (x) (s : State) : (setQueue d q x s).opSeq = s.opSeq := rfl
@[simp] theorem setQueue_moor (d) (q) (x) (s : State) : (setQueue d q x s).moor = s.moor := rfl
@[simp] theorem setQueue_lanes (d) (q) (x) (s : State) : (setQueue d q x s).lanes = s.lanes := rfl
@[simp] theorem setQueue_pipes (d) (q) (x) (s : State) : (setQueue d q x s).pipes = s.pipes := rfl
@[simp] theorem setQueue_legacy (d) (q) (x) (s : State) : (setQueue d q x s).legacy = s.legacy := rfl
@[simp] theorem setQueue_pairs (d) (q) (x) (s : State) : (setQueue d q x s).pairs = s.pairs := rfl
@[simp] theorem setQueue_curves (d) (q) (x) (s : State) : (setQueue d q x s).curves = s.curves := rfl
@[simp] theorem setQueue_curveRegs (d) (q) (x) (s : State) : (setQueue d q x s).curveRegs = s.curveRegs := rfl
@[simp] theorem setQueue_rng (d) (q) (x) (s : State) : (setQueue d q x s).rng = s.rng := rfl
@[simp] theorem setQueue_arb (d) (q) (x) (s : State) : (setQueue d q x s).arb = s.arb := rfl
@[simp] theorem setQueue_keys (d) (q) (x) (s : State) : (setQueue d q x s).keys = s.keys := rfl
@[simp] theorem setQueue_flash (d) (q) (x) (s : State) : (setQueue d q x s).flash = s.flash := rfl
@[simp] theorem setQueue_keeper (d) (q) (x) (s : State) : (setQueue d q x s).keeper = s.keeper := rfl
@[simp] theorem setQueue_ints (d) (q) (x) (s : State) : (setQueue d q x s).ints = s.ints := rfl
@[simp] theorem setQueue_mpus (d) (q) (x) (s : State) : (setQueue d q x s).mpus = s.mpus := rfl
@[simp] theorem setQueue_log (d) (q) (x) (s : State) : (setQueue d q x s).log = s.log := rfl
@[simp] theorem setQueue_recorders (d) (q) (x) (s : State) : (setQueue d q x s).recorders = s.recorders := rfl
@[simp] theorem setQueue_health (d) (q) (x) (s : State) : (setQueue d q x s).health = s.health := rfl
@[simp] theorem setQueue_card (d) (q) (x) (s : State) : (setQueue d q x s).card = s.card := rfl
@[simp] theorem setQueue_rf (d) (q) (x) (s : State) : (setQueue d q x s).rf = s.rf := rfl
@[simp] theorem setQueue_daymark (d) (q) (x) (s : State) : (setQueue d q x s).daymark = s.daymark := rfl
@[simp] theorem setQueue_tick (d) (q) (x) (s : State) : (setQueue d q x s).tick = s.tick := rfl
@[simp] theorem setQueue_free (d) (q) (x) (s : State) : (setQueue d q x s).free = s.free := rfl
@[simp] theorem setQueue_outs (d) (q) (x) (s : State) : (setQueue d q x s).outs = s.outs := rfl
@[simp] theorem setQueue_pending (d) (q) (x) (s : State) : (setQueue d q x s).pending = s.pending := rfl

/-! `putOp` writes only `ops`. -/
@[simp] theorem putOp_part (o) (s : State) : (putOp o s).part = s.part := rfl
@[simp] theorem putOp_lifecycle (o) (s : State) : (putOp o s).lifecycle = s.lifecycle := rfl
@[simp] theorem putOp_priorLifecycle (o) (s : State) : (putOp o s).priorLifecycle = s.priorLifecycle := rfl
@[simp] theorem putOp_ownerPort (o) (s : State) : (putOp o s).ownerPort = s.ownerPort := rfl
@[simp] theorem putOp_policy (o) (s : State) : (putOp o s).policy = s.policy := rfl
@[simp] theorem putOp_units (o) (s : State) : (putOp o s).units = s.units := rfl
@[simp] theorem putOp_power (o) (s : State) : (putOp o s).power = s.power := rfl
@[simp] theorem putOp_pwrEvents (o) (s : State) : (putOp o s).pwrEvents = s.pwrEvents := rfl
@[simp] theorem putOp_backup (o) (s : State) : (putOp o s).backup = s.backup := rfl
@[simp] theorem putOp_watch (o) (s : State) : (putOp o s).watch = s.watch := rfl
@[simp] theorem putOp_tap (o) (s : State) : (putOp o s).tap = s.tap := rfl
@[simp] theorem putOp_owner (o) (s : State) : (putOp o s).owner = s.owner := rfl
@[simp] theorem putOp_boot (o) (s : State) : (putOp o s).boot = s.boot := rfl
@[simp] theorem putOp_snap (o) (s : State) : (putOp o s).snap = s.snap := rfl
@[simp] theorem putOp_clocks (o) (s : State) : (putOp o s).clocks = s.clocks := rfl
@[simp] theorem putOp_strap (o) (s : State) : (putOp o s).strap = s.strap := rfl
@[simp] theorem putOp_strapNext (o) (s : State) : (putOp o s).strapNext = s.strapNext := rfl
@[simp] theorem putOp_ports (o) (s : State) : (putOp o s).ports = s.ports := rfl
@[simp] theorem putOp_funcs (o) (s : State) : (putOp o s).funcs = s.funcs := rfl
@[simp] theorem putOp_domains (o) (s : State) : (putOp o s).domains = s.domains := rfl
@[simp] theorem putOp_domCfg (o) (s : State) : (putOp o s).domCfg = s.domCfg := rfl
@[simp] theorem putOp_queues (o) (s : State) : (putOp o s).queues = s.queues := rfl
@[simp] theorem putOp_engine (o) (s : State) : (putOp o s).engine = s.engine := rfl
@[simp] theorem putOp_opSeq (o) (s : State) : (putOp o s).opSeq = s.opSeq := rfl
@[simp] theorem putOp_moor (o) (s : State) : (putOp o s).moor = s.moor := rfl
@[simp] theorem putOp_lanes (o) (s : State) : (putOp o s).lanes = s.lanes := rfl
@[simp] theorem putOp_pipes (o) (s : State) : (putOp o s).pipes = s.pipes := rfl
@[simp] theorem putOp_legacy (o) (s : State) : (putOp o s).legacy = s.legacy := rfl
@[simp] theorem putOp_pairs (o) (s : State) : (putOp o s).pairs = s.pairs := rfl
@[simp] theorem putOp_curves (o) (s : State) : (putOp o s).curves = s.curves := rfl
@[simp] theorem putOp_curveRegs (o) (s : State) : (putOp o s).curveRegs = s.curveRegs := rfl
@[simp] theorem putOp_rng (o) (s : State) : (putOp o s).rng = s.rng := rfl
@[simp] theorem putOp_arb (o) (s : State) : (putOp o s).arb = s.arb := rfl
@[simp] theorem putOp_keys (o) (s : State) : (putOp o s).keys = s.keys := rfl
@[simp] theorem putOp_flash (o) (s : State) : (putOp o s).flash = s.flash := rfl
@[simp] theorem putOp_keeper (o) (s : State) : (putOp o s).keeper = s.keeper := rfl
@[simp] theorem putOp_ints (o) (s : State) : (putOp o s).ints = s.ints := rfl
@[simp] theorem putOp_mpus (o) (s : State) : (putOp o s).mpus = s.mpus := rfl
@[simp] theorem putOp_log (o) (s : State) : (putOp o s).log = s.log := rfl
@[simp] theorem putOp_recorders (o) (s : State) : (putOp o s).recorders = s.recorders := rfl
@[simp] theorem putOp_health (o) (s : State) : (putOp o s).health = s.health := rfl
@[simp] theorem putOp_card (o) (s : State) : (putOp o s).card = s.card := rfl
@[simp] theorem putOp_rf (o) (s : State) : (putOp o s).rf = s.rf := rfl
@[simp] theorem putOp_daymark (o) (s : State) : (putOp o s).daymark = s.daymark := rfl
@[simp] theorem putOp_tick (o) (s : State) : (putOp o s).tick = s.tick := rfl
@[simp] theorem putOp_free (o) (s : State) : (putOp o s).free = s.free := rfl
@[simp] theorem putOp_outs (o) (s : State) : (putOp o s).outs = s.outs := rfl
@[simp] theorem putOp_pending (o) (s : State) : (putOp o s).pending = s.pending := rfl

/-! `dropOp` writes only `ops`. -/
@[simp] theorem dropOp_part (tag) (s : State) : (dropOp tag s).part = s.part := rfl
@[simp] theorem dropOp_lifecycle (tag) (s : State) : (dropOp tag s).lifecycle = s.lifecycle := rfl
@[simp] theorem dropOp_priorLifecycle (tag) (s : State) : (dropOp tag s).priorLifecycle = s.priorLifecycle := rfl
@[simp] theorem dropOp_ownerPort (tag) (s : State) : (dropOp tag s).ownerPort = s.ownerPort := rfl
@[simp] theorem dropOp_policy (tag) (s : State) : (dropOp tag s).policy = s.policy := rfl
@[simp] theorem dropOp_units (tag) (s : State) : (dropOp tag s).units = s.units := rfl
@[simp] theorem dropOp_power (tag) (s : State) : (dropOp tag s).power = s.power := rfl
@[simp] theorem dropOp_pwrEvents (tag) (s : State) : (dropOp tag s).pwrEvents = s.pwrEvents := rfl
@[simp] theorem dropOp_backup (tag) (s : State) : (dropOp tag s).backup = s.backup := rfl
@[simp] theorem dropOp_watch (tag) (s : State) : (dropOp tag s).watch = s.watch := rfl
@[simp] theorem dropOp_tap (tag) (s : State) : (dropOp tag s).tap = s.tap := rfl
@[simp] theorem dropOp_owner (tag) (s : State) : (dropOp tag s).owner = s.owner := rfl
@[simp] theorem dropOp_boot (tag) (s : State) : (dropOp tag s).boot = s.boot := rfl
@[simp] theorem dropOp_snap (tag) (s : State) : (dropOp tag s).snap = s.snap := rfl
@[simp] theorem dropOp_clocks (tag) (s : State) : (dropOp tag s).clocks = s.clocks := rfl
@[simp] theorem dropOp_strap (tag) (s : State) : (dropOp tag s).strap = s.strap := rfl
@[simp] theorem dropOp_strapNext (tag) (s : State) : (dropOp tag s).strapNext = s.strapNext := rfl
@[simp] theorem dropOp_ports (tag) (s : State) : (dropOp tag s).ports = s.ports := rfl
@[simp] theorem dropOp_funcs (tag) (s : State) : (dropOp tag s).funcs = s.funcs := rfl
@[simp] theorem dropOp_domains (tag) (s : State) : (dropOp tag s).domains = s.domains := rfl
@[simp] theorem dropOp_domCfg (tag) (s : State) : (dropOp tag s).domCfg = s.domCfg := rfl
@[simp] theorem dropOp_queues (tag) (s : State) : (dropOp tag s).queues = s.queues := rfl
@[simp] theorem dropOp_engine (tag) (s : State) : (dropOp tag s).engine = s.engine := rfl
@[simp] theorem dropOp_opSeq (tag) (s : State) : (dropOp tag s).opSeq = s.opSeq := rfl
@[simp] theorem dropOp_moor (tag) (s : State) : (dropOp tag s).moor = s.moor := rfl
@[simp] theorem dropOp_lanes (tag) (s : State) : (dropOp tag s).lanes = s.lanes := rfl
@[simp] theorem dropOp_pipes (tag) (s : State) : (dropOp tag s).pipes = s.pipes := rfl
@[simp] theorem dropOp_legacy (tag) (s : State) : (dropOp tag s).legacy = s.legacy := rfl
@[simp] theorem dropOp_pairs (tag) (s : State) : (dropOp tag s).pairs = s.pairs := rfl
@[simp] theorem dropOp_curves (tag) (s : State) : (dropOp tag s).curves = s.curves := rfl
@[simp] theorem dropOp_curveRegs (tag) (s : State) : (dropOp tag s).curveRegs = s.curveRegs := rfl
@[simp] theorem dropOp_rng (tag) (s : State) : (dropOp tag s).rng = s.rng := rfl
@[simp] theorem dropOp_arb (tag) (s : State) : (dropOp tag s).arb = s.arb := rfl
@[simp] theorem dropOp_keys (tag) (s : State) : (dropOp tag s).keys = s.keys := rfl
@[simp] theorem dropOp_flash (tag) (s : State) : (dropOp tag s).flash = s.flash := rfl
@[simp] theorem dropOp_keeper (tag) (s : State) : (dropOp tag s).keeper = s.keeper := rfl
@[simp] theorem dropOp_ints (tag) (s : State) : (dropOp tag s).ints = s.ints := rfl
@[simp] theorem dropOp_mpus (tag) (s : State) : (dropOp tag s).mpus = s.mpus := rfl
@[simp] theorem dropOp_log (tag) (s : State) : (dropOp tag s).log = s.log := rfl
@[simp] theorem dropOp_recorders (tag) (s : State) : (dropOp tag s).recorders = s.recorders := rfl
@[simp] theorem dropOp_health (tag) (s : State) : (dropOp tag s).health = s.health := rfl
@[simp] theorem dropOp_card (tag) (s : State) : (dropOp tag s).card = s.card := rfl
@[simp] theorem dropOp_rf (tag) (s : State) : (dropOp tag s).rf = s.rf := rfl
@[simp] theorem dropOp_daymark (tag) (s : State) : (dropOp tag s).daymark = s.daymark := rfl
@[simp] theorem dropOp_tick (tag) (s : State) : (dropOp tag s).tick = s.tick := rfl
@[simp] theorem dropOp_free (tag) (s : State) : (dropOp tag s).free = s.free := rfl
@[simp] theorem dropOp_outs (tag) (s : State) : (dropOp tag s).outs = s.outs := rfl
@[simp] theorem dropOp_pending (tag) (s : State) : (dropOp tag s).pending = s.pending := rfl

/-! `setMoor` writes only `moor`. -/
@[simp] theorem setMoor_part (i) (m) (s : State) : (setMoor i m s).part = s.part := rfl
@[simp] theorem setMoor_lifecycle (i) (m) (s : State) : (setMoor i m s).lifecycle = s.lifecycle := rfl
@[simp] theorem setMoor_priorLifecycle (i) (m) (s : State) : (setMoor i m s).priorLifecycle = s.priorLifecycle := rfl
@[simp] theorem setMoor_ownerPort (i) (m) (s : State) : (setMoor i m s).ownerPort = s.ownerPort := rfl
@[simp] theorem setMoor_policy (i) (m) (s : State) : (setMoor i m s).policy = s.policy := rfl
@[simp] theorem setMoor_units (i) (m) (s : State) : (setMoor i m s).units = s.units := rfl
@[simp] theorem setMoor_power (i) (m) (s : State) : (setMoor i m s).power = s.power := rfl
@[simp] theorem setMoor_pwrEvents (i) (m) (s : State) : (setMoor i m s).pwrEvents = s.pwrEvents := rfl
@[simp] theorem setMoor_backup (i) (m) (s : State) : (setMoor i m s).backup = s.backup := rfl
@[simp] theorem setMoor_watch (i) (m) (s : State) : (setMoor i m s).watch = s.watch := rfl
@[simp] theorem setMoor_tap (i) (m) (s : State) : (setMoor i m s).tap = s.tap := rfl
@[simp] theorem setMoor_owner (i) (m) (s : State) : (setMoor i m s).owner = s.owner := rfl
@[simp] theorem setMoor_boot (i) (m) (s : State) : (setMoor i m s).boot = s.boot := rfl
@[simp] theorem setMoor_snap (i) (m) (s : State) : (setMoor i m s).snap = s.snap := rfl
@[simp] theorem setMoor_clocks (i) (m) (s : State) : (setMoor i m s).clocks = s.clocks := rfl
@[simp] theorem setMoor_strap (i) (m) (s : State) : (setMoor i m s).strap = s.strap := rfl
@[simp] theorem setMoor_strapNext (i) (m) (s : State) : (setMoor i m s).strapNext = s.strapNext := rfl
@[simp] theorem setMoor_ports (i) (m) (s : State) : (setMoor i m s).ports = s.ports := rfl
@[simp] theorem setMoor_funcs (i) (m) (s : State) : (setMoor i m s).funcs = s.funcs := rfl
@[simp] theorem setMoor_domains (i) (m) (s : State) : (setMoor i m s).domains = s.domains := rfl
@[simp] theorem setMoor_domCfg (i) (m) (s : State) : (setMoor i m s).domCfg = s.domCfg := rfl
@[simp] theorem setMoor_queues (i) (m) (s : State) : (setMoor i m s).queues = s.queues := rfl
@[simp] theorem setMoor_engine (i) (m) (s : State) : (setMoor i m s).engine = s.engine := rfl
@[simp] theorem setMoor_ops (i) (m) (s : State) : (setMoor i m s).ops = s.ops := rfl
@[simp] theorem setMoor_opSeq (i) (m) (s : State) : (setMoor i m s).opSeq = s.opSeq := rfl
@[simp] theorem setMoor_lanes (i) (m) (s : State) : (setMoor i m s).lanes = s.lanes := rfl
@[simp] theorem setMoor_pipes (i) (m) (s : State) : (setMoor i m s).pipes = s.pipes := rfl
@[simp] theorem setMoor_legacy (i) (m) (s : State) : (setMoor i m s).legacy = s.legacy := rfl
@[simp] theorem setMoor_pairs (i) (m) (s : State) : (setMoor i m s).pairs = s.pairs := rfl
@[simp] theorem setMoor_curves (i) (m) (s : State) : (setMoor i m s).curves = s.curves := rfl
@[simp] theorem setMoor_curveRegs (i) (m) (s : State) : (setMoor i m s).curveRegs = s.curveRegs := rfl
@[simp] theorem setMoor_rng (i) (m) (s : State) : (setMoor i m s).rng = s.rng := rfl
@[simp] theorem setMoor_arb (i) (m) (s : State) : (setMoor i m s).arb = s.arb := rfl
@[simp] theorem setMoor_keys (i) (m) (s : State) : (setMoor i m s).keys = s.keys := rfl
@[simp] theorem setMoor_flash (i) (m) (s : State) : (setMoor i m s).flash = s.flash := rfl
@[simp] theorem setMoor_keeper (i) (m) (s : State) : (setMoor i m s).keeper = s.keeper := rfl
@[simp] theorem setMoor_ints (i) (m) (s : State) : (setMoor i m s).ints = s.ints := rfl
@[simp] theorem setMoor_mpus (i) (m) (s : State) : (setMoor i m s).mpus = s.mpus := rfl
@[simp] theorem setMoor_log (i) (m) (s : State) : (setMoor i m s).log = s.log := rfl
@[simp] theorem setMoor_recorders (i) (m) (s : State) : (setMoor i m s).recorders = s.recorders := rfl
@[simp] theorem setMoor_health (i) (m) (s : State) : (setMoor i m s).health = s.health := rfl
@[simp] theorem setMoor_card (i) (m) (s : State) : (setMoor i m s).card = s.card := rfl
@[simp] theorem setMoor_rf (i) (m) (s : State) : (setMoor i m s).rf = s.rf := rfl
@[simp] theorem setMoor_daymark (i) (m) (s : State) : (setMoor i m s).daymark = s.daymark := rfl
@[simp] theorem setMoor_tick (i) (m) (s : State) : (setMoor i m s).tick = s.tick := rfl
@[simp] theorem setMoor_free (i) (m) (s : State) : (setMoor i m s).free = s.free := rfl
@[simp] theorem setMoor_outs (i) (m) (s : State) : (setMoor i m s).outs = s.outs := rfl
@[simp] theorem setMoor_pending (i) (m) (s : State) : (setMoor i m s).pending = s.pending := rfl

/-! `setLane` writes only `lanes`. -/
@[simp] theorem setLane_part (n) (l) (s : State) : (setLane n l s).part = s.part := rfl
@[simp] theorem setLane_lifecycle (n) (l) (s : State) : (setLane n l s).lifecycle = s.lifecycle := rfl
@[simp] theorem setLane_priorLifecycle (n) (l) (s : State) : (setLane n l s).priorLifecycle = s.priorLifecycle := rfl
@[simp] theorem setLane_ownerPort (n) (l) (s : State) : (setLane n l s).ownerPort = s.ownerPort := rfl
@[simp] theorem setLane_policy (n) (l) (s : State) : (setLane n l s).policy = s.policy := rfl
@[simp] theorem setLane_units (n) (l) (s : State) : (setLane n l s).units = s.units := rfl
@[simp] theorem setLane_power (n) (l) (s : State) : (setLane n l s).power = s.power := rfl
@[simp] theorem setLane_pwrEvents (n) (l) (s : State) : (setLane n l s).pwrEvents = s.pwrEvents := rfl
@[simp] theorem setLane_backup (n) (l) (s : State) : (setLane n l s).backup = s.backup := rfl
@[simp] theorem setLane_watch (n) (l) (s : State) : (setLane n l s).watch = s.watch := rfl
@[simp] theorem setLane_tap (n) (l) (s : State) : (setLane n l s).tap = s.tap := rfl
@[simp] theorem setLane_owner (n) (l) (s : State) : (setLane n l s).owner = s.owner := rfl
@[simp] theorem setLane_boot (n) (l) (s : State) : (setLane n l s).boot = s.boot := rfl
@[simp] theorem setLane_snap (n) (l) (s : State) : (setLane n l s).snap = s.snap := rfl
@[simp] theorem setLane_clocks (n) (l) (s : State) : (setLane n l s).clocks = s.clocks := rfl
@[simp] theorem setLane_strap (n) (l) (s : State) : (setLane n l s).strap = s.strap := rfl
@[simp] theorem setLane_strapNext (n) (l) (s : State) : (setLane n l s).strapNext = s.strapNext := rfl
@[simp] theorem setLane_ports (n) (l) (s : State) : (setLane n l s).ports = s.ports := rfl
@[simp] theorem setLane_funcs (n) (l) (s : State) : (setLane n l s).funcs = s.funcs := rfl
@[simp] theorem setLane_domains (n) (l) (s : State) : (setLane n l s).domains = s.domains := rfl
@[simp] theorem setLane_domCfg (n) (l) (s : State) : (setLane n l s).domCfg = s.domCfg := rfl
@[simp] theorem setLane_queues (n) (l) (s : State) : (setLane n l s).queues = s.queues := rfl
@[simp] theorem setLane_engine (n) (l) (s : State) : (setLane n l s).engine = s.engine := rfl
@[simp] theorem setLane_ops (n) (l) (s : State) : (setLane n l s).ops = s.ops := rfl
@[simp] theorem setLane_opSeq (n) (l) (s : State) : (setLane n l s).opSeq = s.opSeq := rfl
@[simp] theorem setLane_moor (n) (l) (s : State) : (setLane n l s).moor = s.moor := rfl
@[simp] theorem setLane_pipes (n) (l) (s : State) : (setLane n l s).pipes = s.pipes := rfl
@[simp] theorem setLane_legacy (n) (l) (s : State) : (setLane n l s).legacy = s.legacy := rfl
@[simp] theorem setLane_pairs (n) (l) (s : State) : (setLane n l s).pairs = s.pairs := rfl
@[simp] theorem setLane_curves (n) (l) (s : State) : (setLane n l s).curves = s.curves := rfl
@[simp] theorem setLane_curveRegs (n) (l) (s : State) : (setLane n l s).curveRegs = s.curveRegs := rfl
@[simp] theorem setLane_rng (n) (l) (s : State) : (setLane n l s).rng = s.rng := rfl
@[simp] theorem setLane_arb (n) (l) (s : State) : (setLane n l s).arb = s.arb := rfl
@[simp] theorem setLane_keys (n) (l) (s : State) : (setLane n l s).keys = s.keys := rfl
@[simp] theorem setLane_flash (n) (l) (s : State) : (setLane n l s).flash = s.flash := rfl
@[simp] theorem setLane_keeper (n) (l) (s : State) : (setLane n l s).keeper = s.keeper := rfl
@[simp] theorem setLane_ints (n) (l) (s : State) : (setLane n l s).ints = s.ints := rfl
@[simp] theorem setLane_mpus (n) (l) (s : State) : (setLane n l s).mpus = s.mpus := rfl
@[simp] theorem setLane_log (n) (l) (s : State) : (setLane n l s).log = s.log := rfl
@[simp] theorem setLane_recorders (n) (l) (s : State) : (setLane n l s).recorders = s.recorders := rfl
@[simp] theorem setLane_health (n) (l) (s : State) : (setLane n l s).health = s.health := rfl
@[simp] theorem setLane_card (n) (l) (s : State) : (setLane n l s).card = s.card := rfl
@[simp] theorem setLane_rf (n) (l) (s : State) : (setLane n l s).rf = s.rf := rfl
@[simp] theorem setLane_daymark (n) (l) (s : State) : (setLane n l s).daymark = s.daymark := rfl
@[simp] theorem setLane_tick (n) (l) (s : State) : (setLane n l s).tick = s.tick := rfl
@[simp] theorem setLane_free (n) (l) (s : State) : (setLane n l s).free = s.free := rfl
@[simp] theorem setLane_outs (n) (l) (s : State) : (setLane n l s).outs = s.outs := rfl
@[simp] theorem setLane_pending (n) (l) (s : State) : (setLane n l s).pending = s.pending := rfl

/-! `setPair` writes only `pairs`. -/
@[simp] theorem setPair_part (n) (p) (s : State) : (setPair n p s).part = s.part := rfl
@[simp] theorem setPair_lifecycle (n) (p) (s : State) : (setPair n p s).lifecycle = s.lifecycle := rfl
@[simp] theorem setPair_priorLifecycle (n) (p) (s : State) : (setPair n p s).priorLifecycle = s.priorLifecycle := rfl
@[simp] theorem setPair_ownerPort (n) (p) (s : State) : (setPair n p s).ownerPort = s.ownerPort := rfl
@[simp] theorem setPair_policy (n) (p) (s : State) : (setPair n p s).policy = s.policy := rfl
@[simp] theorem setPair_units (n) (p) (s : State) : (setPair n p s).units = s.units := rfl
@[simp] theorem setPair_power (n) (p) (s : State) : (setPair n p s).power = s.power := rfl
@[simp] theorem setPair_pwrEvents (n) (p) (s : State) : (setPair n p s).pwrEvents = s.pwrEvents := rfl
@[simp] theorem setPair_backup (n) (p) (s : State) : (setPair n p s).backup = s.backup := rfl
@[simp] theorem setPair_watch (n) (p) (s : State) : (setPair n p s).watch = s.watch := rfl
@[simp] theorem setPair_tap (n) (p) (s : State) : (setPair n p s).tap = s.tap := rfl
@[simp] theorem setPair_owner (n) (p) (s : State) : (setPair n p s).owner = s.owner := rfl
@[simp] theorem setPair_boot (n) (p) (s : State) : (setPair n p s).boot = s.boot := rfl
@[simp] theorem setPair_snap (n) (p) (s : State) : (setPair n p s).snap = s.snap := rfl
@[simp] theorem setPair_clocks (n) (p) (s : State) : (setPair n p s).clocks = s.clocks := rfl
@[simp] theorem setPair_strap (n) (p) (s : State) : (setPair n p s).strap = s.strap := rfl
@[simp] theorem setPair_strapNext (n) (p) (s : State) : (setPair n p s).strapNext = s.strapNext := rfl
@[simp] theorem setPair_ports (n) (p) (s : State) : (setPair n p s).ports = s.ports := rfl
@[simp] theorem setPair_funcs (n) (p) (s : State) : (setPair n p s).funcs = s.funcs := rfl
@[simp] theorem setPair_domains (n) (p) (s : State) : (setPair n p s).domains = s.domains := rfl
@[simp] theorem setPair_domCfg (n) (p) (s : State) : (setPair n p s).domCfg = s.domCfg := rfl
@[simp] theorem setPair_queues (n) (p) (s : State) : (setPair n p s).queues = s.queues := rfl
@[simp] theorem setPair_engine (n) (p) (s : State) : (setPair n p s).engine = s.engine := rfl
@[simp] theorem setPair_ops (n) (p) (s : State) : (setPair n p s).ops = s.ops := rfl
@[simp] theorem setPair_opSeq (n) (p) (s : State) : (setPair n p s).opSeq = s.opSeq := rfl
@[simp] theorem setPair_moor (n) (p) (s : State) : (setPair n p s).moor = s.moor := rfl
@[simp] theorem setPair_lanes (n) (p) (s : State) : (setPair n p s).lanes = s.lanes := rfl
@[simp] theorem setPair_pipes (n) (p) (s : State) : (setPair n p s).pipes = s.pipes := rfl
@[simp] theorem setPair_legacy (n) (p) (s : State) : (setPair n p s).legacy = s.legacy := rfl
@[simp] theorem setPair_curves (n) (p) (s : State) : (setPair n p s).curves = s.curves := rfl
@[simp] theorem setPair_curveRegs (n) (p) (s : State) : (setPair n p s).curveRegs = s.curveRegs := rfl
@[simp] theorem setPair_rng (n) (p) (s : State) : (setPair n p s).rng = s.rng := rfl
@[simp] theorem setPair_arb (n) (p) (s : State) : (setPair n p s).arb = s.arb := rfl
@[simp] theorem setPair_keys (n) (p) (s : State) : (setPair n p s).keys = s.keys := rfl
@[simp] theorem setPair_flash (n) (p) (s : State) : (setPair n p s).flash = s.flash := rfl
@[simp] theorem setPair_keeper (n) (p) (s : State) : (setPair n p s).keeper = s.keeper := rfl
@[simp] theorem setPair_ints (n) (p) (s : State) : (setPair n p s).ints = s.ints := rfl
@[simp] theorem setPair_mpus (n) (p) (s : State) : (setPair n p s).mpus = s.mpus := rfl
@[simp] theorem setPair_log (n) (p) (s : State) : (setPair n p s).log = s.log := rfl
@[simp] theorem setPair_recorders (n) (p) (s : State) : (setPair n p s).recorders = s.recorders := rfl
@[simp] theorem setPair_health (n) (p) (s : State) : (setPair n p s).health = s.health := rfl
@[simp] theorem setPair_card (n) (p) (s : State) : (setPair n p s).card = s.card := rfl
@[simp] theorem setPair_rf (n) (p) (s : State) : (setPair n p s).rf = s.rf := rfl
@[simp] theorem setPair_daymark (n) (p) (s : State) : (setPair n p s).daymark = s.daymark := rfl
@[simp] theorem setPair_tick (n) (p) (s : State) : (setPair n p s).tick = s.tick := rfl
@[simp] theorem setPair_free (n) (p) (s : State) : (setPair n p s).free = s.free := rfl
@[simp] theorem setPair_outs (n) (p) (s : State) : (setPair n p s).outs = s.outs := rfl
@[simp] theorem setPair_pending (n) (p) (s : State) : (setPair n p s).pending = s.pending := rfl

/-! `setMpu` writes only `mpus`. -/
@[simp] theorem setMpu_part (c) (m) (s : State) : (setMpu c m s).part = s.part := rfl
@[simp] theorem setMpu_lifecycle (c) (m) (s : State) : (setMpu c m s).lifecycle = s.lifecycle := rfl
@[simp] theorem setMpu_priorLifecycle (c) (m) (s : State) : (setMpu c m s).priorLifecycle = s.priorLifecycle := rfl
@[simp] theorem setMpu_ownerPort (c) (m) (s : State) : (setMpu c m s).ownerPort = s.ownerPort := rfl
@[simp] theorem setMpu_policy (c) (m) (s : State) : (setMpu c m s).policy = s.policy := rfl
@[simp] theorem setMpu_units (c) (m) (s : State) : (setMpu c m s).units = s.units := rfl
@[simp] theorem setMpu_power (c) (m) (s : State) : (setMpu c m s).power = s.power := rfl
@[simp] theorem setMpu_pwrEvents (c) (m) (s : State) : (setMpu c m s).pwrEvents = s.pwrEvents := rfl
@[simp] theorem setMpu_backup (c) (m) (s : State) : (setMpu c m s).backup = s.backup := rfl
@[simp] theorem setMpu_watch (c) (m) (s : State) : (setMpu c m s).watch = s.watch := rfl
@[simp] theorem setMpu_tap (c) (m) (s : State) : (setMpu c m s).tap = s.tap := rfl
@[simp] theorem setMpu_owner (c) (m) (s : State) : (setMpu c m s).owner = s.owner := rfl
@[simp] theorem setMpu_boot (c) (m) (s : State) : (setMpu c m s).boot = s.boot := rfl
@[simp] theorem setMpu_snap (c) (m) (s : State) : (setMpu c m s).snap = s.snap := rfl
@[simp] theorem setMpu_clocks (c) (m) (s : State) : (setMpu c m s).clocks = s.clocks := rfl
@[simp] theorem setMpu_strap (c) (m) (s : State) : (setMpu c m s).strap = s.strap := rfl
@[simp] theorem setMpu_strapNext (c) (m) (s : State) : (setMpu c m s).strapNext = s.strapNext := rfl
@[simp] theorem setMpu_ports (c) (m) (s : State) : (setMpu c m s).ports = s.ports := rfl
@[simp] theorem setMpu_funcs (c) (m) (s : State) : (setMpu c m s).funcs = s.funcs := rfl
@[simp] theorem setMpu_domains (c) (m) (s : State) : (setMpu c m s).domains = s.domains := rfl
@[simp] theorem setMpu_domCfg (c) (m) (s : State) : (setMpu c m s).domCfg = s.domCfg := rfl
@[simp] theorem setMpu_queues (c) (m) (s : State) : (setMpu c m s).queues = s.queues := rfl
@[simp] theorem setMpu_engine (c) (m) (s : State) : (setMpu c m s).engine = s.engine := rfl
@[simp] theorem setMpu_ops (c) (m) (s : State) : (setMpu c m s).ops = s.ops := rfl
@[simp] theorem setMpu_opSeq (c) (m) (s : State) : (setMpu c m s).opSeq = s.opSeq := rfl
@[simp] theorem setMpu_moor (c) (m) (s : State) : (setMpu c m s).moor = s.moor := rfl
@[simp] theorem setMpu_lanes (c) (m) (s : State) : (setMpu c m s).lanes = s.lanes := rfl
@[simp] theorem setMpu_pipes (c) (m) (s : State) : (setMpu c m s).pipes = s.pipes := rfl
@[simp] theorem setMpu_legacy (c) (m) (s : State) : (setMpu c m s).legacy = s.legacy := rfl
@[simp] theorem setMpu_pairs (c) (m) (s : State) : (setMpu c m s).pairs = s.pairs := rfl
@[simp] theorem setMpu_curves (c) (m) (s : State) : (setMpu c m s).curves = s.curves := rfl
@[simp] theorem setMpu_curveRegs (c) (m) (s : State) : (setMpu c m s).curveRegs = s.curveRegs := rfl
@[simp] theorem setMpu_rng (c) (m) (s : State) : (setMpu c m s).rng = s.rng := rfl
@[simp] theorem setMpu_arb (c) (m) (s : State) : (setMpu c m s).arb = s.arb := rfl
@[simp] theorem setMpu_keys (c) (m) (s : State) : (setMpu c m s).keys = s.keys := rfl
@[simp] theorem setMpu_flash (c) (m) (s : State) : (setMpu c m s).flash = s.flash := rfl
@[simp] theorem setMpu_keeper (c) (m) (s : State) : (setMpu c m s).keeper = s.keeper := rfl
@[simp] theorem setMpu_ints (c) (m) (s : State) : (setMpu c m s).ints = s.ints := rfl
@[simp] theorem setMpu_log (c) (m) (s : State) : (setMpu c m s).log = s.log := rfl
@[simp] theorem setMpu_recorders (c) (m) (s : State) : (setMpu c m s).recorders = s.recorders := rfl
@[simp] theorem setMpu_health (c) (m) (s : State) : (setMpu c m s).health = s.health := rfl
@[simp] theorem setMpu_card (c) (m) (s : State) : (setMpu c m s).card = s.card := rfl
@[simp] theorem setMpu_rf (c) (m) (s : State) : (setMpu c m s).rf = s.rf := rfl
@[simp] theorem setMpu_daymark (c) (m) (s : State) : (setMpu c m s).daymark = s.daymark := rfl
@[simp] theorem setMpu_tick (c) (m) (s : State) : (setMpu c m s).tick = s.tick := rfl
@[simp] theorem setMpu_free (c) (m) (s : State) : (setMpu c m s).free = s.free := rfl
@[simp] theorem setMpu_outs (c) (m) (s : State) : (setMpu c m s).outs = s.outs := rfl
@[simp] theorem setMpu_pending (c) (m) (s : State) : (setMpu c m s).pending = s.pending := rfl

/-! `setKey` writes only `keys`. -/
@[simp] theorem setKey_part (n) (k) (s : State) : (setKey n k s).part = s.part := rfl
@[simp] theorem setKey_lifecycle (n) (k) (s : State) : (setKey n k s).lifecycle = s.lifecycle := rfl
@[simp] theorem setKey_priorLifecycle (n) (k) (s : State) : (setKey n k s).priorLifecycle = s.priorLifecycle := rfl
@[simp] theorem setKey_ownerPort (n) (k) (s : State) : (setKey n k s).ownerPort = s.ownerPort := rfl
@[simp] theorem setKey_policy (n) (k) (s : State) : (setKey n k s).policy = s.policy := rfl
@[simp] theorem setKey_units (n) (k) (s : State) : (setKey n k s).units = s.units := rfl
@[simp] theorem setKey_power (n) (k) (s : State) : (setKey n k s).power = s.power := rfl
@[simp] theorem setKey_pwrEvents (n) (k) (s : State) : (setKey n k s).pwrEvents = s.pwrEvents := rfl
@[simp] theorem setKey_backup (n) (k) (s : State) : (setKey n k s).backup = s.backup := rfl
@[simp] theorem setKey_watch (n) (k) (s : State) : (setKey n k s).watch = s.watch := rfl
@[simp] theorem setKey_tap (n) (k) (s : State) : (setKey n k s).tap = s.tap := rfl
@[simp] theorem setKey_owner (n) (k) (s : State) : (setKey n k s).owner = s.owner := rfl
@[simp] theorem setKey_boot (n) (k) (s : State) : (setKey n k s).boot = s.boot := rfl
@[simp] theorem setKey_snap (n) (k) (s : State) : (setKey n k s).snap = s.snap := rfl
@[simp] theorem setKey_clocks (n) (k) (s : State) : (setKey n k s).clocks = s.clocks := rfl
@[simp] theorem setKey_strap (n) (k) (s : State) : (setKey n k s).strap = s.strap := rfl
@[simp] theorem setKey_strapNext (n) (k) (s : State) : (setKey n k s).strapNext = s.strapNext := rfl
@[simp] theorem setKey_ports (n) (k) (s : State) : (setKey n k s).ports = s.ports := rfl
@[simp] theorem setKey_funcs (n) (k) (s : State) : (setKey n k s).funcs = s.funcs := rfl
@[simp] theorem setKey_domains (n) (k) (s : State) : (setKey n k s).domains = s.domains := rfl
@[simp] theorem setKey_domCfg (n) (k) (s : State) : (setKey n k s).domCfg = s.domCfg := rfl
@[simp] theorem setKey_queues (n) (k) (s : State) : (setKey n k s).queues = s.queues := rfl
@[simp] theorem setKey_engine (n) (k) (s : State) : (setKey n k s).engine = s.engine := rfl
@[simp] theorem setKey_ops (n) (k) (s : State) : (setKey n k s).ops = s.ops := rfl
@[simp] theorem setKey_opSeq (n) (k) (s : State) : (setKey n k s).opSeq = s.opSeq := rfl
@[simp] theorem setKey_moor (n) (k) (s : State) : (setKey n k s).moor = s.moor := rfl
@[simp] theorem setKey_lanes (n) (k) (s : State) : (setKey n k s).lanes = s.lanes := rfl
@[simp] theorem setKey_pipes (n) (k) (s : State) : (setKey n k s).pipes = s.pipes := rfl
@[simp] theorem setKey_legacy (n) (k) (s : State) : (setKey n k s).legacy = s.legacy := rfl
@[simp] theorem setKey_pairs (n) (k) (s : State) : (setKey n k s).pairs = s.pairs := rfl
@[simp] theorem setKey_curves (n) (k) (s : State) : (setKey n k s).curves = s.curves := rfl
@[simp] theorem setKey_curveRegs (n) (k) (s : State) : (setKey n k s).curveRegs = s.curveRegs := rfl
@[simp] theorem setKey_rng (n) (k) (s : State) : (setKey n k s).rng = s.rng := rfl
@[simp] theorem setKey_arb (n) (k) (s : State) : (setKey n k s).arb = s.arb := rfl
@[simp] theorem setKey_flash (n) (k) (s : State) : (setKey n k s).flash = s.flash := rfl
@[simp] theorem setKey_keeper (n) (k) (s : State) : (setKey n k s).keeper = s.keeper := rfl
@[simp] theorem setKey_ints (n) (k) (s : State) : (setKey n k s).ints = s.ints := rfl
@[simp] theorem setKey_mpus (n) (k) (s : State) : (setKey n k s).mpus = s.mpus := rfl
@[simp] theorem setKey_log (n) (k) (s : State) : (setKey n k s).log = s.log := rfl
@[simp] theorem setKey_recorders (n) (k) (s : State) : (setKey n k s).recorders = s.recorders := rfl
@[simp] theorem setKey_health (n) (k) (s : State) : (setKey n k s).health = s.health := rfl
@[simp] theorem setKey_card (n) (k) (s : State) : (setKey n k s).card = s.card := rfl
@[simp] theorem setKey_rf (n) (k) (s : State) : (setKey n k s).rf = s.rf := rfl
@[simp] theorem setKey_daymark (n) (k) (s : State) : (setKey n k s).daymark = s.daymark := rfl
@[simp] theorem setKey_tick (n) (k) (s : State) : (setKey n k s).tick = s.tick := rfl
@[simp] theorem setKey_free (n) (k) (s : State) : (setKey n k s).free = s.free := rfl
@[simp] theorem setKey_outs (n) (k) (s : State) : (setKey n k s).outs = s.outs := rfl
@[simp] theorem setKey_pending (n) (k) (s : State) : (setKey n k s).pending = s.pending := rfl

/-! `spendApproval` writes only `keys`. -/
@[simp] theorem spendApproval_part (s : State) : (spendApproval s).part = s.part := rfl
@[simp] theorem spendApproval_lifecycle (s : State) : (spendApproval s).lifecycle = s.lifecycle := rfl
@[simp] theorem spendApproval_priorLifecycle (s : State) : (spendApproval s).priorLifecycle = s.priorLifecycle := rfl
@[simp] theorem spendApproval_ownerPort (s : State) : (spendApproval s).ownerPort = s.ownerPort := rfl
@[simp] theorem spendApproval_policy (s : State) : (spendApproval s).policy = s.policy := rfl
@[simp] theorem spendApproval_units (s : State) : (spendApproval s).units = s.units := rfl
@[simp] theorem spendApproval_power (s : State) : (spendApproval s).power = s.power := rfl
@[simp] theorem spendApproval_pwrEvents (s : State) : (spendApproval s).pwrEvents = s.pwrEvents := rfl
@[simp] theorem spendApproval_backup (s : State) : (spendApproval s).backup = s.backup := rfl
@[simp] theorem spendApproval_watch (s : State) : (spendApproval s).watch = s.watch := rfl
@[simp] theorem spendApproval_tap (s : State) : (spendApproval s).tap = s.tap := rfl
@[simp] theorem spendApproval_owner (s : State) : (spendApproval s).owner = s.owner := rfl
@[simp] theorem spendApproval_boot (s : State) : (spendApproval s).boot = s.boot := rfl
@[simp] theorem spendApproval_snap (s : State) : (spendApproval s).snap = s.snap := rfl
@[simp] theorem spendApproval_clocks (s : State) : (spendApproval s).clocks = s.clocks := rfl
@[simp] theorem spendApproval_strap (s : State) : (spendApproval s).strap = s.strap := rfl
@[simp] theorem spendApproval_strapNext (s : State) : (spendApproval s).strapNext = s.strapNext := rfl
@[simp] theorem spendApproval_ports (s : State) : (spendApproval s).ports = s.ports := rfl
@[simp] theorem spendApproval_funcs (s : State) : (spendApproval s).funcs = s.funcs := rfl
@[simp] theorem spendApproval_domains (s : State) : (spendApproval s).domains = s.domains := rfl
@[simp] theorem spendApproval_domCfg (s : State) : (spendApproval s).domCfg = s.domCfg := rfl
@[simp] theorem spendApproval_queues (s : State) : (spendApproval s).queues = s.queues := rfl
@[simp] theorem spendApproval_engine (s : State) : (spendApproval s).engine = s.engine := rfl
@[simp] theorem spendApproval_ops (s : State) : (spendApproval s).ops = s.ops := rfl
@[simp] theorem spendApproval_opSeq (s : State) : (spendApproval s).opSeq = s.opSeq := rfl
@[simp] theorem spendApproval_moor (s : State) : (spendApproval s).moor = s.moor := rfl
@[simp] theorem spendApproval_lanes (s : State) : (spendApproval s).lanes = s.lanes := rfl
@[simp] theorem spendApproval_pipes (s : State) : (spendApproval s).pipes = s.pipes := rfl
@[simp] theorem spendApproval_legacy (s : State) : (spendApproval s).legacy = s.legacy := rfl
@[simp] theorem spendApproval_pairs (s : State) : (spendApproval s).pairs = s.pairs := rfl
@[simp] theorem spendApproval_curves (s : State) : (spendApproval s).curves = s.curves := rfl
@[simp] theorem spendApproval_curveRegs (s : State) : (spendApproval s).curveRegs = s.curveRegs := rfl
@[simp] theorem spendApproval_rng (s : State) : (spendApproval s).rng = s.rng := rfl
@[simp] theorem spendApproval_arb (s : State) : (spendApproval s).arb = s.arb := rfl
@[simp] theorem spendApproval_flash (s : State) : (spendApproval s).flash = s.flash := rfl
@[simp] theorem spendApproval_keeper (s : State) : (spendApproval s).keeper = s.keeper := rfl
@[simp] theorem spendApproval_ints (s : State) : (spendApproval s).ints = s.ints := rfl
@[simp] theorem spendApproval_mpus (s : State) : (spendApproval s).mpus = s.mpus := rfl
@[simp] theorem spendApproval_log (s : State) : (spendApproval s).log = s.log := rfl
@[simp] theorem spendApproval_recorders (s : State) : (spendApproval s).recorders = s.recorders := rfl
@[simp] theorem spendApproval_health (s : State) : (spendApproval s).health = s.health := rfl
@[simp] theorem spendApproval_card (s : State) : (spendApproval s).card = s.card := rfl
@[simp] theorem spendApproval_rf (s : State) : (spendApproval s).rf = s.rf := rfl
@[simp] theorem spendApproval_daymark (s : State) : (spendApproval s).daymark = s.daymark := rfl
@[simp] theorem spendApproval_tick (s : State) : (spendApproval s).tick = s.tick := rfl
@[simp] theorem spendApproval_free (s : State) : (spendApproval s).free = s.free := rfl
@[simp] theorem spendApproval_outs (s : State) : (spendApproval s).outs = s.outs := rfl
@[simp] theorem spendApproval_pending (s : State) : (spendApproval s).pending = s.pending := rfl

/-! `modFlash` writes only `flash`. -/
@[simp] theorem modFlash_part (f) (s : State) : (modFlash f s).part = s.part := rfl
@[simp] theorem modFlash_lifecycle (f) (s : State) : (modFlash f s).lifecycle = s.lifecycle := rfl
@[simp] theorem modFlash_priorLifecycle (f) (s : State) : (modFlash f s).priorLifecycle = s.priorLifecycle := rfl
@[simp] theorem modFlash_ownerPort (f) (s : State) : (modFlash f s).ownerPort = s.ownerPort := rfl
@[simp] theorem modFlash_policy (f) (s : State) : (modFlash f s).policy = s.policy := rfl
@[simp] theorem modFlash_units (f) (s : State) : (modFlash f s).units = s.units := rfl
@[simp] theorem modFlash_power (f) (s : State) : (modFlash f s).power = s.power := rfl
@[simp] theorem modFlash_pwrEvents (f) (s : State) : (modFlash f s).pwrEvents = s.pwrEvents := rfl
@[simp] theorem modFlash_backup (f) (s : State) : (modFlash f s).backup = s.backup := rfl
@[simp] theorem modFlash_watch (f) (s : State) : (modFlash f s).watch = s.watch := rfl
@[simp] theorem modFlash_tap (f) (s : State) : (modFlash f s).tap = s.tap := rfl
@[simp] theorem modFlash_owner (f) (s : State) : (modFlash f s).owner = s.owner := rfl
@[simp] theorem modFlash_boot (f) (s : State) : (modFlash f s).boot = s.boot := rfl
@[simp] theorem modFlash_snap (f) (s : State) : (modFlash f s).snap = s.snap := rfl
@[simp] theorem modFlash_clocks (f) (s : State) : (modFlash f s).clocks = s.clocks := rfl
@[simp] theorem modFlash_strap (f) (s : State) : (modFlash f s).strap = s.strap := rfl
@[simp] theorem modFlash_strapNext (f) (s : State) : (modFlash f s).strapNext = s.strapNext := rfl
@[simp] theorem modFlash_ports (f) (s : State) : (modFlash f s).ports = s.ports := rfl
@[simp] theorem modFlash_funcs (f) (s : State) : (modFlash f s).funcs = s.funcs := rfl
@[simp] theorem modFlash_domains (f) (s : State) : (modFlash f s).domains = s.domains := rfl
@[simp] theorem modFlash_domCfg (f) (s : State) : (modFlash f s).domCfg = s.domCfg := rfl
@[simp] theorem modFlash_queues (f) (s : State) : (modFlash f s).queues = s.queues := rfl
@[simp] theorem modFlash_engine (f) (s : State) : (modFlash f s).engine = s.engine := rfl
@[simp] theorem modFlash_ops (f) (s : State) : (modFlash f s).ops = s.ops := rfl
@[simp] theorem modFlash_opSeq (f) (s : State) : (modFlash f s).opSeq = s.opSeq := rfl
@[simp] theorem modFlash_moor (f) (s : State) : (modFlash f s).moor = s.moor := rfl
@[simp] theorem modFlash_lanes (f) (s : State) : (modFlash f s).lanes = s.lanes := rfl
@[simp] theorem modFlash_pipes (f) (s : State) : (modFlash f s).pipes = s.pipes := rfl
@[simp] theorem modFlash_legacy (f) (s : State) : (modFlash f s).legacy = s.legacy := rfl
@[simp] theorem modFlash_pairs (f) (s : State) : (modFlash f s).pairs = s.pairs := rfl
@[simp] theorem modFlash_curves (f) (s : State) : (modFlash f s).curves = s.curves := rfl
@[simp] theorem modFlash_curveRegs (f) (s : State) : (modFlash f s).curveRegs = s.curveRegs := rfl
@[simp] theorem modFlash_rng (f) (s : State) : (modFlash f s).rng = s.rng := rfl
@[simp] theorem modFlash_arb (f) (s : State) : (modFlash f s).arb = s.arb := rfl
@[simp] theorem modFlash_keys (f) (s : State) : (modFlash f s).keys = s.keys := rfl
@[simp] theorem modFlash_keeper (f) (s : State) : (modFlash f s).keeper = s.keeper := rfl
@[simp] theorem modFlash_ints (f) (s : State) : (modFlash f s).ints = s.ints := rfl
@[simp] theorem modFlash_mpus (f) (s : State) : (modFlash f s).mpus = s.mpus := rfl
@[simp] theorem modFlash_log (f) (s : State) : (modFlash f s).log = s.log := rfl
@[simp] theorem modFlash_recorders (f) (s : State) : (modFlash f s).recorders = s.recorders := rfl
@[simp] theorem modFlash_health (f) (s : State) : (modFlash f s).health = s.health := rfl
@[simp] theorem modFlash_card (f) (s : State) : (modFlash f s).card = s.card := rfl
@[simp] theorem modFlash_rf (f) (s : State) : (modFlash f s).rf = s.rf := rfl
@[simp] theorem modFlash_daymark (f) (s : State) : (modFlash f s).daymark = s.daymark := rfl
@[simp] theorem modFlash_tick (f) (s : State) : (modFlash f s).tick = s.tick := rfl
@[simp] theorem modFlash_free (f) (s : State) : (modFlash f s).free = s.free := rfl
@[simp] theorem modFlash_outs (f) (s : State) : (modFlash f s).outs = s.outs := rfl
@[simp] theorem modFlash_pending (f) (s : State) : (modFlash f s).pending = s.pending := rfl

/-! `modDay` writes only `daymark`. -/
@[simp] theorem modDay_part (f) (s : State) : (modDay f s).part = s.part := rfl
@[simp] theorem modDay_lifecycle (f) (s : State) : (modDay f s).lifecycle = s.lifecycle := rfl
@[simp] theorem modDay_priorLifecycle (f) (s : State) : (modDay f s).priorLifecycle = s.priorLifecycle := rfl
@[simp] theorem modDay_ownerPort (f) (s : State) : (modDay f s).ownerPort = s.ownerPort := rfl
@[simp] theorem modDay_policy (f) (s : State) : (modDay f s).policy = s.policy := rfl
@[simp] theorem modDay_units (f) (s : State) : (modDay f s).units = s.units := rfl
@[simp] theorem modDay_power (f) (s : State) : (modDay f s).power = s.power := rfl
@[simp] theorem modDay_pwrEvents (f) (s : State) : (modDay f s).pwrEvents = s.pwrEvents := rfl
@[simp] theorem modDay_backup (f) (s : State) : (modDay f s).backup = s.backup := rfl
@[simp] theorem modDay_watch (f) (s : State) : (modDay f s).watch = s.watch := rfl
@[simp] theorem modDay_tap (f) (s : State) : (modDay f s).tap = s.tap := rfl
@[simp] theorem modDay_owner (f) (s : State) : (modDay f s).owner = s.owner := rfl
@[simp] theorem modDay_boot (f) (s : State) : (modDay f s).boot = s.boot := rfl
@[simp] theorem modDay_snap (f) (s : State) : (modDay f s).snap = s.snap := rfl
@[simp] theorem modDay_clocks (f) (s : State) : (modDay f s).clocks = s.clocks := rfl
@[simp] theorem modDay_strap (f) (s : State) : (modDay f s).strap = s.strap := rfl
@[simp] theorem modDay_strapNext (f) (s : State) : (modDay f s).strapNext = s.strapNext := rfl
@[simp] theorem modDay_ports (f) (s : State) : (modDay f s).ports = s.ports := rfl
@[simp] theorem modDay_funcs (f) (s : State) : (modDay f s).funcs = s.funcs := rfl
@[simp] theorem modDay_domains (f) (s : State) : (modDay f s).domains = s.domains := rfl
@[simp] theorem modDay_domCfg (f) (s : State) : (modDay f s).domCfg = s.domCfg := rfl
@[simp] theorem modDay_queues (f) (s : State) : (modDay f s).queues = s.queues := rfl
@[simp] theorem modDay_engine (f) (s : State) : (modDay f s).engine = s.engine := rfl
@[simp] theorem modDay_ops (f) (s : State) : (modDay f s).ops = s.ops := rfl
@[simp] theorem modDay_opSeq (f) (s : State) : (modDay f s).opSeq = s.opSeq := rfl
@[simp] theorem modDay_moor (f) (s : State) : (modDay f s).moor = s.moor := rfl
@[simp] theorem modDay_lanes (f) (s : State) : (modDay f s).lanes = s.lanes := rfl
@[simp] theorem modDay_pipes (f) (s : State) : (modDay f s).pipes = s.pipes := rfl
@[simp] theorem modDay_legacy (f) (s : State) : (modDay f s).legacy = s.legacy := rfl
@[simp] theorem modDay_pairs (f) (s : State) : (modDay f s).pairs = s.pairs := rfl
@[simp] theorem modDay_curves (f) (s : State) : (modDay f s).curves = s.curves := rfl
@[simp] theorem modDay_curveRegs (f) (s : State) : (modDay f s).curveRegs = s.curveRegs := rfl
@[simp] theorem modDay_rng (f) (s : State) : (modDay f s).rng = s.rng := rfl
@[simp] theorem modDay_arb (f) (s : State) : (modDay f s).arb = s.arb := rfl
@[simp] theorem modDay_keys (f) (s : State) : (modDay f s).keys = s.keys := rfl
@[simp] theorem modDay_flash (f) (s : State) : (modDay f s).flash = s.flash := rfl
@[simp] theorem modDay_keeper (f) (s : State) : (modDay f s).keeper = s.keeper := rfl
@[simp] theorem modDay_ints (f) (s : State) : (modDay f s).ints = s.ints := rfl
@[simp] theorem modDay_mpus (f) (s : State) : (modDay f s).mpus = s.mpus := rfl
@[simp] theorem modDay_log (f) (s : State) : (modDay f s).log = s.log := rfl
@[simp] theorem modDay_recorders (f) (s : State) : (modDay f s).recorders = s.recorders := rfl
@[simp] theorem modDay_health (f) (s : State) : (modDay f s).health = s.health := rfl
@[simp] theorem modDay_card (f) (s : State) : (modDay f s).card = s.card := rfl
@[simp] theorem modDay_rf (f) (s : State) : (modDay f s).rf = s.rf := rfl
@[simp] theorem modDay_tick (f) (s : State) : (modDay f s).tick = s.tick := rfl
@[simp] theorem modDay_free (f) (s : State) : (modDay f s).free = s.free := rfl
@[simp] theorem modDay_outs (f) (s : State) : (modDay f s).outs = s.outs := rfl
@[simp] theorem modDay_pending (f) (s : State) : (modDay f s).pending = s.pending := rfl

/-! `modRf` writes only `rf`. -/
@[simp] theorem modRf_part (f) (s : State) : (modRf f s).part = s.part := rfl
@[simp] theorem modRf_lifecycle (f) (s : State) : (modRf f s).lifecycle = s.lifecycle := rfl
@[simp] theorem modRf_priorLifecycle (f) (s : State) : (modRf f s).priorLifecycle = s.priorLifecycle := rfl
@[simp] theorem modRf_ownerPort (f) (s : State) : (modRf f s).ownerPort = s.ownerPort := rfl
@[simp] theorem modRf_policy (f) (s : State) : (modRf f s).policy = s.policy := rfl
@[simp] theorem modRf_units (f) (s : State) : (modRf f s).units = s.units := rfl
@[simp] theorem modRf_power (f) (s : State) : (modRf f s).power = s.power := rfl
@[simp] theorem modRf_pwrEvents (f) (s : State) : (modRf f s).pwrEvents = s.pwrEvents := rfl
@[simp] theorem modRf_backup (f) (s : State) : (modRf f s).backup = s.backup := rfl
@[simp] theorem modRf_watch (f) (s : State) : (modRf f s).watch = s.watch := rfl
@[simp] theorem modRf_tap (f) (s : State) : (modRf f s).tap = s.tap := rfl
@[simp] theorem modRf_owner (f) (s : State) : (modRf f s).owner = s.owner := rfl
@[simp] theorem modRf_boot (f) (s : State) : (modRf f s).boot = s.boot := rfl
@[simp] theorem modRf_snap (f) (s : State) : (modRf f s).snap = s.snap := rfl
@[simp] theorem modRf_strap (f) (s : State) : (modRf f s).strap = s.strap := rfl
@[simp] theorem modRf_strapNext (f) (s : State) : (modRf f s).strapNext = s.strapNext := rfl
@[simp] theorem modRf_ports (f) (s : State) : (modRf f s).ports = s.ports := rfl
@[simp] theorem modRf_funcs (f) (s : State) : (modRf f s).funcs = s.funcs := rfl
@[simp] theorem modRf_domains (f) (s : State) : (modRf f s).domains = s.domains := rfl
@[simp] theorem modRf_domCfg (f) (s : State) : (modRf f s).domCfg = s.domCfg := rfl
@[simp] theorem modRf_queues (f) (s : State) : (modRf f s).queues = s.queues := rfl
@[simp] theorem modRf_engine (f) (s : State) : (modRf f s).engine = s.engine := rfl
@[simp] theorem modRf_ops (f) (s : State) : (modRf f s).ops = s.ops := rfl
@[simp] theorem modRf_opSeq (f) (s : State) : (modRf f s).opSeq = s.opSeq := rfl
@[simp] theorem modRf_moor (f) (s : State) : (modRf f s).moor = s.moor := rfl
@[simp] theorem modRf_lanes (f) (s : State) : (modRf f s).lanes = s.lanes := rfl
@[simp] theorem modRf_pipes (f) (s : State) : (modRf f s).pipes = s.pipes := rfl
@[simp] theorem modRf_legacy (f) (s : State) : (modRf f s).legacy = s.legacy := rfl
@[simp] theorem modRf_pairs (f) (s : State) : (modRf f s).pairs = s.pairs := rfl
@[simp] theorem modRf_curves (f) (s : State) : (modRf f s).curves = s.curves := rfl
@[simp] theorem modRf_curveRegs (f) (s : State) : (modRf f s).curveRegs = s.curveRegs := rfl
@[simp] theorem modRf_rng (f) (s : State) : (modRf f s).rng = s.rng := rfl
@[simp] theorem modRf_arb (f) (s : State) : (modRf f s).arb = s.arb := rfl
@[simp] theorem modRf_keys (f) (s : State) : (modRf f s).keys = s.keys := rfl
@[simp] theorem modRf_flash (f) (s : State) : (modRf f s).flash = s.flash := rfl
@[simp] theorem modRf_keeper (f) (s : State) : (modRf f s).keeper = s.keeper := rfl
@[simp] theorem modRf_ints (f) (s : State) : (modRf f s).ints = s.ints := rfl
@[simp] theorem modRf_mpus (f) (s : State) : (modRf f s).mpus = s.mpus := rfl
@[simp] theorem modRf_log (f) (s : State) : (modRf f s).log = s.log := rfl
@[simp] theorem modRf_recorders (f) (s : State) : (modRf f s).recorders = s.recorders := rfl
@[simp] theorem modRf_health (f) (s : State) : (modRf f s).health = s.health := rfl
@[simp] theorem modRf_card (f) (s : State) : (modRf f s).card = s.card := rfl
@[simp] theorem modRf_daymark (f) (s : State) : (modRf f s).daymark = s.daymark := rfl
@[simp] theorem modRf_tick (f) (s : State) : (modRf f s).tick = s.tick := rfl
@[simp] theorem modRf_free (f) (s : State) : (modRf f s).free = s.free := rfl
@[simp] theorem modRf_outs (f) (s : State) : (modRf f s).outs = s.outs := rfl
@[simp] theorem modRf_pending (f) (s : State) : (modRf f s).pending = s.pending := rfl

/-! `modCard` writes only `card`. -/
@[simp] theorem modCard_part (f) (s : State) : (modCard f s).part = s.part := rfl
@[simp] theorem modCard_lifecycle (f) (s : State) : (modCard f s).lifecycle = s.lifecycle := rfl
@[simp] theorem modCard_priorLifecycle (f) (s : State) : (modCard f s).priorLifecycle = s.priorLifecycle := rfl
@[simp] theorem modCard_ownerPort (f) (s : State) : (modCard f s).ownerPort = s.ownerPort := rfl
@[simp] theorem modCard_policy (f) (s : State) : (modCard f s).policy = s.policy := rfl
@[simp] theorem modCard_units (f) (s : State) : (modCard f s).units = s.units := rfl
@[simp] theorem modCard_power (f) (s : State) : (modCard f s).power = s.power := rfl
@[simp] theorem modCard_pwrEvents (f) (s : State) : (modCard f s).pwrEvents = s.pwrEvents := rfl
@[simp] theorem modCard_backup (f) (s : State) : (modCard f s).backup = s.backup := rfl
@[simp] theorem modCard_watch (f) (s : State) : (modCard f s).watch = s.watch := rfl
@[simp] theorem modCard_tap (f) (s : State) : (modCard f s).tap = s.tap := rfl
@[simp] theorem modCard_owner (f) (s : State) : (modCard f s).owner = s.owner := rfl
@[simp] theorem modCard_boot (f) (s : State) : (modCard f s).boot = s.boot := rfl
@[simp] theorem modCard_snap (f) (s : State) : (modCard f s).snap = s.snap := rfl
@[simp] theorem modCard_clocks (f) (s : State) : (modCard f s).clocks = s.clocks := rfl
@[simp] theorem modCard_strap (f) (s : State) : (modCard f s).strap = s.strap := rfl
@[simp] theorem modCard_strapNext (f) (s : State) : (modCard f s).strapNext = s.strapNext := rfl
@[simp] theorem modCard_ports (f) (s : State) : (modCard f s).ports = s.ports := rfl
@[simp] theorem modCard_funcs (f) (s : State) : (modCard f s).funcs = s.funcs := rfl
@[simp] theorem modCard_domains (f) (s : State) : (modCard f s).domains = s.domains := rfl
@[simp] theorem modCard_domCfg (f) (s : State) : (modCard f s).domCfg = s.domCfg := rfl
@[simp] theorem modCard_queues (f) (s : State) : (modCard f s).queues = s.queues := rfl
@[simp] theorem modCard_engine (f) (s : State) : (modCard f s).engine = s.engine := rfl
@[simp] theorem modCard_ops (f) (s : State) : (modCard f s).ops = s.ops := rfl
@[simp] theorem modCard_opSeq (f) (s : State) : (modCard f s).opSeq = s.opSeq := rfl
@[simp] theorem modCard_moor (f) (s : State) : (modCard f s).moor = s.moor := rfl
@[simp] theorem modCard_lanes (f) (s : State) : (modCard f s).lanes = s.lanes := rfl
@[simp] theorem modCard_pipes (f) (s : State) : (modCard f s).pipes = s.pipes := rfl
@[simp] theorem modCard_legacy (f) (s : State) : (modCard f s).legacy = s.legacy := rfl
@[simp] theorem modCard_pairs (f) (s : State) : (modCard f s).pairs = s.pairs := rfl
@[simp] theorem modCard_curves (f) (s : State) : (modCard f s).curves = s.curves := rfl
@[simp] theorem modCard_curveRegs (f) (s : State) : (modCard f s).curveRegs = s.curveRegs := rfl
@[simp] theorem modCard_rng (f) (s : State) : (modCard f s).rng = s.rng := rfl
@[simp] theorem modCard_arb (f) (s : State) : (modCard f s).arb = s.arb := rfl
@[simp] theorem modCard_keys (f) (s : State) : (modCard f s).keys = s.keys := rfl
@[simp] theorem modCard_flash (f) (s : State) : (modCard f s).flash = s.flash := rfl
@[simp] theorem modCard_keeper (f) (s : State) : (modCard f s).keeper = s.keeper := rfl
@[simp] theorem modCard_ints (f) (s : State) : (modCard f s).ints = s.ints := rfl
@[simp] theorem modCard_mpus (f) (s : State) : (modCard f s).mpus = s.mpus := rfl
@[simp] theorem modCard_log (f) (s : State) : (modCard f s).log = s.log := rfl
@[simp] theorem modCard_recorders (f) (s : State) : (modCard f s).recorders = s.recorders := rfl
@[simp] theorem modCard_health (f) (s : State) : (modCard f s).health = s.health := rfl
@[simp] theorem modCard_rf (f) (s : State) : (modCard f s).rf = s.rf := rfl
@[simp] theorem modCard_daymark (f) (s : State) : (modCard f s).daymark = s.daymark := rfl
@[simp] theorem modCard_tick (f) (s : State) : (modCard f s).tick = s.tick := rfl
@[simp] theorem modCard_free (f) (s : State) : (modCard f s).free = s.free := rfl
@[simp] theorem modCard_outs (f) (s : State) : (modCard f s).outs = s.outs := rfl
@[simp] theorem modCard_pending (f) (s : State) : (modCard f s).pending = s.pending := rfl

/-! `modPower` writes only `power`. -/
@[simp] theorem modPower_part (f) (s : State) : (modPower f s).part = s.part := rfl
@[simp] theorem modPower_lifecycle (f) (s : State) : (modPower f s).lifecycle = s.lifecycle := rfl
@[simp] theorem modPower_priorLifecycle (f) (s : State) : (modPower f s).priorLifecycle = s.priorLifecycle := rfl
@[simp] theorem modPower_ownerPort (f) (s : State) : (modPower f s).ownerPort = s.ownerPort := rfl
@[simp] theorem modPower_policy (f) (s : State) : (modPower f s).policy = s.policy := rfl
@[simp] theorem modPower_units (f) (s : State) : (modPower f s).units = s.units := rfl
@[simp] theorem modPower_pwrEvents (f) (s : State) : (modPower f s).pwrEvents = s.pwrEvents := rfl
@[simp] theorem modPower_backup (f) (s : State) : (modPower f s).backup = s.backup := rfl
@[simp] theorem modPower_watch (f) (s : State) : (modPower f s).watch = s.watch := rfl
@[simp] theorem modPower_tap (f) (s : State) : (modPower f s).tap = s.tap := rfl
@[simp] theorem modPower_owner (f) (s : State) : (modPower f s).owner = s.owner := rfl
@[simp] theorem modPower_boot (f) (s : State) : (modPower f s).boot = s.boot := rfl
@[simp] theorem modPower_snap (f) (s : State) : (modPower f s).snap = s.snap := rfl
@[simp] theorem modPower_clocks (f) (s : State) : (modPower f s).clocks = s.clocks := rfl
@[simp] theorem modPower_strap (f) (s : State) : (modPower f s).strap = s.strap := rfl
@[simp] theorem modPower_strapNext (f) (s : State) : (modPower f s).strapNext = s.strapNext := rfl
@[simp] theorem modPower_ports (f) (s : State) : (modPower f s).ports = s.ports := rfl
@[simp] theorem modPower_funcs (f) (s : State) : (modPower f s).funcs = s.funcs := rfl
@[simp] theorem modPower_domains (f) (s : State) : (modPower f s).domains = s.domains := rfl
@[simp] theorem modPower_domCfg (f) (s : State) : (modPower f s).domCfg = s.domCfg := rfl
@[simp] theorem modPower_queues (f) (s : State) : (modPower f s).queues = s.queues := rfl
@[simp] theorem modPower_engine (f) (s : State) : (modPower f s).engine = s.engine := rfl
@[simp] theorem modPower_ops (f) (s : State) : (modPower f s).ops = s.ops := rfl
@[simp] theorem modPower_opSeq (f) (s : State) : (modPower f s).opSeq = s.opSeq := rfl
@[simp] theorem modPower_moor (f) (s : State) : (modPower f s).moor = s.moor := rfl
@[simp] theorem modPower_lanes (f) (s : State) : (modPower f s).lanes = s.lanes := rfl
@[simp] theorem modPower_pipes (f) (s : State) : (modPower f s).pipes = s.pipes := rfl
@[simp] theorem modPower_legacy (f) (s : State) : (modPower f s).legacy = s.legacy := rfl
@[simp] theorem modPower_pairs (f) (s : State) : (modPower f s).pairs = s.pairs := rfl
@[simp] theorem modPower_curves (f) (s : State) : (modPower f s).curves = s.curves := rfl
@[simp] theorem modPower_curveRegs (f) (s : State) : (modPower f s).curveRegs = s.curveRegs := rfl
@[simp] theorem modPower_rng (f) (s : State) : (modPower f s).rng = s.rng := rfl
@[simp] theorem modPower_arb (f) (s : State) : (modPower f s).arb = s.arb := rfl
@[simp] theorem modPower_keys (f) (s : State) : (modPower f s).keys = s.keys := rfl
@[simp] theorem modPower_flash (f) (s : State) : (modPower f s).flash = s.flash := rfl
@[simp] theorem modPower_keeper (f) (s : State) : (modPower f s).keeper = s.keeper := rfl
@[simp] theorem modPower_ints (f) (s : State) : (modPower f s).ints = s.ints := rfl
@[simp] theorem modPower_mpus (f) (s : State) : (modPower f s).mpus = s.mpus := rfl
@[simp] theorem modPower_log (f) (s : State) : (modPower f s).log = s.log := rfl
@[simp] theorem modPower_recorders (f) (s : State) : (modPower f s).recorders = s.recorders := rfl
@[simp] theorem modPower_health (f) (s : State) : (modPower f s).health = s.health := rfl
@[simp] theorem modPower_card (f) (s : State) : (modPower f s).card = s.card := rfl
@[simp] theorem modPower_rf (f) (s : State) : (modPower f s).rf = s.rf := rfl
@[simp] theorem modPower_daymark (f) (s : State) : (modPower f s).daymark = s.daymark := rfl
@[simp] theorem modPower_tick (f) (s : State) : (modPower f s).tick = s.tick := rfl
@[simp] theorem modPower_free (f) (s : State) : (modPower f s).free = s.free := rfl
@[simp] theorem modPower_outs (f) (s : State) : (modPower f s).outs = s.outs := rfl
@[simp] theorem modPower_pending (f) (s : State) : (modPower f s).pending = s.pending := rfl

/-! `modClocks` writes only `clocks`. -/
@[simp] theorem modClocks_part (f) (s : State) : (modClocks f s).part = s.part := rfl
@[simp] theorem modClocks_lifecycle (f) (s : State) : (modClocks f s).lifecycle = s.lifecycle := rfl
@[simp] theorem modClocks_priorLifecycle (f) (s : State) : (modClocks f s).priorLifecycle = s.priorLifecycle := rfl
@[simp] theorem modClocks_ownerPort (f) (s : State) : (modClocks f s).ownerPort = s.ownerPort := rfl
@[simp] theorem modClocks_policy (f) (s : State) : (modClocks f s).policy = s.policy := rfl
@[simp] theorem modClocks_units (f) (s : State) : (modClocks f s).units = s.units := rfl
@[simp] theorem modClocks_power (f) (s : State) : (modClocks f s).power = s.power := rfl
@[simp] theorem modClocks_pwrEvents (f) (s : State) : (modClocks f s).pwrEvents = s.pwrEvents := rfl
@[simp] theorem modClocks_backup (f) (s : State) : (modClocks f s).backup = s.backup := rfl
@[simp] theorem modClocks_watch (f) (s : State) : (modClocks f s).watch = s.watch := rfl
@[simp] theorem modClocks_tap (f) (s : State) : (modClocks f s).tap = s.tap := rfl
@[simp] theorem modClocks_owner (f) (s : State) : (modClocks f s).owner = s.owner := rfl
@[simp] theorem modClocks_boot (f) (s : State) : (modClocks f s).boot = s.boot := rfl
@[simp] theorem modClocks_snap (f) (s : State) : (modClocks f s).snap = s.snap := rfl
@[simp] theorem modClocks_strap (f) (s : State) : (modClocks f s).strap = s.strap := rfl
@[simp] theorem modClocks_strapNext (f) (s : State) : (modClocks f s).strapNext = s.strapNext := rfl
@[simp] theorem modClocks_ports (f) (s : State) : (modClocks f s).ports = s.ports := rfl
@[simp] theorem modClocks_funcs (f) (s : State) : (modClocks f s).funcs = s.funcs := rfl
@[simp] theorem modClocks_domains (f) (s : State) : (modClocks f s).domains = s.domains := rfl
@[simp] theorem modClocks_domCfg (f) (s : State) : (modClocks f s).domCfg = s.domCfg := rfl
@[simp] theorem modClocks_queues (f) (s : State) : (modClocks f s).queues = s.queues := rfl
@[simp] theorem modClocks_engine (f) (s : State) : (modClocks f s).engine = s.engine := rfl
@[simp] theorem modClocks_ops (f) (s : State) : (modClocks f s).ops = s.ops := rfl
@[simp] theorem modClocks_opSeq (f) (s : State) : (modClocks f s).opSeq = s.opSeq := rfl
@[simp] theorem modClocks_moor (f) (s : State) : (modClocks f s).moor = s.moor := rfl
@[simp] theorem modClocks_lanes (f) (s : State) : (modClocks f s).lanes = s.lanes := rfl
@[simp] theorem modClocks_pipes (f) (s : State) : (modClocks f s).pipes = s.pipes := rfl
@[simp] theorem modClocks_legacy (f) (s : State) : (modClocks f s).legacy = s.legacy := rfl
@[simp] theorem modClocks_pairs (f) (s : State) : (modClocks f s).pairs = s.pairs := rfl
@[simp] theorem modClocks_curves (f) (s : State) : (modClocks f s).curves = s.curves := rfl
@[simp] theorem modClocks_curveRegs (f) (s : State) : (modClocks f s).curveRegs = s.curveRegs := rfl
@[simp] theorem modClocks_rng (f) (s : State) : (modClocks f s).rng = s.rng := rfl
@[simp] theorem modClocks_arb (f) (s : State) : (modClocks f s).arb = s.arb := rfl
@[simp] theorem modClocks_keys (f) (s : State) : (modClocks f s).keys = s.keys := rfl
@[simp] theorem modClocks_flash (f) (s : State) : (modClocks f s).flash = s.flash := rfl
@[simp] theorem modClocks_keeper (f) (s : State) : (modClocks f s).keeper = s.keeper := rfl
@[simp] theorem modClocks_ints (f) (s : State) : (modClocks f s).ints = s.ints := rfl
@[simp] theorem modClocks_mpus (f) (s : State) : (modClocks f s).mpus = s.mpus := rfl
@[simp] theorem modClocks_log (f) (s : State) : (modClocks f s).log = s.log := rfl
@[simp] theorem modClocks_recorders (f) (s : State) : (modClocks f s).recorders = s.recorders := rfl
@[simp] theorem modClocks_health (f) (s : State) : (modClocks f s).health = s.health := rfl
@[simp] theorem modClocks_card (f) (s : State) : (modClocks f s).card = s.card := rfl
@[simp] theorem modClocks_rf (f) (s : State) : (modClocks f s).rf = s.rf := rfl
@[simp] theorem modClocks_daymark (f) (s : State) : (modClocks f s).daymark = s.daymark := rfl
@[simp] theorem modClocks_tick (f) (s : State) : (modClocks f s).tick = s.tick := rfl
@[simp] theorem modClocks_free (f) (s : State) : (modClocks f s).free = s.free := rfl
@[simp] theorem modClocks_outs (f) (s : State) : (modClocks f s).outs = s.outs := rfl
@[simp] theorem modClocks_pending (f) (s : State) : (modClocks f s).pending = s.pending := rfl

/-! `modDebug` writes only `tap`. -/
@[simp] theorem modDebug_part (f) (s : State) : (modDebug f s).part = s.part := rfl
@[simp] theorem modDebug_lifecycle (f) (s : State) : (modDebug f s).lifecycle = s.lifecycle := rfl
@[simp] theorem modDebug_priorLifecycle (f) (s : State) : (modDebug f s).priorLifecycle = s.priorLifecycle := rfl
@[simp] theorem modDebug_ownerPort (f) (s : State) : (modDebug f s).ownerPort = s.ownerPort := rfl
@[simp] theorem modDebug_policy (f) (s : State) : (modDebug f s).policy = s.policy := rfl
@[simp] theorem modDebug_units (f) (s : State) : (modDebug f s).units = s.units := rfl
@[simp] theorem modDebug_power (f) (s : State) : (modDebug f s).power = s.power := rfl
@[simp] theorem modDebug_pwrEvents (f) (s : State) : (modDebug f s).pwrEvents = s.pwrEvents := rfl
@[simp] theorem modDebug_backup (f) (s : State) : (modDebug f s).backup = s.backup := rfl
@[simp] theorem modDebug_watch (f) (s : State) : (modDebug f s).watch = s.watch := rfl
@[simp] theorem modDebug_owner (f) (s : State) : (modDebug f s).owner = s.owner := rfl
@[simp] theorem modDebug_boot (f) (s : State) : (modDebug f s).boot = s.boot := rfl
@[simp] theorem modDebug_snap (f) (s : State) : (modDebug f s).snap = s.snap := rfl
@[simp] theorem modDebug_clocks (f) (s : State) : (modDebug f s).clocks = s.clocks := rfl
@[simp] theorem modDebug_strap (f) (s : State) : (modDebug f s).strap = s.strap := rfl
@[simp] theorem modDebug_strapNext (f) (s : State) : (modDebug f s).strapNext = s.strapNext := rfl
@[simp] theorem modDebug_ports (f) (s : State) : (modDebug f s).ports = s.ports := rfl
@[simp] theorem modDebug_funcs (f) (s : State) : (modDebug f s).funcs = s.funcs := rfl
@[simp] theorem modDebug_domains (f) (s : State) : (modDebug f s).domains = s.domains := rfl
@[simp] theorem modDebug_domCfg (f) (s : State) : (modDebug f s).domCfg = s.domCfg := rfl
@[simp] theorem modDebug_queues (f) (s : State) : (modDebug f s).queues = s.queues := rfl
@[simp] theorem modDebug_engine (f) (s : State) : (modDebug f s).engine = s.engine := rfl
@[simp] theorem modDebug_ops (f) (s : State) : (modDebug f s).ops = s.ops := rfl
@[simp] theorem modDebug_opSeq (f) (s : State) : (modDebug f s).opSeq = s.opSeq := rfl
@[simp] theorem modDebug_moor (f) (s : State) : (modDebug f s).moor = s.moor := rfl
@[simp] theorem modDebug_lanes (f) (s : State) : (modDebug f s).lanes = s.lanes := rfl
@[simp] theorem modDebug_pipes (f) (s : State) : (modDebug f s).pipes = s.pipes := rfl
@[simp] theorem modDebug_legacy (f) (s : State) : (modDebug f s).legacy = s.legacy := rfl
@[simp] theorem modDebug_pairs (f) (s : State) : (modDebug f s).pairs = s.pairs := rfl
@[simp] theorem modDebug_curves (f) (s : State) : (modDebug f s).curves = s.curves := rfl
@[simp] theorem modDebug_curveRegs (f) (s : State) : (modDebug f s).curveRegs = s.curveRegs := rfl
@[simp] theorem modDebug_rng (f) (s : State) : (modDebug f s).rng = s.rng := rfl
@[simp] theorem modDebug_arb (f) (s : State) : (modDebug f s).arb = s.arb := rfl
@[simp] theorem modDebug_keys (f) (s : State) : (modDebug f s).keys = s.keys := rfl
@[simp] theorem modDebug_flash (f) (s : State) : (modDebug f s).flash = s.flash := rfl
@[simp] theorem modDebug_keeper (f) (s : State) : (modDebug f s).keeper = s.keeper := rfl
@[simp] theorem modDebug_ints (f) (s : State) : (modDebug f s).ints = s.ints := rfl
@[simp] theorem modDebug_mpus (f) (s : State) : (modDebug f s).mpus = s.mpus := rfl
@[simp] theorem modDebug_log (f) (s : State) : (modDebug f s).log = s.log := rfl
@[simp] theorem modDebug_recorders (f) (s : State) : (modDebug f s).recorders = s.recorders := rfl
@[simp] theorem modDebug_health (f) (s : State) : (modDebug f s).health = s.health := rfl
@[simp] theorem modDebug_card (f) (s : State) : (modDebug f s).card = s.card := rfl
@[simp] theorem modDebug_rf (f) (s : State) : (modDebug f s).rf = s.rf := rfl
@[simp] theorem modDebug_daymark (f) (s : State) : (modDebug f s).daymark = s.daymark := rfl
@[simp] theorem modDebug_tick (f) (s : State) : (modDebug f s).tick = s.tick := rfl
@[simp] theorem modDebug_free (f) (s : State) : (modDebug f s).free = s.free := rfl
@[simp] theorem modDebug_outs (f) (s : State) : (modDebug f s).outs = s.outs := rfl
@[simp] theorem modDebug_pending (f) (s : State) : (modDebug f s).pending = s.pending := rfl
/-! What they write reads back. -/
@[simp] theorem modFlash_flash (f) (s : State) : (modFlash f s).flash = f s.flash := rfl
@[simp] theorem modDay_daymark (f) (s : State) : (modDay f s).daymark = f s.daymark := rfl
@[simp] theorem modRf_rf (f) (s : State) : (modRf f s).rf = f s.rf := rfl
@[simp] theorem modCard_card (f) (s : State) : (modCard f s).card = f s.card := rfl
@[simp] theorem modPower_power (f) (s : State) : (modPower f s).power = f s.power := rfl
@[simp] theorem modClocks_clocks (f) (s : State) : (modClocks f s).clocks = f s.clocks := rfl
@[simp] theorem useFree_free (s : State) : (useFree s).free = s.free + 1 := rfl
@[simp] theorem getUnit_setUnit (u : UnitId) (r : UnitRec) (s : State) : getUnit (setUnit u r s) u = r := by
  simp [getUnit, setUnit]
@[simp] theorem getMpu_setMpu (c : Nat) (x : Mpu) (s : State) : getMpu (setMpu c x s) c = x := by
  simp [getMpu, setMpu]
@[simp] theorem getQueue_setQueue (d q : Nat) (x : Queue) (s : State) : getQueue (setQueue d q x s) d q = x := by
  simp [getQueue, setQueue]

end Sys2Proof.Machine
end

