-- ==== Sys2Proof/WellFormed.lean ====
section
/-! DEFINITION. Which commands a sender can send: the bounds of operands that their types do not give. A command outside
them has its meaning all the same; no rule of spec/ describes it. -/
namespace Sys2Proof
open Machine

/-- A value fits the 8 B register, or the 4 B half of it, that a host writes (R82). -/
def halfFits (h : Half) (v : Nat) : Bool := match h with | .whole => decide (v < 2 ^ 64) | _ => decide (v < 2 ^ 32)

/-- A debug transfer has 1 to 64 words, and 1 for a register (R621). -/
def xferFits (t : DbgTarget) (x : DbgXfer) : Bool :=
  match t, x with
  | .mem _, .read _ => true
  | .mem _, .write ws => decide (1 ≤ ws.length) && decide (ws.length ≤ 64)
  | .core _ _, .read n => n.val == 0
  | .core _ _, .write ws => ws.length == 1

/-- The operands lie within the bounds that their rules give. (Log entry 11: DESIGN CHOICE.) -/
def Instr.wellFormed : Instr → Bool
  | .portBeaconWrite _ h v => halfFits h v
  | .qpSetupWrite _ _ _ h v => halfFits h v
  | .qpDomBeaconWrite _ h v => halfFits h v
  | .registerWideRead t wide => match t with | .keeper _ _ => !wide | _ => true
  | .portLineResult _ line _ => line.length == 64
  | .domainBlockResult _ blk _ => blk.length == 128
  | .doorbellResult _ _ rec _ => rec.length == 16
  | .descriptorFetchResult _ _ data _ => match data with | some b => b.length % 64 == 0 | none => true
  | .parameterBlockResult _ pb _ => decide (pb.length < 65536)
  | .linkTrainingComplete _ rate width _ => rate.val != 0 && [1, 2, 4, 8, 16].contains width.val
  | .l0pRequest _ width => [1, 2, 4, 8, 16].contains width.val
  | .partnerRateChange _ rate => rate.val != 0
  | .seedReady raw => decide (16 ≤ raw.length) && raw.length % 2 == 0
  | .flashCommandDone _ errs => decide (errs < 65536)
  | .poolPageProgramComplete pulses _ => decide (pulses < 256)
  | .healthPublish drift _ _ _ _ => drift.length == 10
  | .cardAtrReceived b _ => decide (b.length ≤ 33)
  | .cardBlockReceived blk _ => decide (blk.length ≤ 259)
  | .cardIfsResponse blk _ => decide (blk.length ≤ 259)
  | .writePage _ data => data.length == 256
  | .dbgAccess t x => xferFits t x
  | .certLoad cert => cert.length == 5488
  | _ => true

end Sys2Proof
end

