-- ==== Sys2Proof/Tests/Slice0.lean ====
section
/-! SUPPORT. The model's own tests: ill-formed commands, worked examples of spec/, and a witness for each statement. -/
namespace Sys2Proof.Tests
open Machine

/-! ## Ill-formed commands, one for each check -/

theorem test_wf_portBeacon : (Instr.portBeaconWrite 0 .lo (2 ^ 32)).wellFormed = false := by decide
theorem test_wf_qpSetup : (Instr.qpSetupWrite 0 0 .sqBase .whole (2 ^ 64)).wellFormed = false := by decide
theorem test_wf_qpDomBeacon : (Instr.qpDomBeaconWrite 0 .hi (2 ^ 32)).wellFormed = false := by decide
theorem test_wf_wideRead : (Instr.registerWideRead (.keeper 0 0) true).wellFormed = false := by decide
theorem test_wf_portLine : (Instr.portLineResult 0 [] 0).wellFormed = false := by decide
theorem test_wf_domainBlock : (Instr.domainBlockResult 0 [] 0).wellFormed = false := by decide
theorem test_wf_doorbell : (Instr.doorbellResult 0 0 [0] 0).wellFormed = false := by decide
theorem test_wf_descriptorFetch : (Instr.descriptorFetchResult 0 0 (some [0]) 0).wellFormed = false := by decide
theorem test_wf_parameterBlock (pb : Bytes) (h : pb.length = 65536) : (Instr.parameterBlockResult 0 pb 0).wellFormed = false := by
  simp [Instr.wellFormed, h]
theorem test_wf_linkTraining : (Instr.linkTrainingComplete 0 6 3 false).wellFormed = false := by decide
theorem test_wf_l0pRequest : (Instr.l0pRequest 0 5).wellFormed = false := by decide
theorem test_wf_partnerRate : (Instr.partnerRateChange 0 0).wellFormed = false := by decide
theorem test_wf_seedReady : (Instr.seedReady []).wellFormed = false := by decide
theorem test_wf_flashCommandDone : (Instr.flashCommandDone true 65536).wellFormed = false := by decide
theorem test_wf_poolPage : (Instr.poolPageProgramComplete 256 true).wellFormed = false := by decide
theorem test_wf_healthPublish : (Instr.healthPublish [] 0 0 0 0).wellFormed = false := by decide
theorem test_wf_cardAtr : (Instr.cardAtrReceived (List.replicate 34 0) true).wellFormed = false := by decide
theorem test_wf_cardBlock (b : Bytes) (h : b.length = 260) : (Instr.cardBlockReceived b true).wellFormed = false := by
  simp [Instr.wellFormed, h]
theorem test_wf_cardIfs (b : Bytes) (h : b.length = 260) : (Instr.cardIfsResponse b true).wellFormed = false := by
  simp [Instr.wellFormed, h]
theorem test_wf_writePage : (Instr.writePage 0 [0]).wellFormed = false := by decide
theorem test_wf_dbgAccess : (Instr.dbgAccess (.mem 0) (.write [])).wellFormed = false := by decide
theorem test_wf_certLoad : (Instr.certLoad [0]).wellFormed = false := by decide
theorem test_wf_accepts : (Instr.portBeaconWrite 0 .lo 64).wellFormed = true := by decide

/-! ## Worked examples of the spec -/

/-- 02_package_power.md, R37: band 1 of a G1640 runs lanes 0 of tiles 0–3 and lanes 1 of tiles 0 and 1. -/
theorem test_allotment_band1 :
    let s : State := {
      power := { band := 1, governed := true, phase := .ready }
      units := (List.range 16).map fun i => (17000 + i, { en := true, st := .on }) }
    allottedLanes s = [0, 4, 8, 12, 1, 5] := by decide

/-- 15_flash.md, after R375: the unlock, command and address writes leave FLC_STATUS.SEQ at 1, 2, 3 and 4. -/
theorem test_flash_sequence :
    let s : State := { power := { phase := .ready } }
    let a := ran s (execFlcUnlockWrite 0xA5C30F96 s)
    let b := ran a (execFlcUnlockWrite 0x5A3CF069 a)
    let c := ran b (execFlcCmdWrite 1 b)
    let d := ran c (execFlcAddrWrite 0x012C0A00 c)
    (a.flash.seq, b.flash.seq, c.flash.seq, d.flash.seq) = (1, 2, 3, 4) := by decide

/-- 19_interrupts_mpu.md, step 2 of the example: source 6 taken in ring 1 code is CAUSE 0x0000_0601. -/
theorem test_cause_of_source6 : (causeWord ⟨1, 6, none⟩) = 0x00000601 := by decide

/-- No row of the opcode table gives bits, so no table word spells a command. -/
theorem test_no_table_word : decodeTableWord 0 0 = none := rfl

/-! ## Witnesses of the statements -/

theorem witness_UnitCommandsMoveUnits :
    let s (st : UnitState) : State := { power := { phase := .ready }, units := [(17202, { en := true, st := st })] }
    (unitPresent (s .on) (.pipe 2) = true ∧ unitClock (s .on) (.pipe 2) = true ∧ (getUnit (s .faulted) (.pipe 2)).st = .faulted ∧
      (getUnit (s .starting) (.pipe 2)).st = .starting ∧ (getUnit (s .draining) (.pipe 2)).st = .draining ∧
      unitIdle (s .draining) (.pipe 2) = true) ∧ unitPresent (s .on) .rf = true ∧
      unitClock (s .on) .rf = true ∧ kprRuns (s .on) = true ∧ unitSt (s .on) .card ≠ .faulted := by
  decide

theorem witness_PolicyAndRegisterWrites :
    let s : State := {
      power := { phase := .ready }, units := [(17313, { en := true, st := .on })], ports := [(0, { linkUp := true })] }
    let b : State := {
      power := { phase := .ready }
      ops := [{ tag := 0, dom := 0, q := 0, idx := 0, desc := [], bank := 1, epoch := 0, seqNo := 0 }] }
    policyRuns s = true ∧ commitBusy s = false ∧ policyRuns b = true ∧ commitBusy b = true ∧ kprRuns s = true ∧
      (coreUnit s 3).st = .on ∧ s.clocks.resetCause < 2 ^ 13 ∧ s.log.nextSeq < 2 ^ 64 ∧ dpRuns s = true ∧
      portUp s (domPort 63) = true ∧ barAnswers s 63 = true ∧ mget 0 (getFunc s 63).msgData 64 < 2 ^ 32 ∧
      absentReg .g0810 0x12000C = true ∧ nbit 1 0 = true := by decide

theorem witness_PowerStopsAndStarts :
    let run : State := { power := { phase := .ready, vinMv := 4199, clampMs := 100 } }
    let wait : State := { power := { phase := .backupOnly, vinMv := 4500, switchClosed := false, stopped := true } }
    (run.power.phase ≠ .backupOnly ∧ run.power.phase ≠ .stopping ∧ run.power.vinMv < 4200 ∧ 100 ≤ run.power.clampMs ∧
      120 * 16 ≤ (1920#16).toInt) ∧
    (wait.power.phase = .backupOnly ∧ 4500 ≤ wait.power.vinMv ∧ wait.power.vinMv ≤ 18000 ∧
      wait.power.thermalWait = false ∧ wait.power.thermalHold = false ∧ (1440#16).toInt ≤ 90 * 16) ∧
    { wait.power with phase := Phase.stopping }.phase = .stopping ∧
    { wait.power with thermalWait := true }.thermalWait = true := by decide

theorem witness_GovernorFollowsSupply :
    let s : State := { power := { phase := .ready, vinMv := 5999, band := 1, iinMa := 8501, governed := true } }
    let u : State := { power := {
      phase := .ready, vinMv := 11000, band := 4, iinMa := 8000, stretch := true, holdupLow := true, capUf := 1300 } }
    (s.power.phase ≠ .backupOnly ∧ s.power.phase ≠ .stopping ∧ 0 < s.power.band ∧ s.power.vinMv < 6000 ∧
      s.power.vinMv < 10800 ∧ 8500 < s.power.iinMa ∧ s.power.stretch = false ∧ s.power.clampActive = false ∧
      s.power.governed = true ∧ s.power.throttle = false ∧ 105 * 16 ≤ (1680#16).toInt ∧ s.power.phase = .ready ∧
      (4699#16).toNat < 4700 ∧ s.power.holdupLow = false) ∧
    (u.power.phase = .ready ∧ u.power.band < 5 ∧ 10800 + 200 ≤ u.power.vinMv ∧ u.power.stretch = true ∧
      u.power.iinMa ≤ 8000 ∧ u.power.holdupLow = true ∧ 4700 ≤ (4700#16).toNat ∧ 1300 ≤ u.power.capUf) := by decide

theorem witness_StartReachesReady :
    let at_ (p : Phase) : State := {
      power := { phase := p }, units := [(17301, { en := true, st := .on })], flash := { scanned := true } }
    (at_ (.booting 2)).power.phase = .booting 2 ∧ (at_ (.booting 3)).power.phase = .booting 3 ∧
    (at_ (.booting 2)).tap.extest = false ∧ kprRuns (at_ (.booting 4)) = true ∧
    kprRuns (at_ (.booting 6)) = true ∧ kprRuns (at_ (.booting 9)) = true ∧ (at_ (.booting 4)).power.phase = .booting 4 ∧
    (at_ (.booting 6)).power.phase = .booting 6 ∧ unitSt (at_ (.booting 6)) .rng = .on ∧
    (at_ (.booting 6)).flash.scanned = true ∧ (at_ (.booting 9)).power.phase = .booting 9 ∧ 4700 ≤ (4700#16).toNat := by
  decide

set_option maxRecDepth 4000 in
theorem witness_ClocksAndTicks :
    let s : State := {
      power := { phase := .ready }, clocks := { portClk := 2, pllDram := true }, strap := 1
      units := [(17303, { en := true, st := .on })], ports := [(1, { linkUp := true })] }
    clockRuns s .xtal25 = true ∧ clockRuns s .xtal32k = true ∧ clockRuns s .pllDram = true ∧ clockRuns s .xtal27m = true ∧
      clockRuns s (.port 1) = true ∧ (getPort s 1).linkUp = true ∧ passed s 8 = true ∧ stackWanted s = false ∧
      dpRuns s = true := by decide

theorem witness_BootCounterNeverWraps :
    let s (n k : Nat) : State := { power := { phase := .booting n }, backup := { bootCount := k } }
    (s 2 0).power.phase = .booting 2 ∧ (s 3 0).power.phase = .booting 3 ∧ (s 2 0).tap.extest = false ∧
      (s 2 (2 ^ 32 - 2)).backup.bootCount < 2 ^ 32 - 1 ∧ (s 3 (2 ^ 32 - 1)).backup.bootCount = 2 ^ 32 - 1 := by decide

theorem witness_LinksTrainAndChange :
    let s (up : Bool) : State := {
      power := { phase := .ready }, clocks := { portClk := 1 }
      ports := [(0, { linkUp := up, flit := true, negWidth := 16, l1Enabled := true })] }
    portPresent (s false) 0 = true ∧ (getPort (s false) 0).linkUp = false ∧ (getPort (s false) 0).perst = false ∧
      nbit (s false).clocks.portClk 0 = true ∧ passed (s false) 4 = true ∧ 6 ≤ rateLimit (s false) 0 ∧
      widthOk (s false) 0 16 = true ∧ (getPort (s true) 0).linkUp = true ∧ (getPort (s true) 0).flit = true ∧
      16 ≤ (getPort (s true) 0).negWidth ∧ (getPort (s true) 0).l1Enabled = true ∧
      (∀ o ∈ (s true).ops, domPort o.dom ≠ 0) ∧ portUp (s true) 0 = true ∧ passed (s true) 9 = true ∧
      fnPresent (s true) 0 (cfgFn (.power 1 true)) = false ∧ fnPresent (s true) 0 (cfgFn .plain) = true ∧
      passed { s true with power := { phase := .booting 8 } } 9 = false ∧ (s true).lifecycle = .factory ∧
      logRefusal (s true) = none := by decide

theorem witness_PortLossesAndErrors :
    let o : Op := { tag := 7, dom := 65, q := 0, idx := 0, desc := [], bank := 0, epoch := 0, seqNo := 0, stage := .waitPb }
    let p : Op := { o with tag := 8, stage := .dispatched, unit := some (.lane 3) }
    let s : State := {
      power := { phase := .ready }, ports := [(0, { linkUp := true }), (1, { linkUp := true, numVfs := 3, vfEnable := true })]
      strap := 1, ops := [o, p], funcs := [(65, { msixEn := true, fnMask := true, unmasked := 2 ^ 64, pba := 2 ^ 64 })] }
    (portPresent s 0 = true ∧ (getPort s 0).linkUp = true ∧ (getPort s 0).perst = false) ∧
    (portUp s (domPort 65) = true ∧ domFn 65 ≠ 0 ∧ 3 ≤ (getPort s 1).numVfs) ∧
    (findLive s 7 = some o ∧ o.stage = .waitPb ∧ needsScrub o = false ∧ plain o ∧ heldByOrder s o = false ∧
      noneHeld s = true) ∧
    (findLive s 8 = some p ∧ waitsData p = true ∧ needsScrub p = true) ∧
    (dpRuns s = true ∧ (getFunc s 65).msixEn = true ∧ (getFunc s 65).pba = 2 ^ 64 ∧
      nbit (getFunc s 65).unmasked 64 = true) := by
  simp only [plain]
  decide

set_option maxRecDepth 4000 in
theorem witness_AdminDescriptorsAreChecked :
    let desc : Bytes := 0x81 :: 0 :: (zeros 36 ++ 1 :: zeros 25)
    let s : State := {
      power := { phase := .ready }, ports := [(3, { linkUp := true })]
      units := [(255, { en := true, st := .on }), (256 + 255 * 65 + 64, { en := true, st := .on })]
      engine := { handoff := [{ dom := 0, idx := 1, desc := [] }, { dom := 255, idx := 63, desc := desc }] } }
    let c : AdminCmd := { dom := 255, idx := 63, desc := desc, ready := true }
    let u : State := { s with engine := { serving := [{ c with done := true }] } }
    let v : State := { s with engine := { serving := [c] } }
    let w : State := { s with engine := { serving := [{ c with done := true, lost := true }] } }
    let blk : Bytes := 0x80 :: 0 :: (zeros 10 ++ le 2 16 ++ zeros 2 ++ le 8 64 ++ le 8 64 ++ zeros 8 ++ le 4 113 ++ le 4 257 ++ zeros 16)
    let y : State := { s with engine := { handoff := [{ dom := 255, idx := 63, desc := blk }] } }
    (kprRuns s = true ∧ servingOf s 255 = none ∧ adminServed s 255 = true ∧
      (s.engine.handoff.find? fun r => r.dom == 255) = some { dom := 255, idx := 63, desc := desc } ∧
      adminCheck desc = 0) ∧
    ((y.engine.handoff.find? fun r => r.dom == 255) = some { dom := 255, idx := 63, desc := blk } ∧
      servingOf y 255 = none ∧ adminServed y 255 = true ∧ dOpcode blk = 0x80 ∧ adminCheck blk = 0 ∧ dInLen blk ≠ 0) ∧
    (servingOf u 255 = some { c with done := true } ∧ recordsPending u.flash = false ∧ portUp u (domPort 255) = true) ∧
    (servingOf w 255 = some { c with done := true, lost := true } ∧ recordsPending w.flash = false ∧ kprRuns w = true) ∧
    (cmdReady v 255 0x81 0 c ∧ aTarget c.desc = 0) := by
  simp only [cmdReady]; decide

set_option maxRecDepth 8000 in
theorem witness_SessionsOpenAndExpire :
    let d0 : Bytes := 0x80 :: 0 :: (zeros 42 ++ le 4 5584 ++ zeros 16)
    let d1 : Bytes := 0x80 :: 1 :: zeros 62
    let d2 : Bytes := 0x80 :: 2 :: (zeros 42 ++ le 4 5584 ++ zeros 16)
    let x : Challenge := { bytes := [], method := 0, credential := 0, hostPub := [], devPub := [], secret := [] }
    let ss : Session := { method := 0, credential := 0, kMac := [], kPw := [], lastTick := 0 }
    let c0 : AdminCmd := { dom := 255, idx := 0, desc := d0, pb := zeros 8, input := zeros 97, ready := true }
    let pub : Bytes := 4 :: (be 48 p384.gx ++ be 48 p384.gy)
    let c3 : AdminCmd := { dom := 255, idx := 0, desc := d0, pb := zeros 8, input := pub, ready := true }
    let c1 : AdminCmd := { dom := 255, idx := 0, desc := d1, pb := zeros 8, input := zeros 97, ready := true }
    let c2 : AdminCmd := { dom := 255, idx := 0, desc := d2, ready := true }
    let s (c : AdminCmd) : State := { power := { phase := .ready }, engine := { serving := [c] } }
    let a : State := { s c1 with domains := [(255, { challenge := some x })] }
    let l : State := { s c0 with backup := { locks := [(255, { locked := true, left := 0, fails := 10 })] } }
    let l1 : State := { l with engine := { serving := [c1] } }
    let i : State := { power := { phase := .ready }, domains := [(255, { session := some ss })], tick := 900000 }
    (cmdReady (s c3) 255 0x80 0 c3 ∧ openRefusal (s c3) c3 0 = none ∧ c3.input.length = 97 ∧
      ecPubOk p384 c3.input = true ∧ 257 ≤ dOutLen c3.desc ∧ drawWaits (s c3) = false) ∧
    (cmdReady (s c0) 255 0x80 0 c0 ∧ openRefusal (s c0) c0 0 = none ∧ ecPubOk p384 c0.input = false) ∧
    (cmdReady a 255 0x80 1 c1 ∧ openRefusal a c1 1 = none ∧ challengeFor a c1 = some x) ∧
    (cmdReady (s c1) 255 0x80 1 c1 ∧ openRefusal (s c1) c1 1 = none ∧ challengeFor (s c1) c1 = none) ∧
    (lockedOut l 255 = true ∧ cmdReady l 255 0x80 0 c0 ∧ cmdReady l1 255 0x80 1 c1 ∧ lockedOut l1 255 = true) ∧
    (cmdReady (s c2) 255 0x80 2 c2 ∧ aTarget c2.desc = 0 ∧ 5584 ≤ dOutLen c2.desc) ∧
    (kprRuns i = true ∧ (getDom i 255).session = some ss ∧ ss.lastTick + 900000 ≤ i.tick) ∧
    ((getLock l 255).locked = true ∧ (getLock l 255).left = 0) := by
  simp only [cmdReady]; decide

set_option maxRecDepth 8000 in
theorem witness_PolicyCommandsTakeEffect :
    let desc (sub tgt : Nat) : Bytes := 0x8F :: le 1 sub ++ zeros 6 ++ le 4 tgt ++ zeros 32 ++ le 4 64 ++ zeros 16
    let cmd (sub tgt : Nat) (pb : Bytes) : AdminCmd := {
      dom := 128, idx := 0, desc := desc sub tgt, pb := pb, ready := true, owner := true }
    let st (c : AdminCmd) : State := {
      part := .g1640, lifecycle := .operational, power := { phase := .ready }, ownerPort := 2, strap := 3, engine := { serving := [c] } }
    let c1 := cmd 0x01 (2 ^ 32 - 1) []
    let c2 := cmd 0x02 255 (le 8 0xFFF)
    let c4 := cmd 0x04 191 []
    let c5 := cmd 0x05 (2 ^ 32 - 1) (le 8 1)
    let c6 := cmd 0x04 (2 ^ 32 - 1) []
    let c3 := cmd 0x03 0 []
    let c9 : AdminCmd := { cmd 0 64 (le 24 (31 + 255 * 256 + 2 ^ 16 * 4096 + 2 ^ 32 * 4096)) with
      desc := 0x91 :: (zeros 7 ++ le 4 64 ++ zeros 52) }
    let c7 := cmd 0x44 (2 ^ 32 - 1) (15 :: 0 :: 0 :: 0 :: 1 :: zeros 91)
    let w : AdminCmd := { c3 with ready := false, waiting := true }
    let q (s : State) : Prop := logRefusal s = none ∧ commitBusy s = false
    (cmdReady (st c1) 128 0x8F 0x01 c1 ∧ deviceWide (st c1) c1 true = none ∧
      deviceWide { st c1 with lifecycle := .commissioned } c1 true = none ∧
      logRefusal { st c1 with lifecycle := .commissioned } = none) ∧
    (cmdReady (st c2) 128 0x8F 0x02 c2 ∧ permsRefusal (st c2) c2 = none ∧ q (st c2)) ∧
    (cmdReady (st c9) 128 0x91 0 c9 ∧ shareRefusal (st c9) c9 = none ∧ q (st c9)) ∧
    (cmdReady (st c5) 128 0x8F 0x05 c5 ∧
      deviceWide (st c5) c5 (c5.pb.length == 8 && byteAt c5.pb 0 ≤ 1 && allZero (c5.pb.drop 1)) = none) ∧
    (cmdReady (st c4) 128 0x8F 0x04 c4 ∧ onDomain (st c4) c4 true = none ∧ cmdReady (st c6) 128 0x8F 0x04 c6 ∧
      ownerScope (st c6) c6 = true) ∧
    (cmdReady (st c3) 128 0x8F 0x03 c3 ∧ domTargetOk (st c3) 0 = true ∧ ownerScope (st c3) c3 = true ∧
      (getDomUnit (st c3) 0).st = .off ∧ quorumKey (st c3) 0 = false) ∧
    (servingOf (st w) 128 = some w ∧ commitBusy (st w) = false ∧ policyRuns (st w) = true) ∧
    (cmdReady { st c7 with lifecycle := .factory } 128 0x8F 0x44 c7 ∧
      factoryOrOwner { st c7 with lifecycle := .factory } c7 (pwBodyOk c7.pb) = none ∧
      factoryOrOwner (st c7) c7 (pwBodyOk c7.pb) = none ∧ drawWaits (st c7) = false) := by
  dsimp only; simp only [cmdReady]; (repeat' apply And.intro) <;> decide

theorem witness_QueueSetupWrites :
    let s : State := { power := { phase := .ready }, ports := [(2, { linkUp := true })] }
    let u : State := { s with units := [(256 + 191 * 65 + 64, { en := true, st := .on })] }
    dpRuns s = true ∧ portUp s (domPort 191) = true ∧ (getQueueUnit s 191 64).st = .off ∧
      (setupField (getQueue s 191 64) .sqBase .hi (2 ^ 32 - 1)).2.1 ≠
        (setupField (getQueue s 191 64) .sqBase .hi (2 ^ 32 - 1)).2.2 ∧ logRefusal s = none ∧
      portUp u (domPort 191) = true ∧ (getQueueUnit u 191 64).st ≠ .off ∧ dpRuns u = true ∧
      portPresent s 2 = true ∧ portUp s 2 = true := by decide

set_option maxRecDepth 4000 in
theorem witness_PollingFollowsBeacons :
    let s : State := {
      power := { phase := .ready }
      ports := [(0, { linkUp := true, beaconEn := true, beaconAddr := 64, lineReads := [⟨0, false⟩] }),
        (1, { linkUp := true, lineReads := [⟨0, true⟩] })]
      units := [(3, { en := true, st := .on }), (256 + 3 * 65 + 5, { en := true, st := .on })]
      queues := [(200, { recheckDue := true, timerOn := true, irqEn := true, dbFails := 15, fetchPtr := 2 })]
      funcs := [(3, { msixEn := true, unmasked := 2 ^ 6, domBeacon := 128 })]
      engine := {
        blockReads := [⟨3, 0, 0, true⟩], dbReads := [⟨3, 5, .recheck⟩], fetches := [⟨3, 5, 63, 1, false⟩] } }
    let u : State := { s with engine := { blockReads := [⟨3, 0, 7, false⟩], fetches := [⟨3, 64, 0, 1, false⟩] } }
    ((getPort s 0).linkUp = true ∧ (getPort s 0).beaconEn = true ∧ (getPort s 0).beaconAddr ≠ 0 ∧
      (getPort s 0).lineReads = [⟨(getPort s 0).gen, false⟩] ∧ (getPort s 1).lineReads = [⟨(getPort s 1).gen, true⟩]) ∧
    (s.engine.blockReads = [⟨3, 0, 0, true⟩] ∧ s.engine.dbReads = [⟨3, 5, .recheck⟩] ∧
      dbStale s ⟨3, 5, .recheck⟩ = false ∧ 2 ^ (getQueue s 3 5).sqLog2 ≤ leAt [64, 0] 0 2 ∧
      (getQueueUnit s 3 5).st ≠ .faulted ∧ leAt [63, 0] 0 2 < 2 ^ (getQueue s 3 5).sqLog2 ∧
      leAt [63, 0] 0 2 ≠ (getQueue s 3 5).fetchPtr ∧ leAt [2, 0, 0] 0 2 = (getQueue s 3 5).fetchPtr ∧
      byteAt [2, 0, 0] 2 = (getQueue s 3 5).seenSeq ∧ (getQueue s 3 5).rechecks < 4) ∧
    ((getQueue s 3 5).recheckDue = true ∧ polled s 3 5 = true ∧ (getPort s (domPort 3)).linkUp = true ∧
      (getQueue s 3 5).dbFails = 15) ∧
    (s.engine.fetches = [⟨3, 5, 63, 1, false⟩] ∧ (getQueue s 3 5).fetched = [] ∧ dpRuns s = true ∧ dpRuns u = true) ∧
    (u.engine.blockReads = [⟨3, (getPort u (domPort 3)).gen, 7, false⟩] ∧ domOn u 3 = true ∧
      u.engine.fetches = [⟨3, 64, 0, 1, false⟩]) ∧
    ((getQueue s 3 5).timerOn = true ∧ (getQueue s 3 5).irqEn = true ∧ (getFunc s 3).msixEn = true ∧
      (getFunc s 3).fnMask = false ∧ nbit (getFunc s 3).unmasked 6 = true) := by decide

set_option maxRecDepth 8000 in
theorem witness_AdmissionFollowsItsRules :
    let bad : Bytes := 0x09 :: zeros 63
    let fence : Bytes := 0x31 :: 0 :: 4 :: zeros 61
    let rng : Bytes := 0x30 :: (zeros 23 ++ le 8 64 ++ zeros 12 ++ le 4 8 ++ zeros 16)
    let ciph : Bytes := 4 :: 1 :: (zeros 2 ++ le 4 (2 ^ 31 + 9) ++ zeros 8 ++ le 8 64 ++ le 8 64 ++ zeros 8 ++ le 4 16 ++
      le 4 16 ++ zeros 4 ++ le 2 32 ++ zeros 2 ++ le 8 4096)
    let sl : Bytes := 1 :: (zeros 3 ++ le 4 (2 ^ 22 + 77) ++ zeros 8 ++ le 8 64 ++ le 8 64 ++ zeros 8 ++ le 4 16 ++
      le 4 32 ++ zeros 16)
    let s (desc : Bytes) : State := {
      power := { phase := .ready }
      clocks := { pllDram := true }
      ports := [(3, { linkUp := true })]
      units := [(255, { en := true, st := .on }), (256 + 255 * 65 + 63, { en := true, st := .on }),
        (17301, { en := true, st := .on })]
      policy := { bank0 := { shares := [(192, { perms := 0xFFF }), (255, { perms := 0xFFF })] } }
      queues := [(255 * 65 + 63, { fetched := [{ idx := 5, desc := desc }] })]
      keys := { slots := [(9, { st := .active, imaged := true, owner := 255, kind := 1, policy := [2, 0, 0, 0, 1] })] }
      moor := { slots := [(77, { state := .active, alg := 3, tagLen := 16, owner := 255 })] } }
    let hd (s : State) (desc : Bytes) : Prop :=
      dpRuns s = true ∧ queueOn s 255 63 = true ∧ domOn s 255 = true ∧ queueBlocked s 255 63 = false ∧
      (getQueue s 255 63).fetched = [{ idx := 5, desc := desc }]
    let fr (s : State) (desc : Bytes) : Prop :=
      formatCheck desc = 0 ∧ mayAdmit s 255 = true ∧ s.ops = [] ∧ keyNotImaged s desc = false
    let full : State := { s fence with policy := { bank0 := { shares := [(255, { quota := 0 })] } } }
    let off : State := { s rng with units := (s rng).units.take 2 }
    let o0 : Op := { tag := 0, dom := 255, q := 63, idx := 5, desc := sl, bank := 0, epoch := 0, seqNo := 0 }
    let c : State := { s sl with moor := { (s sl).moor with sets := [(77, [{ idx := 77, dirty := false }])] } }
    let w : State := { s sl with
      ops := [{ o0 with stage := .waitFill 0 }], moor := { (s sl).moor with fills := [77] } }
    let n : State := { s sl with moor := { (s sl).moor with fills := List.range' 1000 128 } }
    let pbS : State := { s ciph with ops := [{ o0 with desc := ciph, stage := .waitPb }] }
    let pb : Bytes := 4 :: 1 :: 24 :: (zeros 5 ++ 16 :: zeros 23)
    (hd (s bad) bad ∧ formatCheck bad ≠ 0 ∧ portUp (s bad) (domPort 255) = true) ∧
    (hd full fence ∧ formatCheck fence = 0 ∧ mayAdmit full 255 = false) ∧
    (hd off rng ∧ fr off rng ∧ refIsHandle rng = false ∧
      earlyStatus off off.policy.active 255 rng = some stNoEntropy) ∧
    (hd (s fence) fence ∧ fr (s fence) fence ∧ dOpcode fence = 0x31) ∧
    (hd (s ciph) ciph ∧ fr (s ciph) ciph ∧ earlyStatus (s ciph) 0 255 ciph = none ∧
      keyResolve (s ciph) 255 (dRef ciph) = none ∧ keyPolicy (s ciph) ciph = none) ∧
    (hd c sl ∧ fr c sl ∧ earlyStatus c 0 255 sl = none ∧ heldByRekey c sl = false ∧
      dRef sl % 2 ^ 22 < mooringCount c.part ∧ stageCheck c o0 (dRef sl) 0 = none ∧
      (getMoor c (dRef sl % 2 ^ 22)).alg < 16 ∧ cached c 77 = true) ∧
    (hd (s sl) sl ∧ fr (s sl) sl ∧ stageCheck (s sl) o0 (dRef sl) 0 = none ∧
      cached (s sl) 77 = false ∧ fillCan (s sl) 77 = true) ∧
    (hd n sl ∧ fr n sl ∧ stageCheck n o0 (dRef sl) 0 = none ∧ cached n 77 = false ∧ fillCan n 77 = false) ∧
    (dramRuns w = true ∧ w.moor.fills.contains 77 = true ∧ badLines [.ok, .corrected] = [] ∧ dRef sl % 2 ^ 22 = 77 ∧ dPbLen sl = 0 ∧
      stageCheck w { o0 with stage := .waitFill 0 } (dRef sl) 0 = none) ∧
    ((badLines [.ok, .mac]).any (fun p => p.1 == 0) = false ∧ badLines [.ok, .mac] ≠ [] ∧
      (getMoor w 77).state = .active) ∧
    (pbHeaderOk 4 32 (slice [] 0 32) = false ∧ heldByOrder pbS { o0 with desc := ciph, stage := .waitPb } = false ∧
      pbHeaderOk 4 32 (slice pb 0 32) = true ∧ cipherBad ciph (slice pb 0 32) = 0 ∧
      cipherNeed ciph (slice pb 0 32) ≤ dOutLen ciph) := by
  dsimp only; (repeat' apply And.intro) <;> decide

set_option maxRecDepth 8000 in
theorem witness_MooringCommandsActOnTheirSlot :
    let o (desc : Bytes) (st : Stage) : Op := {
      tag := 4095, dom := 255, q := 63, idx := 5, desc := desc, bank := 0, epoch := 0, seqNo := 3, stage := st }
    let s (x : Op) : State := {
      power := { phase := .ready }, ops := [x], units := [(17301, { en := true, st := .on })], ports := [(3, { linkUp := true })]
      domCfg := [(255, { moorAllow := some 1 })]
      moor := { slots := [(4194303, { state := .active, owner := 255, gen := 1022 })] } }
    let s' (x : Op) : State := { s x with domCfg := [(255, { moorAllow := some 2 })] }
    let h : Bytes := [0xFF, 0xFF, 0x3F, 0x00]
    let u := o (0x12 :: (zeros 3 ++ h ++ zeros 56)) .draining
    let us : State := { s { u with moored := true } with
      moor := { slots := [(4194303, { state := .active, owner := 255, gen := 1023, unmooring := true })] } }
    let q := { o (0x13 :: (zeros 3 ++ h ++ zeros 56)) .running with out := [1] }
    let w := o (0x13 :: 1 :: zeros 62) .running
    let f := o (0x31 :: 0 :: 4 :: zeros 61) .running
    let g : Op := { f with stage := .draining }
    let u0 : State := s { u with stage := .running }
    let us0 : State := { us with ops := [] }
    let f0 : State := s (o (0x31 :: zeros 63) .running)
    let m := o (0x10 :: zeros 63) .running
    let k := o (0x11 :: (zeros 3 ++ h ++ zeros 56)) .running
    (findOp (s' m) 4095 = some m ∧ dOpcode m.desc = 0x10 ∧ noneHeld (s' m) = true ∧ rngOn (s' m) = true ∧
      moorHeld (s' m) 255 < moorAllow (s' m) 255 ∧ dpRuns (s' m) = true ∧
      takeFree (s' m) = some (0, { s' m with moor := { (s' m).moor with nextFresh := 1 } })) ∧
    (findOp (s k) 4095 = some k ∧ dOpcode k.desc = 0x11 ∧ heldByOrder (s k) k = false) ∧
    (releaseReady us0 4194303 = true ∧ unmoorOp us0 4194303 = none) ∧
    (releaseReady us 4194303 = true ∧ unmoorOp us 4194303 = some { u with moored := true } ∧
      (getMoor us 4194303).wasPoisoned = false) ∧
    (findOp (s q) 4095 = some q ∧ dOpcode q.desc = 0x13 ∧ dAlg q.desc = 0 ∧ q.out ≠ [] ∧ dAlg w.desc = 1 ∧
      findOp (s w) 4095 = some w) ∧
    (findOp (s f) 4095 = some f ∧ dOpcode f.desc = 0x31 ∧ ((s f).ops.map Op.tag).Nodup ∧
      findOp f0 4095 = some (o (0x31 :: zeros 63) .running)) ∧
    (dOpcode u.desc = 0x12 ∧ findOp u0 4095 = some { u with stage := .running }) ∧
    (findOp (s g) 4095 = some g ∧
      ((s g).ops.any fun p => p.dom == g.dom && p.q == g.q && decide (p.seqNo < g.seqNo)) = false) := by
  dsimp only; (repeat' apply And.intro) <;> decide

set_option maxRecDepth 4000 in
theorem witness_LaneOpcodesCompute :
    let o (n : Nat) : Op := {
      tag := 4095, dom := 255, q := 63, idx := 5, desc := BitVec.ofNat 8 n :: zeros 63, bank := 0, epoch := 0, seqNo := 3
      stage := .running, unit := some (.lane 15) }
    let s (x : Op) : State := { power := { phase := .ready }, ops := [x] }
    let a1 : State := s (o 1)
    let a2 : State := s { o 2 with input := zeros 40, laneKey := { a := zeros 16, b := zeros 16 } }
    let a3 : State := s (o 3)
    let a4 : State := s (o 4)
    let a8 : State := s (o 8)
    let r (s : State) (n : Nat) : Prop := dpRuns s = true ∧ (∃ x ∈ s.ops, findOp s 4095 = some x ∧ x.stage = .running ∧
      dOpcode x.desc = n ∧ laneOf x = some 15)
    r a1 1 ∧ r a2 2 ∧ r a3 3 ∧ r a4 4 ∧ r a8 8 := by decide

set_option maxRecDepth 8000 in
theorem witness_LanesCarryMessages :
    let o (n a : Nat) (st : Stage) : Op := {
      tag := 4095, dom := 255, q := 63, idx := 5, bank := 0, epoch := 0, seqNo := 3, stage := st
      desc := BitVec.ofNat 8 n :: BitVec.ofNat 8 a :: (zeros 46 ++ le 4 12 ++ zeros 12) }
    let l (n : Nat) (st : Stage) : Op := { o n 0 st with unit := some (.lane 15), heldCtr := some 0 }
    let vf (st : Stage) : Op := { l 2 st with desc := 2 :: 0 :: 1 :: zeros 61 }
    let inb (n : Nat) (st : Stage) : Op := { l n st with heldCtr := none }
    let s (x : Op) : State := {
      power := { phase := .ready }
      ops := [x], units := [(17015, { en := true, st := .on }), (17300, { en := true, st := .on })]
      lanes := [(15, { mask := { since := 2 ^ 20, full := some [7] } })]
      arb := { lane := [255] }, domains := [(255, { laneDef := 1 })] }
    let s1 : State := s (o 1 0 .ready)
    let s2 : State := s (o 8 0x43 .ready)
    let s3 : State := s (inb 2 .dispatched)
    let s4 : State := s (inb 3 .waitNonce)
    let s5 : State := s (l 1 .computed)
    let s6 : State := s (l 2 .computed)
    let s7 : State := s (vf .computed)
    let s8 : State := s (vf .releasing)
    let s9 : State := s (l 3 .computed)
    let s10 : State := s { l 3 .computed with pass := 2 }
    let s11 : State := s (l 4 .computed)
    let s12 : State := s (l 8 .computed)
    let s13 : State := s (l 1 .scrubbing)
    let s14 : State := s (inb 4 .dispatched)
    let dry : State := { s1 with lanes := [(15, { mask := { since := 2 ^ 20 } })] }
    let nx (s : State) (o : Op) : Prop := dpRuns s = true ∧
      s.arb.lane = [255] ∧ 0 < (getDom s 255).laneDef ∧ oldestLane s 255 = some o ∧ laneFor s o = some 15
    let ps (s : State) (x : Op) (op : Nat) (st : Stage) : Prop := findOp s 4095 = some x ∧ laneOf x = some 15 ∧
      x.stage = st ∧ dOpcode x.desc = op ∧ heldByOrder s x = false ∧ noneHeld s = true ∧ dpRuns s = true
    (nx s1 (o 1 0 .ready) ∧ needsLegacy (o 1 0 .ready).desc = false) ∧
    (nx s2 (o 8 0x43 .ready) ∧ needsLegacy (o 8 0x43 .ready).desc = true) ∧
    (ps s3 (inb 2 .dispatched) 2 .dispatched ∧ inboundTurn s3 (inb 2 .dispatched) = true ∧
      inboundCheck s3 (inb 2 .dispatched) (1 :: zeros 11) = some (stAuthFail, 0) ∧
      inboundCheck s3 (inb 2 .dispatched) (zeros 12) = none) ∧
    (ps s4 (inb 3 .waitNonce) 3 .waitNonce ∧ inboundTurn s4 (inb 3 .waitNonce) = true ∧
      inboundCheck s4 (inb 3 .waitNonce) (zeros 12) = none ∧
      inboundCheck s4 (inb 3 .waitNonce) (1 :: zeros 11) = some (stAuthFail, 0)) ∧
    (ps s14 (inb 4 .dispatched) 4 .dispatched ∧ usesIn (inb 4 .dispatched).desc = true) ∧
    (ps s5 (l 1 .computed) 1 .computed ∧ ps s6 (l 2 .computed) 2 .computed ∧ opBuffered (l 2 .computed).desc = false) ∧
    (ps s7 (vf .computed) 2 .computed ∧ opBuffered (vf .computed).desc = true ∧ ps s8 (vf .releasing) 2 .releasing) ∧
    (ps s9 (l 3 .computed) 3 .computed ∧ ps s10 { l 3 .computed with pass := 2 } 3 .computed) ∧
    (ps s11 (l 4 .computed) 4 .computed ∧ opBuffered (l 4 .computed).desc = false ∧ ps s12 (l 8 .computed) 8 .computed) ∧
    (ps s13 (l 1 .scrubbing) 1 .scrubbing ∧ (l 1 .scrubbing).status ≠ stBadParameter) ∧
    (2 ^ 20 ≤ (getMask s1 15).since ∧ (getMask s1 15).full = some [7] ∧ maskUnitWorks s1 15 = true ∧
      maskUnitWorks dry 15 = true ∧ seedMissing dry 15 = true ∧ dpRuns dry = true) := by
  dsimp only; (repeat' apply And.intro) <;> decide

set_option maxRecDepth 8000 in
theorem witness_HashPipesRunMessages :
    let o (n : Nat) (st : Stage) : Op := {
      tag := 4095, dom := 255, q := 63, idx := 5, bank := 0, epoch := 0, seqNo := 3, stage := st, pipe := some 7
      desc := BitVec.ofNat 8 n :: 1 :: zeros 62 }
    let w : Op := { o 5 .ready with pipe := none }
    let s (x : Op) (st : UnitState) : State := {
      power := { phase := .ready }
      ops := [x], units := [(17207, { en := true, st := st })], arb := { hash := [255] }
      domains := [(255, { hashDef := 1 })] }
    let s1 : State := s w .on
    let s2 : State := s w .faulted
    let s3 : State := s (o 5 .running) .on
    let s4 : State := s (o 6 .running) .on
    let s5 : State := s (o 7 .running) .on
    let s6 : State := s (o 5 .computed) .on
    let nx (s : State) (o : Op) : Prop :=
      dpRuns s = true ∧ s.arb.hash = [255] ∧ 0 < (getDom s 255).hashDef ∧ oldestHash s 255 = some o
    (nx s1 w ∧ hostCtx s1 = some (7, 2)) ∧ (nx s2 w ∧ noPipes s2 = true) ∧
    (findOp s3 4095 = some (o 5 .running) ∧ dOpcode (o 5 .running).desc = 5 ∧
      findOp s4 4095 = some (o 6 .running) ∧ dOpcode (o 6 .running).desc = 6 ∧
      findOp s5 4095 = some (o 7 .running) ∧ dOpcode (o 7 .running).desc = 7) ∧
    (findOp s6 4095 = some (o 5 .computed) ∧ isHashOp (o 5 .computed).desc = true ∧ (o 5 .computed).pipe = some 7) := by
  dsimp only; (repeat' apply And.intro) <;> decide

set_option maxRecDepth 8000 in
theorem witness_PairsRunAndCompare :
    let o (n : Nat) (st : Stage) : Op := {
      tag := 4095, dom := 255, q := 63, idx := 5, bank := 0, epoch := 0, seqNo := 3, stage := st, arrived := true
      dup := true, unit := some (.pair 11), desc := BitVec.ofNat 8 n :: 1 :: (zeros 38 ++ le 4 32 ++ zeros 20) }
    let w : Op := { o 0x20 .ready with unit := none, arrived := false, dup := false }
    let g : Op := { o 0x27 .ready with unit := none, arrived := false, dup := false }
    let d : Op := { o 0x20 .dispatched with dup := false }
    let s (x : Op) : State := {
      power := { phase := .ready }
      ops := [x], units := [(17111, { en := true, st := .on })], arb := { pk := [255] }
      domains := [(255, { pkDef := 1 })] }
    let b : State := { s w with ops := [w, { o 0x21 .running with tag := 7 }] }
    let s1 : State := s w
    let s2 : State := s g
    let s3 : State := s d
    let r20 : State := s (o 0x20 .running)
    let r21 : State := s (o 0x21 .running)
    let r22 : State := s (o 0x22 .running)
    let r23 : State := s (o 0x23 .running)
    let r24 : State := s (o 0x24 .running)
    let r25 : State := s (o 0x25 .running)
    let r26 : State := s (o 0x26 .running)
    let r27 : State := s (o 0x27 .running)
    let c1 : State := s (o 0x20 .computed)
    let c2 : State := s (o 0x20 .scrubbing)
    let nx (s : State) (o : Op) : Prop := dpRuns s = true ∧ s.arb.pk = [255] ∧ 0 < (getDom s 255).pkDef ∧
      oldestPk s 255 = some o ∧ (s.ops.any Op.reserved) = false ∧
      (s.ops.any fun p => (pairOf p).isSome && p.stage == .dispatched) = false
    (nx s1 w ∧ pairFor s1 w.desc = some (11, 2) ∧ auxRead w ++ inRead w ≠ []) ∧
    (nx s2 g ∧ pairFor s2 g.desc = some (11, 2) ∧ dOpcode g.desc = 0x27 ∧ needsStream g.desc = false) ∧
    (nx b w ∧ pairFor b w.desc = none ∧ opDup w.desc = true ∧ reservable b = some 11) ∧
    (∀ x ∈ [(0x20, r20), (0x21, r21), (0x22, r22), (0x23, r23), (0x24, r24), (0x25, r25), (0x26, r26), (0x27, r27)],
      findOp x.2 4095 = some (o x.1 .running) ∧ dOpcode (o x.1 .running).desc = x.1) ∧
    (rsaE (o 0x26 .running) < 2 ^ 32) ∧
    (findOp c1 4095 = some (o 0x20 .computed) ∧ pairOf (o 0x20 .computed) = some 11 ∧
      isPkOp (o 0x20 .computed).desc = true ∧ (pairUnit c1 11).st ≠ .faulted) ∧
    (findOp s3 4095 = some d ∧ rngFaulted s3 = true ∧ drawReady s3 d 11 = false ∧ heldByOrder s3 d = false) ∧
    (findOp c2 4095 = some (o 0x20 .scrubbing) ∧ (o 0x20 .scrubbing).status ≠ stBadParameter) := by
  dsimp only; (repeat' apply And.intro) <;> decide

set_option maxRecDepth 8000 in
theorem witness_CurveSlotsChange :
    let body : Bytes := le 2 1 ++ [1, 1, 1, 0, 0, 0, 0x41] ++ zeros 102 ++ [1] ++ zeros 359 ++ [1]
    let cmd (sub : Nat) (pb : Bytes) : AdminCmd := {
      dom := 128, idx := 0, pb := pb, ready := true, owner := true
      desc := 0x83 :: le 1 sub ++ zeros 6 ++ le 4 63 ++ zeros 32 ++ le 4 504 ++ zeros 16 }
    let st (c : AdminCmd) : State := {
      power := { phase := .ready }
      part := .g1640, lifecycle := .operational, ownerPort := 2, strap := 3, engine := { serving := [c] } }
    let free (s : State) (c : AdminCmd) : Prop :=
      63 = aTarget c.desc ∧ c.input = [] ∧ curveInUse s 63 = false ∧ logRefusal s = none ∧
      (getCurve s 63).epoch < 2 ^ 32 - 1
    let s1 : State := st (cmd 0 body)
    let s2 : State := st { cmd 0 body with staged := true }
    let s6 : State := { s2 with flash := { jobs := [{ kind := 5, id := 63, pages := 1, data := [] }] } }
    let s3 : State := st (cmd 1 [])
    let s4 : State := st { cmd 1 [] with staged := true }
    let s5 : State := st (cmd 2 [])
    let f1 : State := { s1 with curves := [(63, { epoch := 2 ^ 32 - 1 })] }
    let f3 : State := { s3 with curves := [(63, { epoch := 2 ^ 32 - 1 })] }
    (2 ^ 32 - 1 ≤ (getCurve f1 63).epoch ∧ cmdReady f1 128 0x83 0 (cmd 0 body) ∧ cmdReady f3 128 0x83 1 (cmd 1 [])) ∧
    (cmdReady s1 128 0x83 0 (cmd 0 body) ∧ free s1 (cmd 0 body) ∧ curveBodyOk body = true ∧
      32 ≤ dOutLen (cmd 0 body).desc ∧ flashStage s1 ≠ 5) ∧
    (cmdReady s2 128 0x83 0 { cmd 0 body with staged := true } ∧ commitBusy s2 = false ∧ curveRecWaits s2 63 = false) ∧
    (cmdReady s6 128 0x83 0 { cmd 0 body with staged := true } ∧ curveRecWaits s6 63 = true) ∧
    (cmdReady s3 128 0x83 1 (cmd 1 []) ∧ free s3 (cmd 1 [])) ∧
    (cmdReady s4 128 0x83 1 { cmd 1 [] with staged := true }) ∧ cmdReady s5 128 0x83 2 (cmd 2 []) ∧ policyRuns s5 = true ∧ curveReason body ≠ 0 := by
  dsimp only; simp only [cmdReady]; (repeat' apply And.intro) <;> decide

set_option maxRecDepth 8000 in
theorem witness_RandomSourceRules :
    let fill (st : Stage) : Op := {
      tag := 4095, dom := 255, q := 63, idx := 5, bank := 0, epoch := 0, seqNo := 3, stage := st
      desc := 0x30 :: (zeros 39 ++ le 4 4097 ++ zeros 20) }
    let s (st : UnitState) (x : Stage) : State := {
      power := { phase := .ready }, ports := [(3, { linkUp := true })]
      ops := [fill x], units := [(unitKey .rng, { en := true, st := st }), (unitKey (.core 3), { en := true, st := .on })]
      arb := { rng := [255] }, domains := [(255, { rngDef := 1 })] }
    let s1 : State := s .on .computed
    let s2 : State := { s1 with rng := { s1.rng with drbg := some {}, seed := some [1], reseedDue := true } }
    let s3 : State := { (s .starting .running) with rng := { s1.rng with seed := some [1] } }
    let s4 : State := s .on .running
    let s5 : State := { s3 with rng := { s3.rng with stalls := [⟨3, some 15⟩] } }
    let s6 : State := { s3 with rng := { s3.rng with stalls := [⟨3, none⟩] } }
    let s7 : State := { s1 with rng := { s1.rng with drbg := some {}, isolated := 0x70F0, isoCount := [(4, 8), (13, 7)] } }
    let w : List PairWindow := List.replicate 48 ⟨0, 0⟩
    (kprRuns s1 = true ∧ (getUnit s1 .rng).st = .on ∧ nbit s1.rng.isolated 63 = false ∧
      s1.rng.seed = none ∧ findOp s1 4095 = some (fill .computed)) ∧
    (s2.rng.drbg ≠ none ∧ s2.rng.seed ≠ none ∧ s2.rng.reseedDue = true) ∧
    ((getUnit s3 .rng).st = .starting ∧ s3.rng.seed ≠ none ∧
      48 ≤ ((List.range 64).filter fun i => windowPasses w i && decide (mget 0 s3.rng.isoCount i < 8)).length) ∧
    ((coreUnit s4 3).st = .on ∧ rngStalled s4 3 = false) ∧
    (s5.rng.stalls.filter (fun x => x.core == 3) = [⟨3, some 15⟩] ∧ s6.rng.stalls.filter (fun x => x.core == 3) = [⟨3, none⟩]) ∧
    (dpRuns s4 = true ∧ findOp s4 4095 = some (fill .running) ∧ dOpcode (fill .running).desc = 0x30) ∧
    (nbit s7.rng.isolated 4 = true ∧ rngOn s7 = true ∧ s7.rng.stalls = [] ∧ 0 < (getDom s7 255).rngDef ∧
      oldestFill s7 255 = some (fill .computed)) := by
  dsimp only; (repeat' apply And.intro) <;> decide

set_option maxRecDepth 8000 in
theorem witness_KeyCommandsCreateKeys :
    let cmd (op sub kind len : Nat) (input : Bytes) : AdminCmd := {
      dom := 128, idx := 0, ready := true, owner := true, input := input
      pb := le 1 kind ++ le 1 (if kind = 0x11 then 3 else 0) ++ [0, 128] ++ le 2 len ++ zeros 42
      desc := le 1 op ++ le 1 sub ++ zeros 6 ++ le 4 65535 ++ zeros 32 ++ le 4 20 ++ zeros 16 }
    let st (c : AdminCmd) : State := {
      power := { phase := .ready }, clocks := { pllDram := true }
      policy := { bank0 := { shares := [(128, { perms := 8 })] } }
      part := .g1640, lifecycle := .operational, ownerPort := 2, strap := 3, engine := { serving := [c] }
      units := [(unitKey .rng, { en := true, st := .on }), (unitKey .mooring, { en := true, st := .on })] }
    let may (s : State) (c : AdminCmd) (kinds : List Nat) (kbpk secret : Bool) : Prop :=
      createRefusal s c kinds kbpk secret = none ∧ logRefusal s = none ∧ loadRuns s (kCurve c) = false
    let g := cmd 0x86 0 1 32 []
    let p := cmd 0x84 0 0x11 0 (zeros 32)
    let c := cmd 0x84 1 3 128 (zeros 128)
    let b := cmd 0x84 2 2 24 []
    let w (sub op : Nat) : AdminCmd := {
      dom := 128, idx := 0, ready := true, owner := true, pb := [0x10, 1, 7, 128] ++ zeros 44
      desc := le 1 op ++ le 1 sub ++ zeros 6 ++ le 4 65535 ++ zeros 32 ++ le 4 20 ++ zeros 16 }
    let l : AdminCmd := { dom := 1, idx := 0, ready := true, desc := 0x83 :: zeros 7 ++ le 4 7 ++ zeros 52 }
    let z (c : AdminCmd) : AdminCmd := { c with staged := true, output := le 4 65535 ++ zeros 16 }
    let s1 : State := st g
    let s2 : State := st p
    let s3 : State := st c
    let s4 : State := st b
    let w1 : State := { (st (w 0 0x86)) with engine := { serving := [w 0 0x86, l] } }
    let w2 : State := { (st (w 0 0x84)) with engine := { serving := [w 0 0x84, l] } }
    let w3 : State := { (st (w 1 0x84)) with engine := { serving := [w 1 0x84, l] } }
    let z1 : State := st (z g)
    let z2 : State := st (z p)
    let z3 : State := st (z c)
    let z4 : State := st (z b)
    (cmdReady s1 128 0x86 0 g ∧ may s1 g [1, 2, 3, 0x10] false true ∧ rngFaulted s1 = false) ∧
    (cmdReady s2 128 0x84 0 p ∧ may s2 p [0x11] false false) ∧
    (cmdReady s3 128 0x84 1 c ∧ may s3 c [1, 2, 3, 0x10] false true ∧ secretValid s3 c = true) ∧
    (cmdReady s4 128 0x84 2 b ∧ may s4 b [1, 2, 3] true true) ∧
    (cmdReady w1 128 0x86 0 (w 0 0x86) ∧ loadRuns w1 7 = true ∧ cmdReady w2 128 0x84 0 (w 0 0x84) ∧ loadRuns w2 7 = true ∧
      cmdReady w3 128 0x84 1 (w 1 0x84) ∧ loadRuns w3 7 = true) ∧
    (cmdReady z1 128 0x86 0 (z g) ∧ cmdReady z2 128 0x84 0 (z p) ∧ cmdReady z3 128 0x84 1 (z c) ∧
      cmdReady z4 128 0x84 2 (z b) ∧ imageCan z1 = true) := by
  dsimp only; simp only [cmdReady]; (repeat' apply And.intro) <;> decide

set_option maxRecDepth 8000 in
theorem witness_KeyCommandsEndKeys :
    let cmd (op sub tgt : Nat) (pb : Bytes) : AdminCmd := {
      dom := 128, idx := 0, ready := true, owner := true, pb := pb
      desc := le 1 op ++ le 1 sub ++ zeros 6 ++ le 4 tgt ++ zeros 32 ++ le 4 4096 ++ zeros 16 }
    let k (usage : Nat) (q : Bytes) : KeySlot := {
      st := .active, kind := 1, owner := 128, secret := zeros 32, policy := le 4 usage ++ [0, 0, 0] ++ q ++ zeros 21 }
    let pk : KeySlot := { st := .active, kind := 0x11, alg := 3, owner := 128, pub := zeros 32 }
    let st (c : AdminCmd) : State := {
      power := { phase := .ready }, clocks := { pllDram := true }
      part := .g1640, lifecycle := .operational, ownerPort := 2, strap := 3, engine := { serving := [c] }
      units := [(unitKey .mooring, { en := true, st := .on }), (unitKey .rng, { en := true, st := .on })]
      keys := {
        slots := [(0, pk), (7, k (2 ^ 16) [0, 0, 0, 0]), (9, k (2 ^ 17) [2, 255, 0, 3]), (65535, k (2 ^ 17 + 2) [0, 0, 0, 0])]
        scrubs := [65535], building := true } }
    let e := cmd 0x85 0 0 []
    let x := cmd 0x85 1 65535 (le 8 7)
    let y := cmd 0x87 0 65535 []
    let y9 := cmd 0x87 0 9 []
    let a := cmd 0x85 0x81 9 (le 8 7)
    let b := cmd 0x87 0x80 9 []
    let n := cmd 0x87 0x80 65535 []
    let w := cmd 0x8F 0xC4 allTarget (15 :: zeros 3 ++ [1] ++ zeros 91)
    let s1 : State := st e
    let s2 : State := st x
    let s3 : State := st y
    let s4 : State := st { y with staged := true }
    let s5 : State := st { y9 with staged := true }
    let s6 : State := st a
    let s7 : State := st b
    let s8 : State := st n
    let s9 : State := st w
    let s10 : State := { s8 with keys := { s8.keys with slots := [(0, { pk with imaged := true })] } }
    (cmdReady s1 128 0x85 0 e ∧ keyTarget s1 e false = none) ∧
    (cmdReady s2 128 0x85 1 x ∧ exportRefusal s2 x = none ∧ (exportHeader (getKey s2 65535)).isSome ∧
      blockLen (getKey s2 65535).secret.length ≤ dOutLen x.desc ∧ logRefusal s2 = none ∧ drawWaits s2 = false) ∧
    (cmdReady s3 128 0x87 0 y ∧ destroyRefusal s3 y = none) ∧
    (cmdReady s4 128 0x87 0 { y with staged := true } ∧ cmdReady s5 128 0x87 0 { y9 with staged := true }) ∧
    (65535 ∈ s3.keys.scrubs ∧ dramRuns s3 = true ∧ keyInUse s3 65535 = false ∧ recordWaits s3 2 65535 = false) ∧
    (kprRuns s3 = true ∧ imageCan s3 = true ∧ nextImage s3 = some 0 ∧ imageCan s10 = true ∧ nextImage s10 = none) ∧
    (cmdReady s6 128 0x85 0x81 a ∧ exportRefusal s6 a = none ∧ quorumExport (getKey s6 9) = true) ∧
    (cmdReady s7 128 0x87 0x80 b ∧ destroyRefusal s7 b = none ∧ quorumDestroy (getKey s7 9) = true) ∧
    (cmdReady s8 128 0x87 0x80 n ∧ destroyRefusal s8 n = none ∧ quorumDestroy (getKey s8 65535) = false) ∧
    (cmdReady s9 128 0x8F 0xC4 w ∧ passwordRefusal s9 w = none) := by
  dsimp only; simp only [cmdReady]; (repeat' apply And.intro) <;> decide

set_option maxRecDepth 8000 in
theorem witness_FlashCommandsRun :
    let f (code n a : Nat) : State := { power := { phase := .ready }, flash := {
      seq := if code = 1 then 5 else 4, code := code, addr := a, words := List.replicate n 0
      running := if code = 3 ∨ code = 4 then some (2, 0) else none, held := code == 4 } }
    let last (s : State) (v : BitVec 32) (code : Nat) : Prop := kprRuns s = true ∧ s.flash.code = code ∧
      lastData s.flash = true ∧ dataFits code v.toNat = true
    let r (code a : Nat) : State := {
      power := { phase := .ready }, flash := { running := some (code, a), progData := zeros 512 } }
    let s1 : State := f 1 127 0x1FFFE00
    let s2 : State := f 2 0 0x1FFC000
    let s3 : State := f 3 0 0
    let s4 : State := f 4 0 0
    let s5 : State := f 5 0 0x7FFFE00
    let s6 : State := f 6 0 0x7FFC000
    let s7 : State := { s1 with flash := { s1.flash with fw := [(65535, .erased)] } }
    let r1 : State := r 1 0x1FFFE00
    let r2 : State := r 2 0x1FFC000
    let r3 : State := r 5 0
    let r4 : State := r 6 0
    let q1 : State := { s1 with flash := { s1.flash with seq := 1 } }
    let q2 : State := { s1 with flash := { s1.flash with seq := 2 } }
    let q3 : State := { s2 with flash := { s2.flash with seq := 3 } }
    (last s1 0xFFFFFFFF 1 ∧ last s2 0 2 ∧ last s3 0 3 ∧ last s4 0 4 ∧ suspended s4.flash = true ∧ last s5 4 5 ∧ last s6 0 6) ∧
    (cmdBad s7 = false ∧ flashStage s7 ≠ 5 ∧ cmdBad s6 = false ∧ cmdBad s5 = false ∧ cmdBad s2 = false) ∧
    (kprRuns q1 = true ∧ q1.flash.seq = 1 ∧ q2.flash.seq = 2 ∧ q3.flash.seq = 3 ∧ q3.flash.code = 2) ∧
    (r1.flash.running = some (1, 0x1FFFE00) ∧ r2.flash.running = some (2, 0x1FFC000) ∧ r2.flash.held = false ∧
      r3.flash.running = some (5, 0) ∧ r4.flash.running = some (6, 0)) := by
  dsimp only; (repeat' apply And.intro) <;> decide

set_option maxRecDepth 8000 in
theorem witness_RotationKeepsRecords :
    let p : PoolPage := { kind := 1, id := 65535, page := 0, pages := 1, seq := 3, inst := 3, live := true, data := zeros 512 }
    let s : State := { power := { phase := .ready }, flash := {
      frontSec := 8190, frontPage := 31, tail := 2048, pages := [(65536, some p)]
      jobs := [{ kind := 3, id := 7, pages := 1, data := [] }, { kind := 7, id := 0, pages := 1, data := [] }] } }
    let u : State := { s with flash := { s.flash with scanned := true, unfinished := some 2047 } }
    let r : State := { s with flash := { s.flash with reclaim := some 2048, tail := 2048, unfinished := some 2047 } }
    (kprRuns s = true ∧ s.flash.jobs.find? (mayProgram s) = some { kind := 7, id := 0, pages := 1, data := [] } ∧
      goodSector s.flash s.flash.frontSec = true) ∧
    (s.flash.reclaim = none ∧ freeSectors s.flash < 64 ∧ s.flash.tail ≠ s.flash.frontSec ∧ flashStage s ≠ 5) ∧
    (r.flash.reclaim = some 2048 ∧ r.flash.poolSusp = false ∧ goodSector r.flash 2048 = true) ∧
    (inLens s.flash (65536 / 32) = true ∧ poolPage s.flash 65536 = some p) ∧ s.flash.scanned = false ∧
    u.flash.scanned = true := by
  dsimp only; (repeat' apply And.intro) <;> decide

set_option maxRecDepth 8000 in
theorem witness_KeeperArithmeticComputes :
    let s : State := { power := { phase := .ready }, units := [(unitKey (.core 3), { en := true, st := .on })] }
    let m : State := { s with keeper := { s.keeper with core3 := { s.keeper.core3 with profileM := true } } }
    (mayIssue s 3 1 = true ∧ mayIssue m 3 3 = true) ∧
    (shapeOk s 3 (some (.d 15)) [.d 14, .imm 0xFFFF8000] simm16 = true ∧ shapeOk s 3 (some (.d 15)) [.a 7, .d 0] noImm = true) ∧
    (shapeOk m 3 (some (.ind 7)) [.imm 7, .abs 0x3FFFC] noImm = true ∧ wordsOf m 3 [.ind 7, .imm 7, .abs 0x3FFFC] = 3) ∧
    (evalDest 3 4 (pcOf s 3) (.d 15) (issued s 3 1) = .ok (.d 15, issued s 3 1)) ∧
    (readAll 3 4 (pcOf s 3) [.d 14, .imm 7] (issued s 3 1) = .ok ([{}, ⟨7, .int⟩], issued s 3 1)) ∧
    (∀ w, writeDest 3 4 (.d 15) w (issued s 3 1) = .ok (setBankD 3 15 w (issued s 3 1))) := by
  dsimp only
  refine ⟨by decide, by decide, by decide, rfl, rfl, fun _ => rfl⟩

set_option maxRecDepth 8000 in
theorem witness_KeeperMovesComplete :
    let s : State := {
      power := { phase := .ready }
      units := [(unitKey (.core 3), { en := true, st := .on })]
      keeper := { core3 := { dramBase := 7, main := { a := [(7, ⟨0x3FFFC, .addr⟩)] }, resv := some 0x3FFF } } }
    let m : State := { s with keeper := { s.keeper with core3 := { s.keeper.core3 with profileM := true } } }
    (mayIssue s 3 1 = true ∧ mayIssue m 3 3 = true) ∧
    (shapeOk s 3 (some (.d 15)) [.a 7] noImm = true ∧ lLoadOk (.d 0) (.ind 7) = true ∧ lLoadOk (.a 7) (.disp 7 8188) = true ∧
      shapeOk m 3 (some (.ind 7)) [.memInd 7 0 4] noImm = true ∧ atomicOk s 3 (.d 0) (.ind 7) = true ∧
      leaOk false (.idx 7 15 3 127) = true) ∧
    (evalDest 3 4 (pcOf s 3) (.ind 7) (issued s 3 1) = .ok (.mem 0x3FFFC, issued s 3 1)) ∧
    (readOp 3 2 (pcOf s 3) (.ind 7) (issued s 3 1) = .ok ({}, issued s 3 1)) ∧
    (atomicEa 3 (pcOf s 3) (.ind 7) (issued s 3 1) = .ok (0x3FFFC, issued s 3 1)) ∧
    (kLoad 3 0x3FFFC 4 (issued s 3 1) = .ok ({}, issued s 3 1)) ∧
    (storeTags (issued s 3 1) 3 0x3FFFC 4 ⟨7, .secret⟩ = .ok () ∧
      mpuCheck (getMpu (issued s 3 1) 3) (ringOf (issued s 3 1) 3) 0x3FFFC .write = .ok ()) ∧
    (formEa 3 4 (pcOf s 3) (.idx 7 15 3 127) (issued s 3 1) = .ok (0x4007B, issued s 3 1)) := by
  dsimp only
  refine ⟨by decide, by decide, rfl, rfl, rfl, rfl, ⟨rfl, rfl⟩, rfl⟩

set_option maxRecDepth 8000 in
theorem witness_KeeperMemoryKeepsTags :
    let s : State := { keeper := { local3 := [(65535, ⟨0x80FF7F01, .secret⟩)], shared := [(0xFFFFF, ⟨7, .code⟩)] } }
    let r : State := { keeper := { core3 := { main := { ring := 3 } } } }
    ((bankNow s 3).getA 7 = ⟨0, .addr⟩ ∧ (bankNow s 3).getD 15 = ⟨0, .int⟩) ∧
    ((getMpu s 3).en = false ∧ (getMpu s 3).buf = [] ∧ ringOf s 3 = 0 ∧ inSram 0x3FFFF = true ∧ inSram 0x103FFFFF = true ∧
      memWord s 3 (.own 65535) = ⟨0x80FF7F01, .secret⟩ ∧ memWord s 3 (.shared 0xFFFFF) = ⟨7, .code⟩) ∧
    (locate 0x40000 = none ∧ isReg 0x40000 = false ∧ ringOf r 3 = 3 ∧
      (bankNow { s with keeper := { core3 := { main := { a := [(0, ⟨4, .code⟩)] } } } } 3).getA 0 = ⟨4, .code⟩) := by
  decide

set_option maxRecDepth 8000 in
theorem witness_KeeperAccumulatorsAndTags :
    let s : State := { power := { phase := .ready }, units := [(unitKey (.core 3), { en := true, st := .on })] }
    (mayIssue s 3 1 = true ∧ accOk s 3 none [.d 15, .a 7] = true ∧ accOk s 3 none [.d 15] = true ∧
      accOk s 3 (some (.d 15)) [] = true ∧ shapeOk s 3 (some (.d 15)) [.a 7] noImm = true ∧ tagOf 7 = some .gate ∧
      plainTag (getAcc (issued s 3 1) 3 3).tag = true) ∧
    (readAll 3 4 (pcOf s 3) [.d 15, .d 0] (issued s 3 1) = .ok ([{}, {}], issued s 3 1)) ∧
    (readAll 3 4 (pcOf s 3) [.d 15] (issued s 3 1) = .ok ([{}], issued s 3 1)) ∧
    (evalDest 3 4 (pcOf s 3) (.d 15) (issued s 3 1) = .ok (.d 15, issued s 3 1)) ∧
    (readOp 3 4 (pcOf s 3) (.a 7) (issued s 3 1) = .ok (⟨0, .addr⟩, issued s 3 1)) := by
  dsimp only
  refine ⟨by decide, rfl, rfl, rfl, rfl⟩

theorem witness_OpcodeBytesAreTheTables : opc8 (.kCsel 3 (.d 0) (.d 1) (.d 2) 14) = some 0x5E := by decide

set_option maxRecDepth 8000 in
theorem witness_KeeperControlFlows :
    let k : Core := {
      dramBase := 7, main := { ring := 1, a := [(6, ⟨0x100, .code⟩), (7, ⟨0x3FFF0, .addr⟩)], d := [(15, ⟨0xFFFFFFFF, .gate⟩)] }
      gates := [(1020, 0x2000), (1021, 0x80000122#32), (1022, 0x1000)], part1 := ⟨256, 384, 382⟩, part2 := ⟨384, 448, 446⟩
      sstk := [(380, 0x3FFF7), (381, 0x2001), (382, 0x100)], pc := 0x2000 }
    let st (k : Core) : State := {
      power := { phase := .ready }
      units := [(unitKey (.core 3), { en := true, st := .on })], keeper := { core3 := k, local3 := [(2048, ⟨0, .code⟩)] }
      mpus := [(3, { en := true, regions := [(0, { limit := 0x3FFFF, attr := 0xF09 })] })] }
    let j : Core := { k with part1 := ⟨256, 384, 383⟩ }
    let h : Core := { k with sb := true, entryRing := 1, shadow := { a := [(6, ⟨0x100, .code⟩)] } }
    (mayIssue (st k) 3 1 = true ∧ ringOf (st k) 3 = 1 ∧ lLabel 22 (.pcrel 0xFF800000#32) = true ∧
      lLabel 26 (.pcrel 0x7FFFFFC#32) = true ∧ (bankNow (st k) 3).fs = false) ∧
    (targetOf 3 (pcOf (st k) 3) (.pcrel 0xFF800000#32) (issued (st k) 3 1) = .ok 0xFF802000#32) ∧
    ((bankNow (st j) 3).getA 6 = ⟨0x100, .code⟩ ∧ (getCore (st j) 3).entry 382 = 0x100 ∧ mayIssue (st j) 3 1 = true) ∧
    ((bankNow (st k) 3).getD 15 = ⟨0xFFFFFFFF, .gate⟩ ∧ nbit ((getCore (st k) 3).gate 255 1).toNat 31 = true ∧
      nbit ((getCore (st k) 3).gate 255 1).toNat 5 = true ∧ (getCore (st k) 3).part 2 = ⟨384, 448, 446⟩) ∧
    ((getCore (st k) 3).entry 381 = 0x2001#32 ∧ (getCore (st k) 3).entry 380 = 0x3FFF7#32) ∧
    (mayIssue (st h) 3 1 = true ∧ ((getCore (st h) 3).shadow.getA 6).tag = .code) := by
  dsimp only
  refine ⟨by decide, rfl, by decide, by decide, by decide, by decide⟩

set_option maxRecDepth 8000 in
theorem witness_KeeperSystemRegisters :
    let st (k : Core) : State := {
      power := { phase := .ready }, units := [(unitKey (.core 3), { en := true, st := .on })], keeper := { core3 := k } }
    let k : Core := { main := { d := [(15, ⟨0xFFFFFFFF, .code⟩)] }, gateSel := 511, sstkSel := 515 }
    let j : Core := { main := { ring := 1 }, sb := true }
    let m : Core := {
      profileM := true, main := { ring := 3 } }
    let s1 : State := st k
    let s2 : State := st j
    let s3 : State := st m
    (mayIssue s1 3 1 = true ∧ shapeOk s1 3 (some (.d 15)) [.imm 0] (fun _ => true) = true ∧
      sysReadable 15 (ringOf s1 3) = true ∧ sysWritable 15 (ringOf s1 3) = true) ∧
    (readOp 3 4 (pcOf s1 3) (.d 15) (issued s1 3 1) = .ok (⟨0xFFFFFFFF, .code⟩, issued s1 3 1)) ∧
    ((getCore (issued s1 3 1) 3).sysWrite 15 ⟨0xFFFFFFFF, .code⟩ =
      .ok ((getCore (issued s1 3 1) 3).setPart 3 ⟨1023, 1023, 1023⟩)) ∧
    (mayIssue s2 3 1 = true ∧ ringOf s2 3 = 0 ∧ sysWritable 3 0 = false ∧ sysReadable 2 (ringOf s3 3) = false ∧
      sysWritable 2 (ringOf s3 3) = false ∧ shapeOk s2 3 (some (.d 15)) [] noImm = true) := by
  dsimp only
  refine ⟨by decide, rfl, rfl, by decide⟩

set_option maxRecDepth 8000 in
theorem witness_KeeperLongInstructionsRun :
    let k : Core := {
      main := { d := [(0, ⟨2, .int⟩)], a := [(0, ⟨0x3FFF8, .addr⟩), (7, ⟨0x10000000, .addr⟩)], prog := 0xB0000001 } }
    let s : State := { power := { phase := .ready }, units := [(unitKey (.core 3), { en := true, st := .on })], keeper := { core3 := k } }
    let u := issued s 3 1
    (mayIssue s 3 1 = true ∧ (bankNow s 3).getD 0 = ⟨2, .int⟩ ∧ longStart (bankNow s 3).prog 0x30 2 = 1 ∧
      longStart (bankNow s 3).prog 0x31 2 = 0) ∧
    (wordAddr u 3 0 1 = .ok 0x3FFFC ∧ wordAddr u 3 7 1 = .ok 0x10000004 ∧ kLoad 3 0x10000004 4 u = .ok ({}, u)) ∧
    (plainTag ((bankNow u 3).getD 15).tag = true ∧ plainTag (getAcc u 3 3).tag = true) := by
  dsimp only
  refine ⟨by decide, ⟨rfl, rfl, rfl⟩, by decide⟩

set_option maxRecDepth 8000 in
theorem witness_KeeperExceptionsEnter :
    let st (k : Core) : State := {
      power := { phase := .ready }, units := [(unitKey (.core 3), { en := true, st := .on })], keeper := { core3 := k }
      ints := [(3, { en := 2 ^ 127, soft := 2 ^ 63 })] }
    let k : Core := { main := { ring := 0, ie := true } }
    let n : Core := { k with main := { ring := 0, ie := false } }
    let b : Core := { k with shadow := { a := [(7, ⟨0x40008, .addr⟩)] } }
    let h : Core := { k with sb := true }
    let s6 : State := st { b with main := { ring := 0 } }
    (mayIssue (st n) 3 5 = true ∧ mayIssue s6 3 5 = true ∧ entryOk s6 3 = false ∧ entryOk (st n) 3 = true ∧ entryOk (st b) 3 = false ∧ mayIssue (st h) 3 5 = true ∧
      (coreUnit (st h) 3).st = .on) ∧
    (coreLive (st k) 3 = true ∧ nextSrc (st k) 3 = some 127 ∧ rngStalled (st k) 3 = false ∧ entryOk (st k) 3 = true) ∧
    (coreLive (st { k with waiting := true }) 3 = true ∧ nextSrc (st { k with waiting := true }) 3 = some 127) := by
  dsimp only; (repeat' apply And.intro) <;> decide

set_option maxRecDepth 8000 in
theorem witness_MailboxesDeliverWords :
    let on : UnitRec := { en := true, st := .on }
    let bad : UnitRec := { en := true, st := .faulted, cause := 0xC0 }
    let s : State := { power := { phase := .ready }, units := [(unitKey (.core 0), on), (unitKey (.core 3), on)] }
    let r : State := { s with keeper := { core3 := { main := { ring := 3 } } } }
    let f : State := { s with keeper := { core0 := { slots := [(2, some ⟨7, .code⟩)] }, core3 := { slots := [(2, some ⟨7, .code⟩)] } } }
    let b : State := {
      power := { phase := .ready }, units := [0, 1, 2, 3].map fun c => (unitKey (.core c), bad) }
    (kprRuns s = true ∧ (coreUnit s 3).st = .on ∧ ringOf s 3 = 0 ∧ tagOf 7 = some .gate ∧ romTake 0 ⟨7, .gate⟩ s = none ∧
      ringOf r 3 = 3 ∧ (romTake 3 ⟨7, .code⟩ s).isSome ∧ mget none (getCore f 3).slots 2 ≠ none) ∧
    (kprRuns b = true ∧ ((List.range 4).all fun c => (coreUnit b c).st == .off || (coreUnit b c).st == .faulted) = true) := by
  decide

theorem witness_EndOfInterruptEndsSource :
    let s : State := {
      power := { phase := .ready }
      ints := [(3, { active := 2 ^ 15 + 2 ^ 16 + 2 ^ 20 + 2 ^ 127, soft := 2 ^ 63, tickLatch := true, counts := [(15, { count := 255 })] })] }
    let d : State := { s with flash := { done := true } }
    kprRuns s = true ∧ kprRuns d = true ∧ nbit (getInt s 3).active 15 = true ∧ nbit (getInt s 3).active 16 = true ∧
    nbit (getInt s 3).active 127 = true ∧ nbit (getInt s 3).active 0 = false ∧ absentSrc s.part 127 = false ∧
    nbit (getInt d 3).active 20 = true ∧ levelIn d 3 20 = true := by
  decide

theorem witness_InterruptsAndRegions :
    let s : State := {
      power := { phase := .ready }
      ints := [(3, { crossing := [(15, 1)], counts := [(15, { count := 255 })] })]
      mpus := [(3, { en := true, buf := [⟨0x3FFFC, 4, 7, 4, 3⟩], regions := [(15, { limit := 0xFFFFFF00, attr := 0xF05 })] })] }
    let d : State := { power := { phase := .ready }, mpus := [(3, { en := true, draining := true, buf := [⟨0x3FFFC, 4, 7, 4, 3⟩] })] }
    kprRuns s = true ∧ kprRuns d = true ∧ 0 < mget 0 (getInt s 3).crossing 15 ∧
    (getMpu s 3).buf = [⟨0x3FFFC, 4, 7, 4, 3⟩] ∧ (getMpu s 3).en = true ∧ tagOf 4 = some .secret ∧
    (((getMpu s 3).deciding 0x3FFFC).any fun n => permits ((getMpu s 3).region n).attr 3 .write) = true ∧
    (((getMpu d 3).deciding 0x3FFFC).any fun n => permits ((getMpu d 3).region n).attr 3 .write) = false ∧
    (getMpu d 3).draining = true := by decide

set_option maxRecDepth 8000 in
theorem witness_LogCommandsServe :
    let c (op : BitVec 8) (outLen : Nat) (pb : Bytes) : AdminCmd := {
      dom := 255, idx := 0, desc := op :: 0 :: zeros 42 ++ le 4 outLen ++ zeros 16, pb := pb, ready := true }
    let st (k : AdminCmd) : State := { power := { phase := .ready }, engine := { serving := [k] }, log := { nextSeq := 9 } }
    let r : Bytes := zeros 8 ++ le 2 4096 ++ [3] ++ zeros 5
    let e : LogEntry := { seq := 0, time := 0, origin := {}, cls := 7, code := 1, sev := 3 }
    let f : State := { power := { phase := .ready }, log := { staged := List.replicate 7 e, nextSeq := 7, retain := true }, tick := 1024 }
    (cmdReady (st (c 0x88 262288 r)) 255 0x88 0 (c 0x88 262288 r) ∧ dOutLen (c 0x88 262288 r).desc = 144 + 64 * 4096 ∧
      aTarget (c 0x88 262288 r).desc = 0 ∧ r.length = 16 ∧ leAt r 11 5 = 0 ∧ byteAt r 10 = 3 ∧ leAt r 8 2 = 4096) ∧
    (cmdReady (st (c 0x89 0 (le 8 8))) 255 0x89 0 (c 0x89 0 (le 8 8)) ∧ leAt (le 8 8) 0 8 < (st (c 0x89 0 [])).log.nextSeq ∧
      cmdReady (st (c 0x89 0 (le 8 9))) 255 0x89 0 (c 0x89 0 (le 8 9)) ∧ leAt (le 8 9) 0 8 = 9) ∧
    (kprRuns f = true ∧ f.log.staged = e :: List.replicate 6 e ∧ canProgram f = true ∧ e.stagedAt + 1024 ≤ f.tick) := by
  simp only [cmdReady]; decide

set_option maxRecDepth 8000 in
theorem witness_RecordersMeasureAndFreeze :
    let c (sub : BitVec 8) (outLen : Nat) (pb : Bytes) : AdminCmd := {
      dom := 255, idx := 0, desc := 0x8A :: sub :: zeros 42 ++ le 4 outLen ++ zeros 16, pb := pb, ready := true }
    let e : RecEntry := { rseq := 7, kind := 1, sev := 0, code := 5, tick := 9, cycle := 0, place := 0, data := [] }
    let st (k : AdminCmd) : State := { power := { phase := .ready }, engine := { serving := [k] }
                                       recorders := { recs := [(recKey 9 5, { slots := [(255, e)] })], cursor := 255
                                                      selCluster := 9, selTile := 15, auto := true, freeze := true } }
    let b : Bytes := [9, 15] ++ le 2 256 ++ zeros 4
    (cmdReady (st (c 0 16400 b)) 255 0x8A 0 (c 0 16400 b) ∧ evBodyOk (st (c 0 16400 b)) (c 0 16400 b) = true ∧
      dOutLen (c 0 16400 b).desc = 16 + 64 * leAt b 2 2) ∧
    (cmdReady (st (c 1 0 b)) 255 0x8A 1 (c 1 0 b) ∧ evBodyOk (st (c 1 0 b)) (c 1 0 b) = true ∧
      logRefusal (st (c 1 0 b)) = none ∧ recFrozen (st (c 1 0 b)) (evKey (c 1 0 b)) = true) ∧
    ((getRec (st (c 0 0 b)) (selKey (st (c 0 0 b)))).slots.find? (fun x => x.1 == 255) = some (255, e)) ∧
    (tilePresent .g1640 3 3 = true ∧ recMode ({ power := { phase := .ready } } : State) 3 3 = false ∧
      (getRec (st (c 0 0 b)) (recKey 9 5)).slots.length ≤ 256) := by
  simp only [cmdReady]; decide

set_option maxRecDepth 8000 in
theorem witness_WatchDecidesAlarms :
    let l (i : Nat) (n : Option Nat) : Watch := { sticky := 2 ^ i, first := [⟨i, n⟩, ⟨17, none⟩] }
    let s1 : State := { power := { phase := .ready }, lifecycle := .operational, watch := l 16 (some 2) }
    let s2 : State := { power := { phase := .backupOnly }, lifecycle := .operational, watch := l 16 (some 2) }
    let s3 : State := { power := { phase := .stopping }, lifecycle := .operational, watch := l 0 none, backup := { kek := zeros 32, kekPresent := true } }
    let s4 : State := { power := { phase := .ready }, lifecycle := .operational, watch := l 0 (some 3), backup := { kek := zeros 32, kekPresent := true }, domains := [(7, { session := some { method := 0, credential := 0, kMac := [], kPw := [], lastTick := 0 } })] }
    let s5 : State := { power := { phase := .ready }, watch := l 18 (some 0) }
    let s6 : State := { power := { phase := .backupOnly }, watch := l 18 (some 0) }
    let s7 : State := { power := { phase := .ready }, lifecycle := .operational, watch := { l 7 (some 2) with resp := List.replicate 19 1 } }
    let s8 : State := { power := { phase := .backupOnly }, watch := l 0 none }
    let w : BitVec 19 := 0x10000
    ((s1.watch.first.filter fun x => nbit w.toNat x.source) = [⟨16, some 2⟩] ∧ inForce s1 = 0 ∧ watchResp s1 16 = 2) ∧
    ((s2.watch.first.filter fun x => nbit w.toNat x.source) = [⟨16, some 2⟩] ∧ watchBackup 16 = true) ∧
    ((s3.watch.first.filter fun x => nbit (1 : BitVec 19).toNat x.source) = [⟨0, none⟩] ∧ watchResp s3 0 = 3 ∧
      nbit (0x7FFFF : BitVec 19).toNat 0 = true) ∧
    ((s4.watch.first.filter fun x => nbit (1 : BitVec 19).toNat x.source) = [⟨0, some 3⟩] ∧ watchResp s4 0 = 3 ∧ inForce s4 = 0) ∧
    ((s6.watch.first.filter fun x => nbit (0x40000 : BitVec 19).toNat x.source) = [⟨18, some 0⟩] ∧ watchBackup 18 = false) ∧
    ((s7.watch.first.filter fun x => nbit (0x80 : BitVec 19).toNat x.source) = [⟨7, some 2⟩] ∧ watchResp s7 7 = 1) ∧
    (monitored s5 18 = true ∧ monitored s6 18 = false ∧ monitored s8 0 = true) := by
  decide

set_option maxRecDepth 8000 in
theorem witness_WatchIsConfigured :
    let c (op sub : BitVec 8) (target : Nat) (pb : Bytes) : AdminCmd := {
      dom := 192, idx := 0, desc := op :: sub :: (zeros 6 ++ le 4 target ++ zeros 52), pb := pb, ready := true }
    let low : AdminCmd := c 0x8F 0x10 (2 ^ 32 - 1) [11, 1, 0, 0, 0, 0, 0, 0]
    let high : AdminCmd := c 0x8F 0x10 (2 ^ 32 - 1) [18, 3, 0, 0, 0, 0, 0, 0]
    let fuse : AdminCmd := c 0x8F 0x11 (2 ^ 32 - 1) [18, 0, 0, 0, 0, 0, 0, 0]
    let clr : AdminCmd := c 0x8F 0x12 (2 ^ 32 - 1) (zeros 8)
    let time : AdminCmd := c 0x8E 0 0 (le 8 (2 ^ 56 - 1 - 2 ^ 40))
    let b : State := { power := { phase := .ready }, ownerPort := 3, lifecycle := .operational }
    let s1 : State := { b with engine := { serving := [low] } }
    let s2 : State := { b with engine := { serving := [high] } }
    let s3 : State := { b with engine := { serving := [fuse] }, watch := { fuseArm := some 18, sticky := 2 ^ 18, first := [⟨18, none⟩] } }
    let s4 : State := { b with engine := { serving := [clr] }, watch := { restrict := true } }
    let s5 : State := { b with engine := { serving := [time] } }
    let s6 : State := { b with engine := { serving := [clr] }, watch := { active := 2 ^ 18, resp := List.replicate 19 1 } }
    let s7 : State := { s3 with keys := { approval := some { id := approvalId fuse, m := 0, roles := 0 } } }
    let s8 : State := { s1 with keys := { approval := some { id := approvalId low, m := 0, roles := 0 } } }
    (cmdReady s1 192 0x8F 0x10 low ∧ watchRefusal s1 low = none) ∧ (cmdReady s2 192 0x8F 0x10 high ∧ watchRefusal s2 high = none) ∧
    (cmdReady s3 192 0x8F 0x11 fuse ∧ watchRefusal s3 fuse = none) ∧ cmdReady s7 192 0x8F 0x11 fuse ∧ cmdReady s8 192 0x8F 0x10 low ∧
    (cmdReady s4 192 0x8F 0x12 clr ∧ watchRefusal s4 clr = none ∧ stillAlarms s4 1 1 = false ∧ stillAlarms s6 1 1 = true) ∧
    (cmdReady s5 192 0x8E 0 time ∧ aTarget time.desc = 0 ∧ time.pb.length = 8 ∧ leAt time.pb 0 8 < 2 ^ 56 ∧
      nbit (leAt time.pb 0 8) 40 = false ∧ logRefusal s5 = none) := by
  simp only [cmdReady]; decide

set_option maxRecDepth 8000 in
theorem witness_CustodiansUnlock :
    let c (op sub : BitVec 8) (out : Nat) (pb : Bytes) : AdminCmd := {
      dom := 192, idx := 0, desc := op :: sub :: (zeros 42 ++ le 4 out ++ zeros 16), pb := pb, ready := true }
    let x : Ceremony := { id := zeros 32, who := [254, 7], fails := 4 }
    let a : Approval := { id := zeros 32, m := 2, roles := 1, who := [7] }
    let op : AdminCmd := c 0x8C 0 32 []
    let p0 : AdminCmd := c 0x8D 0 4 (1 :: 254 :: zeros 6)
    let p1 : AdminCmd := c 0x8D 1 4 (0 :: 254 :: zeros 6)
    let b : State := { power := { phase := .ready }, ownerPort := 3, units := [(unitKey .rng, { en := true, st := .on })] }
    let s1 : State := { b with lifecycle := .zeroised, engine := { serving := [op] } }
    let s2 : State := { b with lifecycle := .operational, engine := { serving := [op] } }
    let s3 : State := { b with lifecycle := .zeroised, engine := { serving := [p0] }, watch := { ceremony := some x } }
    let s4 : State := { b with lifecycle := .operational, engine := { serving := [p1] }, keys := { approval := some a } }
    let s5 : State := { b with lifecycle := .zeroised, engine := { serving := [p0] } }
    let s6 : State := { b with lifecycle := .operational, engine := { serving := [p1] } }
    let s7 : State := { s3 with lifecycle := .locked, units := [] }
    (cmdReady s1 192 0x8C 0 op ∧ aTarget op.desc = 0 ∧ devLocked s1 = true ∧ dOutLen op.desc = 32 ∧
      unlockRefusal s1 = none ∧ devLocked s2 = false ∧ cmdReady s2 192 0x8C 0 op ∧ drawWaits s1 = false) ∧
    (cmdReady s3 192 0x8D 0 p0 ∧ presentRefusal s3 p0 = none ∧ dOutLen p0.desc = 4 ∧ openCeremony s3 = some x ∧
      cmdReady s5 192 0x8D 0 p0 ∧ presentRefusal s5 p0 = none ∧ openCeremony s5 = none) ∧
    (cmdReady s4 192 0x8D 1 p1 ∧ presentRefusal s4 p1 = none ∧ dOutLen p1.desc = 4 ∧ devLocked s4 = false ∧
      s4.keys.approval = some a ∧ cmdReady s6 192 0x8D 1 p1 ∧ presentRefusal s6 p1 = none ∧ s6.keys.approval = none) ∧
    kprRuns s3 = true ∧ s3.watch.ceremony = some x ∧ cmdReady s7 192 0x8D 0 p0 := by
  simp only [cmdReady]; decide

set_option maxRecDepth 8000 in
theorem witness_HealthIsPublished :
    let m (i : Nat) : DayMean := { date := none, silicon := 1000 * (i + 1), flash := 5000 * (40 - i), vbat := some (1000 * i), dram := 7, regulator := 20 * (40 - i) }
    let s1 : State := { power := { phase := .booting 9 }, health := { sum := { n := 86400 } } }
    let s2 : State := {
      power := { phase := .ready }
      health := { sum := { n := 3, silicon := 7, flash := 9 }, days := (List.range 30).map m, age := 30, capacity := some 20 } }
    let c (op sub : BitVec 8) (target out : Nat) (pb : Bytes) : AdminCmd := {
      dom := 192, idx := 0, desc := op :: sub :: (zeros 6 ++ le 4 target ++ zeros 32 ++ le 4 out ++ zeros 16), pb := pb
      ready := true }
    let h : AdminCmd := c 0x8B 0 0 160 []
    let b : AdminCmd := c 0x8F 0x20 (2 ^ 32 - 1) 0 (le 2 2000 ++ zeros 6)
    let s3 : State := { power := { phase := .ready }, ownerPort := 3, lifecycle := .operational, engine := { serving := [h] } }
    let s4 : State := { power := { phase := .ready }, ownerPort := 3, lifecycle := .operational, engine := { serving := [b] } }
    (kprRuns s1 = true ∧ passed s1 9 = true ∧ 0 < s1.health.sum.n ∧ canProgram s1 = true) ∧
    (kprRuns s2 = true ∧ passed s2 9 = true ∧ s2.health.days.length = 30) ∧
    (cmdReady s3 192 0x8B 0 h ∧ aTarget h.desc = 0 ∧ h.input = [] ∧ dOutLen h.desc = 160) ∧
    (cmdReady s4 192 0x8F 0x20 b ∧ b.pb.length = 8 ∧ logRefusal s4 = none ∧ deviceWide s4 b
      (allZero (b.pb.drop 2) && decide (20 ≤ leAt b.pb 0 2) && decide (leAt b.pb 0 2 ≤ 2000)) = none) := by
  simp only [cmdReady]; decide

theorem witness_SmbusAnswers :
    let s : State := { power := { phase := .ready }, health := { smbAlert := true }, rf := { field := true } }
    kprRuns s = true ∧ powered s = true := by
  decide

theorem witness_CardCommandsRun :
    let st (c : Card) : State := {
      power := { phase := .ready }, units := [(unitKey .card, { en := true, st := .on })], card := c }
    let a : Card := { present := true, session := { active := true, ifsc := 254, cls := 1 }, atr := { clkStop := 3 } }
    let b : Card := { a with phase := .transfer, result := { busy := true }, ctx := { committed := true } }
    let s1 : State := st a
    let s2 : State := st b
    let s3 : State := st { a with shortAt := some 0 }
    let s4 : State := st { a with cfg := { classes := 3 }, atr := { clkStop := 2 } }
    let s5 : State := st { a with phase := .attempt, result := { busy := true } }
    let s6 : State := st {}
    (kprRuns s1 = true ∧ unitOn s1 .card = true ∧ a.result.busy = false ∧ nbit s1.card.cfg.classes 2 = true ∧
      recentShort s1 = false ∧ powered s1 = true ∧ a.phase = .idle) ∧
    (kprRuns s2 = true ∧ unitOn s2 .card = true ∧ b.phase = .transfer ∧ b.present = true) ∧
    (kprRuns s6 = true ∧ s6.card.present = false ∧ powered s6 = true ∧ kprRuns s3 = true ∧ recentShort s3 = true) ∧
    (kprRuns s4 = true ∧ s4.card.atr.clkStop = 2 ∧ kprRuns s5 = true ∧ s5.card.result.busy = true) := by decide

set_option maxRecDepth 8000 in
theorem witness_CardExchangesRun :
    let st (c : Card) : State := { power := { phase := .ready }, card := c }
    let ses : CardSession := { active := true, cls := 2, ifsc := 32, fi := 1, di := 3, clkMhz := 5 }
    let tr (x : BlockCtx) : Card := { session := ses, inUse := {}, phase := .transfer, result := { busy := true }, ctx := x }
    let x : BlockCtx := { request := zeros 38, cur := 32 }
    let y : BlockCtx := { request := zeros 38, off := 32, cur := 6, ns := true, committed := true }
    let atr : Bytes := [0x3B, 0x90, 0x13, 0x81, 0x31, 0x20, 0x45, 0x56]
    let s1 : State := st { phase := .attempt, session := { cls := 2 } }
    let s2 : State := st (tr x)
    let s3 : State := st (tr y)
    let s4 : State := st { tr y with phase := .ifs }
    let s5 : State := st { phase := .pps, ppsSent := [0xFF, 0x11, 0x13, 0xFD], session := { cls := 2 }, result := { busy := true } }
    let s6 : State := st { phase := .retryWait, session := { cls := 2 } }
    let s7 : State := st (tr { x with resyncing := true })
    let s8 : State := st { s5.card with inUse := { ifsd := 32 }, noPps1 := true }
    let s9 : State := st (tr { y with rTries := 3, sTries := 3 })
    (kprRuns s1 = true ∧ s1.card.phase = .attempt) ∧
    (∃ a, parseAtr atr = some a ∧ a.offers.contains 1 = true ∧ a.specific = none ∧ a.ta1 = some 0x13 ∧ fdOk 0x13 = true) ∧
    (cardBlock s2 [0, 0x90, 0, 0x90] true = some [0, 0x90, 0] ∧ 128 + 16 * b2n (!x.ns) = 0x90 ∧ kprRuns s2 = true ∧
      0 < x.cur ∧ x.off + x.cur < x.request.length ∧ x.resyncing = false) ∧
    (cardBlock s3 [0, 0xC3, 1, 5, 0xC7] true = some [0, 0xC3, 1, 5] ∧ y.request.length ≤ y.off + y.cur) ∧
    (cardBlock s3 [0, 0, 2, 0x90, 0, 0x92] true = some [0, 0, 2, 0x90, 0] ∧ byteAt [0, 0, 2, 0x90, 0] 1 = 64 * b2n y.nr) ∧
    (cardBlock s4 [0, 0xE1, 1, 0xFE, 0x1E] true = some [0, 0xE1, 1, 0xFE] ∧
      ([0, 0xE1, 1] : Bytes) ++ le 1 254 = [0, 0xE1, 1, 0xFE]) ∧
    (kprRuns s5 = true ∧ s5.card.phase = .pps ∧ kprRuns s6 = true ∧ s6.card.phase = .retryWait ∧
      cardBlock s7 [0, 0xE0, 0, 0xE0] true = some [0, 0xE0, 0] ∧ kprRuns s8 = true ∧ kprRuns s9 = true) := by
  refine ⟨by decide, ⟨_, rfl, ?_⟩, ?_⟩ <;> decide

theorem witness_ReaderCommandsRun :
    let st (r : Rf) : State := { power := { phase := .ready }, units := [(unitKey .rf, { en := true, st := .on })], rf := r }
    let a : Rf := { session := { active := true, fsc := 256 } }
    let s1 : State := st a
    let s2 : State := st { ref := some (1000, 1000), cfg := { pingEn := true } }
    let s3 : State := st { a with phase := .transfer, result := { busy := true } }
    let s4 : State := st { cfg := { types := 2 }, field := true }
    let s5 : State := st { cfg := { types := 2 } }
    let s6 : State := st { a with antBad := true }
    let s7 : State := st { a with phase := .reqa, result := { busy := true } }
    contactlessPresent s1.part = true ∧ kprRuns s1 = true ∧ unitOn s1 .rf = true ∧ a.result.busy = false ∧
    nbit a.cfg.types 0 = true ∧ kprRuns s2 = true ∧ pingDue s2 = true ∧ s1.rf.field = false ∧ s4.rf.field = true ∧
    s3.rf.phase = .transfer ∧ kprRuns s5 = true ∧ kprRuns s6 = true ∧ kprRuns s7 = true := by decide

theorem witness_ReaderFramesRun :
    let st (p : RfPhase) (x : BlockCtx) : State := { power := { phase := .ready }, rf := { phase := p, ctx := x, result := { busy := true } } }
    let x : BlockCtx := { request := zeros 38, cur := 13, ns := true }
    let y : BlockCtx := { request := zeros 38, off := 13, cur := 25, rTries := 2 }
    let s1 : State := st .transfer x
    let s2 : State := st .transfer y
    let s3 : State := st (.anticoll 2) {}
    let s4 : State := st (.select 1) { rTries := 2 }
    let s5 : State := st .rats {}
    let s6 : State := st .pps {}
    let s7 : State := st .attrib {}
    let s8 : State := st (.reqb 14 true) {}
    let s9 : State := st (.reqb 0 false) {}
    let s10 : State := st .reqa {}
    s1.rf.phase = .transfer ∧ 0xA2 + b2n x.ns = 0xA3 ∧ 0 < x.cur ∧ x.off + x.cur < x.request.length ∧
    y.request.length ≤ y.off + y.cur ∧ 2 ≤ y.rTries ∧ s3.rf.phase = .anticoll 2 ∧
    xorAll [0x88, 1, 2, 3, 0x88] = 0 ∧ s4.rf.phase = .select 1 ∧ kprRuns s1 = true ∧ kprRuns s2 = true ∧ kprRuns s3 = true ∧
    kprRuns s4 = true ∧ s5.rf.phase = .rats ∧ s6.rf.phase = .pps ∧ s7.rf.phase = .attrib ∧ s8.rf.phase = .reqb 14 true ∧
    s9.rf.phase = .reqb 0 false ∧ s10.rf.phase = .reqa ∧
    nbit (byteAt [0x50, 1, 2, 3, 4, 0, 0, 0, 0, 0x77, 0x81, 0x40] 10) 0 = true := by decide

theorem witness_DaymarkAnswers :
    let d : Daymark := {
      selected := true, handle := some 65535, rand := zeros 8, password := List.replicate 8 1, auth := true, fails := 7
      round := some (8, 254), slot := 255 }
    let s : State := { daymark := d }
    let s1 : State := { daymark := { d with rand := zeros 8, writes := [⟨63, [1], .reader⟩, ⟨3, [2], .upkeep⟩] }, power := { phase := .ready } }
    let s2 : State := { daymark := { d with auth := false } }
    let s3 : State := { daymark := { d with locked := true } }
    dayHears s = true ∧ s.daymark.quiet = false ∧ daySelected s = true ∧ contactlessPresent s.part = true ∧
    daySelected s1 = true ∧ daySelected s2 = true ∧ daySelected s3 = true ∧ s.daymark.round = some (8, 254) ∧
    ((254 : Nat) + 1 < 2 ^ 8) ∧ le 8 0 ≠ List.zipWith (· ^^^ ·) s.daymark.password s.daymark.rand := by decide

set_option maxRecDepth 8000 in
theorem witness_DaymarkPagesAreWritten :
    let c (sub : BitVec 8) (pb : Bytes) : AdminCmd := {
      dom := 192, idx := 0, desc := 0x8F :: sub :: (zeros 6 ++ le 4 (2 ^ 32 - 1) ++ zeros 52), pb := pb, ready := true }
    let b : State := { power := { phase := .ready }, ownerPort := 3, lifecycle := .operational }
    let pw : AdminCmd := c 0x30 (zeros 7 ++ [1])
    let un : AdminCmd := c 0x31 []
    let s1 : State := { b with daymark := { writes := [⟨63, [1], .reader⟩] } }
    let s2 : State := { b with engine := { serving := [pw] } }
    let s3 : State := { b with engine := { serving := [un] }, daymark := { locked := true, fails := 9 } }
    s1.daymark.writes = [⟨63, [1], .reader⟩] ∧ contactlessPresent s1.part = true ∧ powered s1 = true ∧ pageBusy s1 = false ∧
    kprRuns s1 = true ∧
    (cmdReady s2 192 0x8F 0x30 pw ∧ pw.pb.length = 8 ∧ dayRefusal s2 pw (!allZero pw.pb) = none ∧ logRefusal s2 = none) ∧
    (cmdReady s3 192 0x8F 0x31 un ∧ dayRefusal s3 un true = none ∧ logRefusal s3 = none) := by
  simp only [cmdReady]; decide

theorem witness_DebugIsPermitted :
    let on : UnitRec := { en := true, st := .on }
    let s1 : State := {
      power := { phase := .ready }, tap := { attached := true, halt := 2 }, units := [(unitKey (.core 1), on)] }
    let s2 : State := { power := { phase := .ready }, lifecycle := .operational }
    let s3 : State := { s1 with tap := { halt := 2 }, keeper := { shared := [(1048575, ⟨7, .secret⟩)], core1 := { shadow := { d := [(15, ⟨3, .addr⟩)] } } } }
    let s4 : State := { s1 with mpus := [(0, { en := true })] }
    let s5 : State := { power := { phase := .booting 5 }, tap := { attached := true } }
    let s6 : State := { s1 with lifecycle := .operational, tap := { attached := true, halt := 2, cert := some ⟨0, 255, 7⟩ } }
    (kprRuns s1 = true ∧ powered s1 = true ∧ s1.tap.attached = true ∧ nbit (debugPerms s1) 0 = true ∧
      nbit (debugPerms s1) 1 = true ∧ nbit (debugPerms s1) 2 = true ∧ dbgMpuOk s1 0x40150008 1 .write = true ∧
      s1.tap.halt < 16 ∧ haltedCore s1 1 = true ∧ haltedCore s1 0 = false) ∧
    (0x10000000 ≤ (0x103FFFFC#32).toNat ∧ (0x103FFFFC#32).toNat < 0x10400000 ∧ (0x103FFFFC#32).toNat % 4 = 0) ∧
    (powered s2 = true ∧ kprRuns s2 = true ∧ nbit (debugPerms s2) 0 = false ∧ nbit (debugPerms s2) 1 = false ∧
      nbit (debugPerms s2) 2 = false) ∧
    (s3.tap.attached = false ∧ recordBlock s3 = 0 ∧ nbit (debugPerms s3) 1 = true) ∧
    (dbgMpuOk s4 0x40150008 1 .write = false ∧ coldStart s5 = true ∧ powered s6 = true) := by decide

set_option maxRecDepth 20000 in
theorem witness_CommissioningRuns :
    let c (sub : BitVec 8) (pb : Bytes) : AdminCmd := {
      dom := 192, idx := 0, desc := 0x8F :: sub :: (zeros 6 ++ le 4 (2 ^ 32 - 1) ++ zeros 52), pb := pb, ready := true
      owner := true }
    let g : Staged := { roots := some [1], custody := some { unlockM := 2 }, strap := some 3 }
    let b : State := { power := { phase := .ready }, units := [(unitKey .rng, { en := true, st := .on })] }
    let cust : AdminCmd := c 0x41 ([2, 2] ++ zeros 6 ++ ((List.range 2).map fun i =>
      le 1 i ++ [0, 1, 1] ++ zeros 4 ++ [4] ++ zeros 71).flatten)
    let strap : AdminCmd := c 0x42 (255 :: zeros 7)
    let comp : AdminCmd := c 0x43 []
    let comp2 : AdminCmd := { comp with staged := true }
    let s1 : State := { b with engine := { serving := [cust] } }
    let s2 : State := { b with engine := { serving := [cust] }, ownerPort := 3, lifecycle := .operational }
    let s3 : State := { b with engine := { serving := [strap] } }
    let s4 : State := { b with engine := { serving := [comp] }, owner := { staged := g } }
    let s5 : State := { b with engine := { serving := [comp2] }, owner := { roots := [1] } }
    let s6 : State := { b with engine := { serving := [comp] } }
    let s7 : State := { s2 with keys := { approval := some { id := approvalId cust, m := 0, roles := 0 } } }
    let s8 : State := { s5 with owner := { roots := [1], rootFuse := rootDigest [1] } }
    (cmdReady s1 192 0x8F 0x41 cust ∧ custodyRefusal s1 cust = none ∧ logRefusal s1 = none) ∧
    (cmdReady s2 192 0x8F 0x41 cust ∧ custodyRefusal s2 cust = none ∧ cmdReady s7 192 0x8F 0x41 cust) ∧
    (cmdReady s3 192 0x8F 0x42 strap ∧ factoryOnly s3 strap (allZero (strap.pb.drop 4)) = none) ∧
    (cmdReady s4 192 0x8F 0x43 comp ∧ factoryOnly s4 comp true = none ∧ logRefusal s4 = none ∧ s4.owner.staged = g ∧
      cmdReady s6 192 0x8F 0x43 comp) ∧
    (cmdReady s5 192 0x8F 0x43 comp2 ∧ s5.lifecycle = .factory ∧ commitBusy s5 = false ∧ drawWaits s5 = false ∧
      recordWaits s5 6 setOwner = false ∧ recordWaits s5 4 0 = false ∧ s8.lifecycle = .factory) := by
  simp only [cmdReady]; decide
theorem witness_CommissioningRuns_roots :
    let c : AdminCmd := {
      dom := 192, idx := 0, desc := 0x8F :: 0x40 :: (zeros 6 ++ le 4 (2 ^ 32 - 1) ++ zeros 52)
      pb := List.replicate 2049 1 ++ zeros 7, ready := true, owner := true }
    let s : State := { power := { phase := .ready }, engine := { serving := [c] } }
    cmdReady s 192 0x8F 0x40 c ∧ c.pb.length = 2056 ∧ factoryOnly s c (allZero (c.pb.drop 2049)) = none ∧
    logRefusal s = none := by
  refine ⟨⟨by decide, rfl, rfl, by decide, by decide⟩, ?_, ?_, by decide⟩
  · simp only [zeros, List.length_append, List.length_replicate]
  · have h : (List.replicate 2049 (1 : BitVec 8) ++ zeros 7).drop 2049 = zeros 7 := List.drop_left' List.length_replicate
    simp only [h]; decide

set_option maxRecDepth 20000 in
theorem witness_FirmwareIsUpdated :
    let c (op sub : BitVec 8) (tg : Nat) (pb inp : Bytes) : AdminCmd := {
      dom := 0, idx := 0, desc := op :: sub :: (zeros 6 ++ le 4 tg ++ zeros 52), pb := pb, input := inp, ready := true }
    let st (k : AdminCmd) : State := {
      power := { phase := .ready }, engine := { serving := [k] }, boot := { seq := 8, update := some ⟨1, 512, 9⟩ }
      flash := { fw := [(32768, .erased)] } }
    let bg : AdminCmd := c 0x92 0 0 (le 4 16776192 ++ le 4 9) []
    let da : AdminCmd := c 0x92 1 0 (zeros 8) (zeros 512)
    let fi : AdminCmd := c 0x92 2 0 [] []
    let ab : AdminCmd := c 0x92 3 0 [] []
    let em : AdminCmd := c 0x90 1 7 [] []
    let s1 : State := st bg
    let s2 : State := st da
    let s3 : State := st fi
    let s4 : State := st ab
    let s5 : State := st em
    let s6 : State := { st da with boot := { seq := 8 } }
    let s7 : State := { st fi with boot := { seq := 8 } }
    (cmdReady s1 0 0x92 0 bg ∧ aTarget bg.desc = 0 ∧ leAt bg.pb 0 4 = 16776192 ∧ leAt bg.pb 4 4 = 9 ∧
      logRefusal s1 = none ∧ s1.boot.bank < 2) ∧
    (cmdReady s2 0 0x92 1 da ∧ allZero (da.pb.drop 4) = true ∧ da.input.length = 512 ∧
      fwPage s2.flash 32768 = none ∧ cmdReady s6 0 0x92 1 da) ∧
    (cmdReady s3 0 0x92 2 fi ∧ fi.pb = [] ∧ cmdReady s7 0 0x92 2 fi) ∧ cmdReady s4 0 0x92 3 ab ∧
    (cmdReady s5 0 0x90 1 em ∧ aTarget em.desc = 7 ∧ logRefusal s5 = none) := by
  dsimp only; simp only [cmdReady]; (repeat' apply And.intro) <;> decide
set_option maxRecDepth 20000 in
theorem witness_FirmwareIsUpdated_applet :
    let c : AdminCmd := {
      dom := 0, idx := 0, desc := 0x90 :: 0 :: (zeros 6 ++ le 4 7 ++ zeros 52), pb := le 4 4 ++ zeros 4
      input := zeros 5468, ready := true }
    let s : State := { power := { phase := .ready }, engine := { serving := [c] } }
    cmdReady s 0 0x90 0 c ∧ aTarget c.desc = 7 ∧ c.pb.length = 8 ∧ allZero (c.pb.drop 4) = true ∧ leAt c.pb 0 4 = 4 ∧
    c.input.length = leAt c.pb 0 4 + 5464 ∧ logRefusal s = none := by
  refine ⟨⟨by decide, rfl, rfl, by decide, by decide⟩, by decide, by decide, by decide, by decide, ?_, by decide⟩
  have h : leAt (le 4 4 ++ zeros 4) 0 4 = 4 := by decide
  rw [h]; simp only [zeros, List.length_replicate]

theorem witness_EveryStepKeepsTheStateLegal : ∃ s t : State, legal s ∧ step s = .next t :=
  ⟨.reset, _, ⟨by decide, .inl rfl, .inl rfl⟩, rfl⟩

theorem witness_LifecycleFollowsItsTable : ∃ (c : Instr) (s t : State), exec c s = .next t := ⟨.managementTick 0, .reset, _, rfl⟩

theorem witness_StepsServeTheQueueAndFusesStay : ∃ s t : State, legal s ∧ step s = .next t ∧ s.lifecycle ≠ .factory := by
  refine ⟨{ State.reset with
    lifecycle := .commissioned, owner := { State.reset.owner with rootFuse := List.replicate 48 0 }
    pending := [.managementTick 0] }, _, ⟨by decide, .inl rfl, .inr (by decide)⟩, rfl, by decide⟩

end Sys2Proof.Tests
end

section
/-! The keeper's opcode bytes (R435) against the M column of R432: no instruction has a byte outside the column, and the
column's bytes are, one by one, those of a list of instructions. -/
namespace Sys2Proof.Machine

/-- The values of the M column of R432 in its order, the conditional ones for COND 0 to 14 (R429). -/
def opcodeColumn : List Nat :=
  [1, 2, 3, 4, 5, 8, 9, 10] ++ (List.range 15).map (0x10 + ·) ++ (List.range 7).map (0x20 + ·) ++
  (List.range 7).map (0x28 + ·) ++ (List.range 6).map (0x30 + ·) ++ (List.range 4).map (0x38 + ·) ++
  (List.range 15).map (0x40 + ·) ++ (List.range 15).map (0x50 + ·) ++ (List.range 11).map (0x60 + ·) ++
  (List.range 6).map (0x70 + ·)

@[simp] theorem opc8_kBcc (c : Fin 4) (cc : Fin 16) (tgt : Opnd) :
    opc8 (.kBcc c cc tgt) = if cc = 15 then none else some (0x40 + cc.val) :=
  apply_ite (Option.map Prod.fst) (cc = 15) none (some (0x40 + cc.val, [Spec.op tgt]))

@[simp] theorem opc8_kCsel (c : Fin 4) (d a b : Opnd) (cc : Fin 16) :
    opc8 (.kCsel c d a b cc) = if cc = 15 then none else some (0x50 + cc.val) :=
  apply_ite (Option.map Prod.fst) (cc = 15) none (some (0x50 + cc.val, [Spec.op d, .op a, .op b]))

/-- A conditional instruction's byte is in the column, when the column has the bytes from `base` on for every COND but 15. -/
theorem conditional_byte_all_mem {base : Nat} (hbase : ∀ cc : Fin 16, cc ≠ 15 → base + cc.val ∈ opcodeColumn) (cc : Fin 16) :
    (if cc = 15 then none else some (base + cc.val)).all (· ∈ opcodeColumn) = true := by
  split
  · rfl
  case isFalse h => simpa using hbase cc h

/-- An instruction's byte, where it has one, is in the column. Stated with `Option.all`, so that an instruction of fixed
byte and a command with no M form are both a computation; only a byte that depends on an operand needs an argument. -/
theorem opc8_all_mem_opcodeColumn (i : Instr) : (opc8 i).all (· ∈ opcodeColumn) = true := by
  cases i
  case kMovH c byte d a => cases byte <;> rfl
  case kLeapc c d off data => cases data <;> rfl
  case kBcc c cc tgt => simpa only [opc8_kBcc] using conditional_byte_all_mem (base := 0x40) (by decide) cc
  case kCsel c d a b cc => simpa only [opc8_kCsel] using conditional_byte_all_mem (base := 0x50) (by decide) cc
  all_goals rfl

/-- One instruction for each value of the column, in its order; `noncomputable` because `Instr` has more constructors than
Lean's runtime has tags. -/
noncomputable def opcodeColumnInstrs : List Instr :=
  let r : Opnd := .d 0
  let q : Opnd := .q 0
  let m : Opnd := .ind 0
  List.flatten [
    [.kMov 0 r r, .kMovH 0 false r r, .kMovH 0 true r r, .kLea 0 r m, .kLeapc 0 r 0 true,
      .kLdx 0 r m, .kStx 0 r m, .kTas 0 r m],
    [.kAdd 0 r r r, .kSub 0 r r r, .kAdc 0 r r r, .kSbc 0 r r r, .kAnd 0 r r r, .kOr 0 r r r, .kXor 0 r r r,
      .kNot 0 r r, .kNeg 0 r r, .kShl 0 r r r, .kShr 0 r r r, .kSar 0 r r r, .kRol 0 r r r, .kRor 0 r r r, .kCmp 0 r r],
    [.kMul 0 r r r, .kMulh 0 r r r, .kMulhu 0 r r r, .kDiv 0 r r r, .kDivu 0 r r r, .kRem 0 r r r, .kRemu 0 r r r],
    [.kMacq 0 q r r, .kMacqs 0 q r r, .kAddq 0 q r, .kAddqs 0 q r, .kShql 0 q r, .kShqr 0 q r, .kShqa 0 q r],
    [.kMovqL 0 r q, .kMovqH 0 r q, .kMovqG 0 r q, .kMovqTl 0 q r, .kMovqTh 0 q r, .kClrq 0 q],
    [.kTagr 0 r r, .kTagw 0 r r 0, .kTchk 0 r 0, .kDeclass 0 r r],
    (List.range 15).map fun cc => .kBcc 0 (Fin.ofNat 16 cc) (.pcrel 0),
    (List.range 15).map fun cc => .kCsel 0 r r r (Fin.ofNat 16 cc),
    [.kCall 0 r, .kRet 0, .kCallg 0 r, .kTrap 0 0, .kRetx 0, .kWait 0, .kFence 0, .kFenceI 0, .kMfs 0 r 0, .kMts 0 0 r,
      .kXb 0 r r],
    [.kBmov 0 0 0 none, .kBzero 0 0 none, .kBcrc 0 0 0 none, .kBcrcc 0 0 0 none, .kBmac 0 0 0 0 none, .kBmacs 0 0 0 0 none]]

theorem opc8_opcodeColumnInstrs : opcodeColumnInstrs.map opc8 = opcodeColumn.map some := rfl

theorem exists_opc8_eq_of_mem_opcodeColumn {b : Nat} (hb : b ∈ opcodeColumn) : ∃ i, opc8 i = some b := by
  have hmem : some b ∈ opcodeColumnInstrs.map opc8 := opc8_opcodeColumnInstrs ▸ List.mem_map_of_mem hb
  obtain ⟨i, -, hi⟩ := List.mem_map.mp hmem
  exact ⟨i, hi⟩

theorem mem_opcodeColumn_of_opc8 {i : Instr} {b : Nat} (h : opc8 i = some b) : b ∈ opcodeColumn := by
  simpa [h] using opc8_all_mem_opcodeColumn i

/-- Settles O33: both inclusions between the instructions' bytes and the column; the worked words are computed. -/
theorem opcodeBytesAreTheTables : Obligations.OpcodeBytesAreTheTables :=
  ⟨fun _ _ => mem_opcodeColumn_of_opc8, fun _ => exists_opc8_eq_of_mem_opcodeColumn,
    fun _ => ⟨rfl, rfl, rfl, rfl, rfl, rfl, rfl⟩, fun _ => ⟨rfl, rfl, rfl, rfl, rfl⟩⟩

end Sys2Proof.Machine
end

section
/-! The end of an interrupt (R474): bits of a number after one is cleared, the interrupt controller's state read back after a
write, and what EOI makes of an active source. -/
namespace Sys2Proof.Machine

theorem nbit_eq_testBit (n i : Nat) : nbit n i = n.testBit i := Nat.testBit_eq_decide_div_mod_eq.symm

theorem testBit_pred_of_odd {q : Nat} (hq : q % 2 = 1) (j : Nat) : (q - 1).testBit j = (q.testBit j && j != 0) := by
  cases j with
  | zero => simp [Nat.testBit_zero]; omega
  | succ j =>
    have hhalf : (q - 1) / 2 = q / 2 := by omega
    simp [Nat.testBit_add_one, hhalf]

/-- Clearing bit `i` clears that bit and no other: in `n = 2 ^ i * q + r` with `q` odd, it takes 1 from `q`. -/
@[simp] theorem nbit_clrBit (n i j : Nat) : nbit (clrBit n i) j = (nbit n j && j != i) := by
  by_cases hi : nbit n i = true
  · have hodd : n / 2 ^ i % 2 = 1 := by simpa [nbit] using hi
    have hr : n % 2 ^ i < 2 ^ i := Nat.mod_lt _ (Nat.two_pow_pos i)
    have hsplit := Nat.div_add_mod n (2 ^ i)
    have hsub : n - 2 ^ i = 2 ^ i * (n / 2 ^ i - 1) + n % 2 ^ i := by
      have hpos : 0 < n / 2 ^ i := Nat.pos_of_ne_zero fun h0 => by simp [h0] at hodd
      have hle : 2 ^ i ≤ 2 ^ i * (n / 2 ^ i) := Nat.le_mul_of_pos_right _ hpos
      rw [Nat.mul_sub_one, ← Nat.sub_add_comm hle, hsplit]
    have hn : n.testBit j = (2 ^ i * (n / 2 ^ i) + n % 2 ^ i).testBit j := by rw [hsplit]
    rw [clrBit, if_pos hi, nbit_eq_testBit, nbit_eq_testBit, hn, hsub, Nat.testBit_two_pow_mul_add _ hr,
      Nat.testBit_two_pow_mul_add _ hr]
    split
    case isTrue hlt => simp [Nat.ne_of_lt hlt]
    case isFalse hge =>
      have hzero : (j - i != 0) = (j != i) := by rw [Bool.eq_iff_iff]; simp; omega
      rw [testBit_pred_of_odd hodd, hzero]
  · rw [clrBit, if_neg hi]
    by_cases hj : j = i
    · simp [hj, hi]
    · simp [hj]

@[simp] theorem getInt_setInt (c : Nat) (i : IntCtl) (s : State) : getInt (setInt c i s) c = i := by
  simp [getInt, setInt]

@[simp] theorem setInt_part (c : Nat) (i : IntCtl) (s : State) : (setInt c i s).part = s.part := rfl

/-- Only the tick and software latches are inputs within the interrupt controller (R470, R472). -/
theorem levelIn_setInt (c d : Nat) (i : IntCtl) (s : State) {n : Nat} (h16 : n ≠ 16) (h64 : n < 64) :
    levelIn (setInt c i s) d n = levelIn s d n := by
  simp only [levelIn, if_neg h16, decide_eq_false (Nat.not_le_of_lt h64), Bool.false_and]
  rfl

theorem absentSrc_of_counted (p : Part) {n : Nat} (h : n < 16) : absentSrc p n = false := by
  simp [absentSrc]; omega

/-- While a counted source is inactive, it is pending exactly while its count is non-zero (R469). -/
theorem pendingSrc_of_counted {s : State} {c n : Nat} (ha : nbit (getInt s c).active n = false) (hn : n < 16) :
    pendingSrc s c n = ((mget {} (getInt s c).counts n).count != 0) := by
  simp [pendingSrc, countOf, ha, hn, absentSrc_of_counted]

/-- While a level source of a unit that the part has is inactive, it is pending exactly while its input is high (R470). -/
theorem pendingSrc_of_level {s : State} {c n : Nat} (ha : nbit (getInt s c).active n = false) (hn : 16 ≤ n)
    (hp : absentSrc s.part n = false) : pendingSrc s c n = levelIn s c n := by
  simp [pendingSrc, ha, Nat.not_lt_of_le hn, hp]

theorem exec_eoi (c : Fin 4) (n : Fin 128) {s : State} (hk : kprRuns s = true) :
    exec (.eoi c n) s = .next (setInt c.val (eoiOf n.val (getInt s c.val)) s) :=
  congrArg Host.Outcome.next (if_pos hk)

theorem eoiOf_of_inactive {n : Nat} {i : IntCtl} (h : nbit i.active n = false) : eoiOf n i = { i with eoiErr := true } := by
  simp [eoiOf, h]

section
variable {n : Nat} {i : IntCtl} (h : nbit i.active n = true)
include h

/-- What EOI makes of an active source's controller; the field lemmas below follow from it. -/
theorem eoiOf_of_active : eoiOf n i = { i with
    active := clrBit i.active n
    counts := if n < 16 then mmod {} i.counts n (fun x => { x with count := x.count - 1 }) else i.counts
    tickLatch := i.tickLatch && n != 16
    soft := if 64 ≤ n then clrBit i.soft (n - 64) else i.soft } := by
  simp [eoiOf, h]

theorem nbit_active_eoiOf (m : Nat) : nbit (eoiOf n i).active m = (nbit i.active m && m != n) := by
  simp [eoiOf_of_active h]

/-- The one count that falls is the source's own, where it has one. -/
theorem mget_counts_eoiOf {m : Nat} (hm : m < 16) : mget {} (eoiOf n i).counts m =
    { mget {} i.counts m with count := (mget {} i.counts m).count - (if m = n then 1 else 0) } := by
  by_cases hmn : m = n
  · subst hmn; simp [eoiOf_of_active h, mmod, hm]
  · by_cases hn : n < 16 <;> simp [eoiOf_of_active h, mmod, hn, hmn]

theorem nbit_soft_eoiOf (m : Nat) : nbit (eoiOf n i).soft m = (nbit i.soft m && n != 64 + m) := by
  rw [eoiOf_of_active h]
  split
  case isTrue hn =>
    have hbit : (m != n - 64) = (n != 64 + m) := by rw [Bool.eq_iff_iff]; simp; omega
    rw [nbit_clrBit, hbit]
  case isFalse hn =>
    have hne : n ≠ 64 + m := by omega
    simp [hne]

end

/-- Settles O39: by whether the source is active; an active source's EOI clears its active bit, so that what remains of its
count or input decides whether it is pending again. -/
theorem endOfInterruptEndsSource : Obligations.EndOfInterruptEndsSource := by
  refine ⟨fun s c n hk ha => ⟨_, exec_eoi c n hk, by rw [eoiOf_of_inactive ha]⟩,
    fun s c n hk ha => ⟨_, exec_eoi c n hk, ?_⟩⟩
  have hended : nbit (getInt (setInt c (eoiOf n (getInt s c)) s) c).active n = false := by simp [nbit_active_eoiOf ha]
  dsimp only
  rw [getInt_setInt]
  refine ⟨rfl, ?en, ?missed, ?eoiErr, ?crossing, fun m _ => nbit_active_eoiOf ha m, fun m hm => ?ovf, fun m hm => ?count,
    ?tickLatch, fun m _ => nbit_soft_eoiOf ha m, fun hn => ?counted, fun hn hp => pendingSrc_of_level hended hn hp,
    fun _ h16 h64 => levelIn_setInt _ _ _ s h16 h64⟩
  case ovf => rw [mget_counts_eoiOf ha hm]
  case count => rw [mget_counts_eoiOf ha hm]
  case counted => rw [pendingSrc_of_counted hended hn, getInt_setInt]
  all_goals rw [eoiOf_of_active ha]

end Sys2Proof.Machine
end

section
/-! The boot counter (R534): a saturating sum is a minimum, and the state that PLL_LOCK answers at step 4 of R68. -/
namespace Sys2Proof.Machine

theorem satAdd_eq_min (top a b : Nat) : satAdd top a b = min top (a + b) := Nat.min_def.symm

/-- The state after PLL_LOCK where it has an effect: at step 4 of a start (R68), with EXTEST not in force (R618). -/
theorem exec_pllLock {s : State} (hphase : s.power.phase = .booting 2 ∨ s.power.phase = .booting 3)
    (hext : s.tap.extest = false) :
    exec .pllLock s = .next { s with
      power := { s.power with phase := .booting 4 }
      clocks := { s.clocks with pllDp := true, pllDram := true, pllKpr := true }
      backup := { s.backup with bootCount := satAdd (2 ^ 32 - 1) s.backup.bootCount 1 }
      tap := { s.tap with
        cert := s.tap.cert.filter (DebugCert.covers (satAdd (2 ^ 32 - 1) s.backup.bootCount 1)) } } :=
  congrArg Host.Outcome.next (if_pos (by simpa [hext] using hphase))

/-- PLL_LOCK takes the boot counter to its successor, or to its top where the successor lies beyond it. -/
theorem pllLock_answers_bootCount {s : State} (hphase : s.power.phase = .booting 2 ∨ s.power.phase = .booting 3)
    (hext : s.tap.extest = false) :
    answers .pllLock s fun t => t.backup.bootCount = min (2 ^ 32 - 1) (s.backup.bootCount + 1) :=
  ⟨_, exec_pllLock hphase hext, satAdd_eq_min ..⟩

/-- Settles O9: PLL_LOCK takes the counter `n` to `min (2 ^ 32 - 1) (n + 1)`, which is `n + 1` below the top and the top at
the top. -/
theorem bootCounterNeverWraps : Obligations.BootCounterNeverWraps := by
  intro s hphase hext
  obtain ⟨t, ht, hcount⟩ := pllLock_answers_bootCount hphase hext
  refine ⟨fun hbelow => ⟨t, ht, ?below⟩, fun htop => ⟨t, ht, ?top⟩⟩
  case below => exact hcount.trans (Nat.min_eq_right (by omega))
  case top => exact hcount.trans (Nat.min_eq_left (by omega))

end Sys2Proof.Machine
end
